-- ==== Sys2Proof/Word.lean ====
section
/-! DEFINITION. The word types of the seat protocol. -/

namespace Sys2Proof

/-- One byte of a frame (R180). -/
abbrev Byte := BitVec 8

/-- A 16-bit field: an Ethernet type, an event set (R170, R181). -/
abbrev Half := BitVec 16

/-- A 32-bit field: node, process, tag, image word (R158, R180). -/
abbrev Word := BitVec 32

/-- A 48-bit Ethernet address (R176). -/
abbrev Mac := BitVec 48

end Sys2Proof
end

