-- ==== Sys2Proof/Config.lean ====
section
/-! DEFINITION. What the part fixes: capacities and ranges (stated by the spec), the reference clock's scale,
and the constants the spec leaves open, which are opaque. -/

namespace Sys2Proof.Config

/-- Pool numbers run from 0 to 1023 (R1). -/
def pools : Nat := 1024
/-- Slots of the Hold Table (R65). -/
def holdSlots : Nat := 16384
/-- Generations of a slot run from 0 to 32767 and wrap (R64). -/
def generations : Nat := 32768
/-- Places of the wait-entry store (R80). -/
def waitPlaces : Nat := 2048
/-- Entries of the Forwarding Table (R116). -/
def forwardEntries : Nat := 256
/-- Keys kept by the late-key record (R118). -/
def lateKeys : Nat := 64
/-- Ranges of a Node Group Map (R10). -/
def groupRanges : Nat := 512
/-- Pools per feature (R9). -/
def poolsPerFeature : Nat := 8
/-- Frames of the Farm intake queue (R171). -/
def farmIntake : Nat := 512
/-- Frames of the Service intake queue (R171). -/
def serviceIntake : Nat := 256
/-- Frames of the Farm Reply Queue (R177). -/
def farmReplies : Nat := 1024
/-- Entries of the Upstream Queue (R178). -/
def upstream : Nat := 1024
/-- Seat-traffic entries the Upstream Queue may hold (R178). -/
def upstreamSeat : Nat := 992
/-- Farm intake occupancy at which the pause control closes (R174). -/
def pauseAt : Nat := 448
/-- Farm intake occupancy at which the pause control opens again (R174). -/
def openAt : Nat := 256
/-- Pause time of the pause frames sent while PAUSED (R174). -/
def pauseQuanta : Nat := 65535
/-- The top of engine time, 2^48 - 1 (R131, R37). -/
def maxTime : Nat := 2 ^ 48 - 1
/-- The top of every statistics counter (R192). -/
def maxCount : Nat := 4294967295
/-- Milliseconds of a day (R7). -/
def dayMs : Nat := 86400000
/-- The device code (R185). -/
def deviceCode : Nat := 0x4620

/-- Cycles of the 156.25 MHz reference clock in one millisecond (00_scope.md, Pin summary; log 3). -/
def msCycles : Nat := 156250
/-- Cycles in one pause quantum of 512 bit times, 51.2 ns (R175; log 3). -/
def quantumCycles : Nat := 8
/-- Cycles of a probe window per millisecond of the probe interval, 1.5 × P (R141). -/
def windowCyclesPerMs : Nat := 234375
/-- Cycles between two pause frames while PAUSED, 2 ms (R174). -/
def refreshCycles : Nat := 312500

/-- The destination address of the Farm Port's pause frames: not given by the spec, free (log 10). -/
opaque pauseDestination : Mac
/-- The source address of the Farm Port's pause frames: not given by the spec, free (log 10). -/
opaque pauseSource : Mac
/-- The hardware revision less one: fixed in the part, not given by the spec, free (R185; log 11). -/
opaque revisionLessOne : Fin 255
/-- The value bytes that follow the indication "none" in a management reply, by place in the item: not given by
the spec, free (R181; log 11). -/
opaque absentByte : Nat → Byte
/-- The four bytes that carry an autonomy clock too great for them: not given by the spec, free (R148, R181, R186; log 46). -/
opaque greatClock : Nat → Word

/-- The hardware revision, a number from 1 upward that fits one byte (R181, R185). -/
def hardwareRevision : Nat := revisionLessOne.val + 1

end Sys2Proof.Config
end

