-- ==== Sys2Proof/Syntax.lean ====
section
/-! DEFINITION. The commands: one constructor for each row of spec/opcode_table.json, with the frames and ports
they name. -/

namespace Sys2Proof

/-- The two Ethernet ports (10_ports_intake_and_frame_formats.md). -/
inductive Port where
  | farm
  | service
  deriving DecidableEq, Repr

/-- An Ethernet frame as it stands at a port: addresses, type field, the bytes that follow the type up to the end
of the padding, and the value of its frame check sequence (R172, R180; log 28). -/
structure Frame where
  dst : Mac
  src : Mac
  etype : Half
  payload : List Byte
  fcs : Word
  deriving DecidableEq, Repr

/-- The commands of the block. A message's fields are not operands: they are the bytes of the frame at the head of
the intake queue that the command takes (log 2). -/
inductive Instr where
  /-- FRAME_RECEIVE (R171): a frame arrives at a port. -/
  | frameReceive (port : Port) (frame : Frame)
  /-- FARM_PAUSE_REFRESH (R174). -/
  | farmPauseRefresh
  /-- BRIDGE_FRAME_PASS (R170): the head of this port's intake queue passes to the opposite bridge slot. -/
  | bridgeFramePass (port : Port)
  /-- SERVICE_PAUSE_FRAME (R175): a pause frame with this pause time arrives at the Service Port. -/
  | servicePauseFrame (quanta : Half)
  /-- SERVICE_PAUSE_EXPIRY (R175). -/
  | servicePauseExpiry
  /-- FRAME_TRANSMIT (R176): this port's frame in progress ends and its arbiter chooses the next. -/
  | frameTransmit (port : Port)
  /-- PROTOCOL_ERROR (R173): the head of this port's intake queue is answered PROTOCOL_ERROR. -/
  | protocolError (port : Port)
  /-- CHECKOUT (R49). -/
  | checkout
  /-- CHECKIN (R56). -/
  | checkin
  /-- RENEW (R58). -/
  | renew
  /-- CANCEL (R59). -/
  | cancel
  /-- QUERY (R60). -/
  | query
  /-- SERVICE_REPLY_RELAY (R117). -/
  | serviceReplyRelay
  /-- PROBE (R144), good or bad (R143). -/
  | probe
  /-- WINDOW_EXPIRY (R143). -/
  | windowExpiry
  /-- AUTONOMY_LIMIT_REACHED (R151). -/
  | autonomyLimitReached
  /-- RENEW_DEADLINE_EXPIRY (R68). -/
  | renewDeadlineExpiry
  /-- GRACE_END_RECLAIM (R69). -/
  | graceEndReclaim
  /-- LINGER_END (R70). -/
  | lingerEnd
  /-- WAIT_DEADLINE_EXPIRY (R92). -/
  | waitDeadlineExpiry
  /-- FORWARD_DEADLINE_EXPIRY (R118). -/
  | forwardDeadlineExpiry
  /-- QUEUE_SERVICE_PASS (R85): the pass asked for on this pool. -/
  | queueServicePass (pool : Nat)
  /-- EPOCH_BOUNDARY (R137). -/
  | epochBoundary
  /-- DAY_CHANGE (R138). -/
  | dayChange
  /-- IDENTIFY (R185). -/
  | identify
  /-- READ_STATUS (R186). -/
  | readStatus
  /-- READ_POOL (R187). -/
  | readPool
  /-- SET_PARAMETERS (R188). -/
  | setParameters
  /-- SET_NOTIFY (R190). -/
  | setNotify
  /-- CLEAR_EVENTS (R191). -/
  | clearEvents
  /-- RESTART (R193). -/
  | restart
  /-- POWER_ON_RESET (R194). -/
  | powerOnReset
  /-- LINE_RESET (R194): RESET_N goes to this level, low or high. -/
  | lineReset (low : Bool)
  /-- LOAD_POOLS (R15). -/
  | loadPools
  /-- LOAD_GROUPS (R123). -/
  | loadGroups
  /-- CLEAR_SHADOW (R124). -/
  | clearShadow
  /-- SWITCH (R125). -/
  | switch
  /-- DELEGATE (R101). -/
  | delegate
  /-- CENSUS (R105). -/
  | census
  /-- REVOKE (R111). -/
  | revoke
  /-- LIST_HOLDS (R78). -/
  | listHolds
  /-- LIST_QUEUE (R97). -/
  | listQueue
  /-- EVICT (R76). -/
  | evict
  /-- DRAIN (R42). -/
  | drain
  /-- UNDRAIN (R44). -/
  | undrain
  /-- SET_TIME (R135). -/
  | setTime
  /-- INJECT_ECHO_ERROR (R153). -/
  | injectEchoError
  /-- RECONCILE (R155). -/
  | reconcile
  /-- IMAGE_READ (R161). -/
  | imageRead
  /-- IMAGE_WRITE (R162). -/
  | imageWrite
  /-- RESUME (R163). -/
  | resume
  /-- SEAT_FRAME_DROP (R172): the head of this port's intake queue fails a check and is dropped. -/
  | seatFrameDrop (port : Port)
  deriving DecidableEq, Repr

end Sys2Proof
end

