-- ==== Sys2Proof/Machine/Table.lean ====
section
/-! DEFINITION. Sparse tables: lists of key and value pairs, keys strictly rising. A key that is not listed reads as
the collection's empty value. -/

namespace Sys2Proof

/-- A collection kept sparsely, keyed by a number. -/
abbrev Table (α : Type) := List (Nat × α)

/-- The value listed under a key. -/
def Table.get? {α : Type} : Table α → Nat → Option α
  | [], _ => none
  | (k, v) :: t, key => if k = key then some v else Table.get? t key

/-- List a value under a key, in place of any that stands there; the keys stay in order. -/
def Table.put {α : Type} : Table α → Nat → α → Table α
  | [], key, v => [(key, v)]
  | (k, w) :: t, key, v =>
    if key < k then (key, v) :: (k, w) :: t
    else if key = k then (key, v) :: t
    else (k, w) :: Table.put t key v

/-- Take a key out of the table. -/
def Table.remove {α : Type} (t : Table α) (key : Nat) : Table α := t.filter (fun e => e.1 ≠ key)

/-- Read under a default: an unlisted key reads as `d`. -/
def Table.getD {α : Type} (t : Table α) (d : α) (key : Nat) : α := (Table.get? t key).getD d

/-- Write under a default: writing `d` takes the key out. -/
def Table.putD {α : Type} [DecidableEq α] (t : Table α) (d : α) (key : Nat) (v : α) : Table α :=
  if v = d then Table.remove t key else Table.put t key v

/-- Change every listed value, under a default. -/
def Table.mapD {α : Type} [DecidableEq α] (t : Table α) (d : α) (f : α → α) : Table α :=
  (t.map (fun e => (e.1, f e.2))).filter (fun e => e.2 ≠ d)

/-- The lowest number from `n` up that is no key of a table with rising keys from `n` up. -/
def Table.lowestFree {α : Type} : Nat → Table α → Nat
  | n, [] => n
  | n, (k, _) :: t => if k = n then Table.lowestFree (n + 1) t else n

/-- The canonical form: keys strictly rising. -/
def Table.Rising {α : Type} (t : Table α) : Prop := List.Pairwise (fun a b => a.1 < b.1) t

/-- The canonical form under a default: keys strictly rising, below `bound`, and no entry equal to what an unlisted
key reads as. -/
def Table.Canonical {α : Type} (t : Table α) (d : α) (bound : Nat) : Prop :=
  Table.Rising t ∧ ∀ e ∈ t, e.1 < bound ∧ e.2 ≠ d

/-- Put a number into a strictly rising list of numbers. -/
def insertNat (n : Nat) : List Nat → List Nat
  | [] => [n]
  | m :: ms => if n < m then n :: m :: ms else if n = m then m :: ms else m :: insertNat n ms

/-- The least element of a list by a key, the first one where several tie. -/
def firstBy {α : Type} (key : α → Nat) : List α → Option α
  | [] => none
  | a :: as =>
    match firstBy key as with
    | none => some a
    | some b => if key a ≤ key b then some a else some b

/-- Put an element into a list in the order of a key, before the first element whose key is not less. -/
def insertBy {α : Type} (key : α → Nat) (a : α) : List α → List α
  | [] => [a]
  | b :: bs => if key a ≤ key b then a :: b :: bs else b :: insertBy key a bs

/-- A list in ascending order of a key, elements with equal keys in the order they stood. -/
def sortBy {α : Type} (key : α → Nat) : List α → List α
  | [] => []
  | a :: as => insertBy key a (sortBy key as)

/-- A statistics count raised by one, which stays at its top (R192, R36). -/
def bump (n : Nat) : Nat := if n < Config.maxCount then n + 1 else n

end Sys2Proof
end

