-- ==== Sys2Proof/Machine/Records.lean ====
section
/-! DEFINITION. The records the engine keeps and the messages it forms: pool records, accounts, holds, wait entries,
forwards, and the entries of the outbound queues. -/

namespace Sys2Proof.Machine

/-- The engine service state (R39). -/
inductive EngineState where
  | unconfigured
  | serving
  | draining
  | entering
  | reconciling
  | faultHold
  deriving DecidableEq, Repr

/-- The delegation state of a pool (R99). -/
inductive DelegationState where
  | absent
  | shared
  | sole
  | soleChanged
  deriving DecidableEq, Repr

/-- The state of a hold (R63). -/
inductive HoldState where
  | active
  | stale
  | lingering
  deriving DecidableEq, Repr

/-- The sharing rule (R6). -/
inductive Sharing where
  | perProcess
  | perNode
  deriving DecidableEq, Repr

/-- The queue policy (R2, R29). -/
inductive Policy where
  | fifo
  | backfill
  deriving DecidableEq, Repr

/-- The time source state (R131). -/
inductive TimeSource where
  | unset
  | tracking
  | holdover
  deriving DecidableEq, Repr

/-- The arming origin (R140). -/
inductive Origin where
  | down
  | lost
  deriving DecidableEq, Repr

/-- The link state, with what is held in it alone (R140). -/
inductive LinkState where
  | down
  | arming (origin : Origin) (good : Nat)
  | up
  | suspect (miss : Nat)
  | lost
  deriving DecidableEq, Repr

/-- The restart cause (R193). -/
inductive RestartCause where
  | powerOn
  | lineReset
  | softFull
  | softDynamic
  deriving DecidableEq, Repr

/-- The 15 events (R189). -/
inductive Event where
  | poolOverdraft
  | poolOvercommit
  | holdTableFull
  | queueStoreFull
  | linkLost
  | linkRestored
  | timeSet
  | timeConflict
  | holdover
  | bankSwitched
  | reconcileFault
  | autonomyExpired
  | reportGap
  | intakeOverrun
  | restarted
  deriving DecidableEq, Repr

/-- A set of events, bit order of the ECHO digest (R181, R189). -/
abbrev EventSet := BitVec 15

/-- A request key: node, process and tag of a seat header (R46). -/
structure Key where
  node : Word
  process : Word
  tag : Word
  deriving DecidableEq, Repr

/-- The Ethernet addresses of a received frame, kept to answer it (R176). -/
structure Addrs where
  src : Mac
  dst : Mac
  deriving DecidableEq, Repr

/-- A handle: issuer mark, generation and slot (R64). -/
structure Handle where
  service : Bool
  gen : Nat
  slot : Nat
  deriving DecidableEq, Repr

/-- A filled pool record (R2). -/
structure PoolRecord where
  feature : Nat
  versionFloor : Nat
  versionCeiling : Nat
  tokensPerSeat : Nat
  coreStep : Nat
  coreCap : Nat
  overdraft : Nat
  groupMask : Word
  sharing : Sharing
  renewMin : Nat
  renewMax : Nat
  grace : Nat
  linger : Nat
  queueLimit : Nat
  maxWait : Nat
  policy : Policy
  protectAge : Nat
  startDay : Nat
  endDay : Nat
  deriving DecidableEq, Repr

/-- A range of a Node Group Map (R10). -/
structure NodeRange where
  low : Word
  high : Word
  group : Nat
  deriving DecidableEq, Repr

/-- One bank: pool records, an unlisted pool number being empty, and the group map in load order (R1, R10). -/
structure Bank where
  records : Table PoolRecord
  ranges : List NodeRange
  deriving DecidableEq, Repr

/-- The tests of a SWITCH (R125). -/
inductive SwitchTest where
  | recordCount
  | matchSetSize
  | rangeOverlap
  | reassignment
  deriving DecidableEq, Repr

/-- A failed test and the item it names (R125). -/
structure SwitchFailure where
  test : SwitchTest
  item : Nat
  deriving DecidableEq, Repr

/-- A PENDING switch: the expected record count, and the failing test and item when it is held (R122, R128). -/
structure PendingSwitch where
  expected : Nat
  held : Option SwitchFailure
  deriving DecidableEq, Repr

/-- A Pool Account (R20). -/
structure Account where
  state : DelegationState
  d : Nat
  h : Nat
  holdCount : Nat
  queueLength : Nat
  reported : Nat
  peak : Nat
  gap : Bool
  stalled : Bool
  overcommit : Bool
  reassign : Bool
  grantsThis : Nat
  peakThis : Nat
  grantsLast : Nat
  peakLast : Nat
  deriving DecidableEq, Repr

/-- The cleared account (R21). -/
def Account.cleared : Account :=
  { state := .absent, d := 0, h := 0, holdCount := 0, queueLength := 0, reported := 0, peak := 0, gap := false, stalled := false,
    overcommit := false, reassign := false, grantsThis := 0, peakThis := 0, grantsLast := 0, peakLast := 0 }

/-- A hold record (R63). Its handle is its slot's number with the slot's generation (log 32). -/
structure Hold where
  pool : Nat
  node : Word
  process : Word
  tokens : Nat
  useCount : Nat
  state : HoldState
  interval : Nat
  deadline : Nat
  granted : Nat
  tag : Word
  deriving DecidableEq, Repr

/-- A wait entry (R80). `stepPassed` says that a forward step has reached the wait deadline (R93, R136). -/
structure WaitEntry where
  key : Key
  pool : Nat
  seats : Nat
  cores : Nat
  demand : Nat
  target : Option Handle
  version : Nat
  interval : Nat
  flags : Byte
  enqueued : Nat
  deadline : Nat
  addrs : Addrs
  stepPassed : Bool
  deriving DecidableEq, Repr

/-- The farm request kinds (R116). -/
inductive RequestKind where
  | checkout
  | checkin
  | renew
  | cancel
  | query
  deriving DecidableEq, Repr

/-- A Forwarding Table entry; the list order is the order of creation (R116). -/
structure Forward where
  key : Key
  kind : RequestKind
  feature : Nat
  deadline : Nat
  addrs : Addrs
  deriving DecidableEq, Repr

/-- A day change that has come about: the old day, none for UNSET, and the new day (R138). -/
structure DayOwed where
  old : Option Nat
  new : Nat
  deriving DecidableEq, Repr

/-- The seven parameters (R188). -/
structure Params where
  seatType : Half
  probeInterval : Nat
  forwardTimeout : Nat
  epochPeriod : Nat
  autonomyLimit : Nat
  stepLimit : Nat
  retryHint : Nat
  deriving DecidableEq, Repr

/-- The defaults (R188). -/
def Params.default : Params :=
  { seatType := 0x88B5, probeInterval := 1000, forwardTimeout := 500, epochPeriod := 10, autonomyLimit := 14400, stepLimit := 1000,
    retryHint := 200 }

/-- The counters kept for each port (R192). -/
structure PortStats where
  frames : Nat
  seatMessages : Nat
  checkErrors : Nat
  framingErrors : Nat
  overruns : Nat
  droppedReplies : Nat
  deriving DecidableEq, Repr

/-- Every port counter at 0 (R192). -/
def PortStats.zero : PortStats :=
  { frames := 0, seatMessages := 0, checkErrors := 0, framingErrors := 0, overruns := 0, droppedReplies := 0 }

/-- The counters kept for the engine (R192). -/
structure EngineStats where
  grants : Nat
  queued : Nat
  denials : Nat
  reclaims : Nat
  forwards : Nat
  forwardTimeouts : Nat
  lateReplies : Nat
  droppedManagement : Nat
  deriving DecidableEq, Repr

/-- Every engine counter at 0 (R192). -/
def EngineStats.zero : EngineStats :=
  { grants := 0, queued := 0, denials := 0, reclaims := 0, forwards := 0, forwardTimeouts := 0, lateReplies := 0, droppedManagement := 0 }

/-! ### Outbound messages -/

/-- The Ethernet header of a frame the engine forms (R176). -/
structure EthHeader where
  dst : Mac
  src : Mac
  etype : Half
  deriving DecidableEq, Repr

/-- The reasons of a DENY (R45). -/
inductive DenyReason where
  | noEntitlement
  | notEligible
  | outOfWindow
  | tooLarge
  | queueFull
  | noWait
  | useLimit
  deriving DecidableEq, Repr

/-- The reasons of a RETRY (R45). -/
inductive RetryReason where
  | holdsFull
  | duplicateTag
  | reconciling
  | serviceSlow
  | autonomyExpired
  | engineFault
  | noRoom
  deriving DecidableEq, Repr

/-- The farm replies and notices with what each carries (R45). -/
inductive FarmBody where
  | grant (handle : Handle) (tokens interval deadline : Nat)
  | queued (position demand : Nat)
  | deny (reason : DenyReason)
  | retry (reason : RetryReason) (hint : Nat)
  | released
  | renewed (deadline : Nat)
  | cancelled (tag : Word)
  | waitExpired
  | withdrawn
  | poolStatus (pool free queueLength : Nat) (state : DelegationState)
  | unknownHold
  | notWaiting (tag : Word)
  | unreachable
  | protocolError
  deriving DecidableEq, Repr

/-- An entry of the Farm Reply Queue: a reply the engine forms, or a service reply relayed unchanged (R117, R177). -/
inductive FarmEntry where
  | reply (eth : EthHeader) (key : Key) (body : FarmBody)
  | relay (frame : Frame)
  deriving DecidableEq, Repr

/-- What a CHECKOUT carries (R181). -/
structure CheckoutBody where
  feature : Nat
  flags : Byte
  version : Nat
  seats : Nat
  cores : Nat
  waitLimit : Nat
  interval : Nat
  deriving DecidableEq, Repr

/-- The change kinds of a usage report (R107). -/
inductive ChangeKind where
  | grant
  | upgrade
  | release
  | reclaim
  | lingerEnd
  | evict
  deriving DecidableEq, Repr

/-- A usage report (R107). -/
structure ReportBody where
  pool : Nat
  change : ChangeKind
  gap : Bool
  handle : Handle
  delta : Int
  resultingH : Nat
  deriving DecidableEq, Repr

/-- One hold of a TRANSFER frame (R113). -/
structure TransferHold where
  handle : Handle
  node : Word
  process : Word
  tokens : Nat
  useCount : Nat
  state : HoldState
  left : Nat
  deriving DecidableEq, Repr

/-- A TRANSFER frame's contents (R113). -/
structure TransferBody where
  pool : Nat
  number : Nat
  count : Nat
  holds : List TransferHold
  deriving DecidableEq, Repr

/-- The digest of an ECHO (R148). -/
structure Digest where
  farEndDefect : Bool
  autonomyRunning : Bool
  autonomyPassed : Bool
  engine : EngineState
  link : LinkState
  source : TimeSource
  now : Nat
  epoch : Nat
  autonomySeconds : Nat
  totalH : Nat
  totalD : Nat
  sharedPools : Nat
  solePools : Nat
  soleChangedPools : Nat
  occupied : Nat
  waiting : Nat
  forwarding : Nat
  pending : EventSet
  deriving DecidableEq, Repr

/-- An ECHO's contents (R148, R149). -/
structure EchoBody where
  sequence : Word
  mark : Nat
  solicited : Bool
  digest : Digest
  deriving DecidableEq, Repr

/-- A READY notice's contents (R157). -/
structure ReadyBody where
  length : Nat
  summaries : Nat
  entryTime : Nat
  buildTime : Nat
  reentry : Bool
  deriving DecidableEq, Repr

/-- The 25 management kinds (R181). -/
inductive MgmtKind where
  | identify
  | readStatus
  | readPool
  | setParameters
  | setNotify
  | clearEvents
  | restart
  | loadPools
  | loadGroups
  | clearShadow
  | switch
  | delegate
  | census
  | revoke
  | listHolds
  | listQueue
  | evict
  | drain
  | undrain
  | setTime
  | injectEchoError
  | reconcile
  | imageRead
  | imageWrite
  | resume
  deriving DecidableEq, Repr

/-- The reply statuses (R181, R184). -/
inductive MgmtStatus where
  | ok
  | okClamped
  | pending
  | badRequest
  | badState
  | conflict
  | notFound
  | readOnly
  | alreadyPending
  | noRoom
  deriving DecidableEq, Repr

/-- What READ_STATUS reports (R186). -/
structure StatusReport where
  engine : EngineState
  cause : RestartCause
  faultOffset : Option Nat
  activePresent : Bool
  activeFilled : Nat
  shadowFilled : Nat
  activeRanges : Nat
  shadowRanges : Nat
  pendingSwitch : Bool
  heldSwitch : Option SwitchFailure
  source : TimeSource
  now : Nat
  epoch : Nat
  day : Nat
  link : LinkState
  lastSequence : Word
  autonomyMs : Option Nat
  autonomyPassed : Bool
  echoError : Bool
  latch : Bool
  entryTime : Option Nat
  imageLength : Option Nat
  occupied : Nat
  waiting : Nat
  forwarding : Nat
  farmIntake : Nat
  serviceIntake : Nat
  farmReplies : Nat
  upstreamSeat : Nat
  upstreamAll : Nat
  farmPaused : Bool
  servicePaused : Bool
  pending : EventSet
  notify : EventSet
  params : Params
  farmStats : PortStats
  serviceStats : PortStats
  stats : EngineStats
  deriving DecidableEq, Repr

/-- What READ_POOL reports (R187). -/
structure PoolReport where
  feature : Nat
  account : Account
  allowance : Nat
  ceiling : Nat
  effectiveCeiling : Nat
  free : Nat
  overdraftInUse : Nat
  forwards : Nat
  deriving DecidableEq, Repr

/-- One summary of a CENSUS (R105). -/
structure CensusSummary where
  pool : Nat
  state : DelegationState
  d : Nat
  h : Nat
  holdCount : Nat
  queueLength : Nat
  peak : Nat
  gap : Bool
  deriving DecidableEq, Repr

/-- One entry of a LIST_HOLDS page (R78). -/
structure HoldLine where
  handle : Handle
  node : Word
  process : Word
  tokens : Nat
  useCount : Nat
  state : HoldState
  deadline : Nat
  granted : Nat
  tag : Word
  deriving DecidableEq, Repr

/-- One entry of a LIST_QUEUE page (R97). -/
structure QueueLine where
  position : Nat
  key : Key
  demand : Nat
  target : Option Handle
  seats : Nat
  cores : Nat
  enqueued : Nat
  deadline : Nat
  deriving DecidableEq, Repr

/-- The contents of a management reply behind its kind code; each constructor names the entry that lays it down. -/
inductive ReplyBody where
  /-- No contents: CLEAR_SHADOW, UNDRAIN, INJECT_ECHO_ERROR, PENDING, and the refusals that name nothing. -/
  | empty
  /-- IDENTIFY (R185). -/
  | identity (cause : RestartCause)
  /-- READ_STATUS (R186). -/
  | status (report : StatusReport)
  /-- READ_POOL (R187). -/
  | pool (report : PoolReport)
  /-- SET_PARAMETERS (R188). -/
  | parameters (clamped : Nat) (params : Params)
  /-- SET_NOTIFY (R190). -/
  | notify (notify pending : EventSet)
  /-- CLEAR_EVENTS (R191). -/
  | events (pending : EventSet)
  /-- RESTART (R193): the scope as coded. -/
  | scope (scope : Nat)
  /-- LOAD_POOLS taken (R15): the clamped count. -/
  | clampedCount (count : Nat)
  /-- LOAD_POOLS or LOAD_GROUPS refused (R17, R123): the position at fault. -/
  | position (position : Nat)
  /-- LOAD_GROUPS (R123): the shadow map's range count. -/
  | rangeCount (count : Nat)
  /-- SWITCH applied at once (R126). -/
  | switchApplied
  /-- SWITCH pending (R126, R127): the number of marked pools. -/
  | switchPending (marked : Nat)
  /-- SWITCH refused (R125). -/
  | switchRefused (failure : SwitchFailure)
  /-- DELEGATE (R104). -/
  | delegated (d h holdCount queueLength : Nat)
  /-- CENSUS (R105). -/
  | census (summaries : List CensusSummary) (settled : Bool)
  /-- REVOKE taken (R111, R113). -/
  | revoked (state : DelegationState) (d h holdCount queueLength frames : Nat)
  /-- REVOKE refused for room (R112): the frames it needs. -/
  | frames (count : Nat)
  /-- LIST_HOLDS (R78). -/
  | holds (pool page holdCount : Nat) (lines : List HoldLine)
  /-- LIST_QUEUE (R97). -/
  | queue (pool page queueLength : Nat) (stalled : Bool) (lines : List QueueLine)
  /-- EVICT (R76). -/
  | evicted (pool : Nat) (node process : Word) (tokens : Nat) (state : HoldState) (useCount : Nat)
  /-- DRAIN (R42). -/
  | drained (forwarded refused : Nat)
  /-- SET_TIME (R135). -/
  | time (now : Nat)
  /-- RECONCILE accepted (R155): REPORT entries waiting. -/
  | reports (count : Nat)
  /-- IMAGE_READ (R161). -/
  | words (words : List Word)
  /-- IMAGE_WRITE (R162). -/
  | written (offset count : Nat)
  /-- IMAGE_WRITE refused READ_ONLY (R162). -/
  | readOnlyAt (offset : Nat)
  /-- RESUME with a valid image (R166). -/
  | resumed (summaries : Nat) (relocated : Bool) (withdrawn handedOn : Nat) (entered : EngineState) (reentry : Bool) (overdue : Nat)
  /-- RESUME with an invalid image (R164). -/
  | fault (offset : Nat) (value : Word)
  deriving DecidableEq, Repr

/-- A management reply (R184). -/
structure MgmtReply where
  kind : MgmtKind
  status : MgmtStatus
  body : ReplyBody
  deriving DecidableEq, Repr

/-- An entry of the Upstream Queue (R178). -/
inductive UpEntry where
  /-- A farm request forwarded unchanged (R46). -/
  | forward (frame : Frame)
  /-- A rebuilt CHECKOUT (R96). -/
  | rebuilt (eth : EthHeader) (key : Key) (body : CheckoutBody)
  /-- A usage report (R107). -/
  | report (eth : EthHeader) (key : Key) (body : ReportBody)
  /-- A TRANSFER frame (R113). -/
  | transfer (eth : EthHeader) (key : Key) (body : TransferBody)
  /-- A management reply (R184). -/
  | reply (eth : EthHeader) (key : Key) (body : MgmtReply)
  /-- An ECHO, with a spoiled message check or a correct one (R148, R153). -/
  | echo (eth : EthHeader) (key : Key) (body : EchoBody) (spoiled : Bool)
  /-- An EVENT notice (R189). -/
  | event (eth : EthHeader) (pending : EventSet) (raised : Event) (now : Nat)
  /-- A READY notice (R157). -/
  | ready (eth : EthHeader) (key : Key) (body : ReadyBody)
  /-- A PROTOCOL_ERROR (R173). -/
  | protocolError (eth : EthHeader) (key : Key)
  deriving DecidableEq, Repr

/-- Seat traffic: FORWARD, REPORT and TRANSFER entries (R178). -/
def UpEntry.seatTraffic : UpEntry → Bool
  | .forward _ => true
  | .rebuilt _ _ _ => true
  | .report _ _ _ => true
  | .transfer _ _ _ => true
  | .reply _ _ _ => false
  | .echo _ _ _ _ => false
  | .event _ _ _ _ => false
  | .ready _ _ _ => false
  | .protocolError _ _ => false

/-- A REPORT entry (R157). -/
def UpEntry.isReport : UpEntry → Bool
  | .forward _ => false
  | .rebuilt _ _ _ => false
  | .report _ _ _ => true
  | .transfer _ _ _ => false
  | .reply _ _ _ => false
  | .echo _ _ _ _ => false
  | .event _ _ _ _ => false
  | .ready _ _ _ => false
  | .protocolError _ _ => false

end Sys2Proof.Machine
end

