-- ==== Sys2Proof/Machine/State.lean ====
section
/-! DEFINITION. The machine's state, block by block, and the state after power-on reset. -/

namespace Sys2Proof.Machine

/-- The Entitlement Matcher's banks and index, and the Bank Controller's pending switch (R1, R9, R122). -/
structure Banks where
  active : Option Bank
  shadow : Bank
  index : Table (List Nat)
  pendingSwitch : Option PendingSwitch
  deriving DecidableEq, Repr

/-- The Hold Table: the occupied slots, and the generations that are not 0 (R63, R64). -/
structure HoldTable where
  slots : Table Hold
  gens : Table Nat
  deriving DecidableEq, Repr

/-- The Queue Manager: the store in order of enqueue, the pass-requested marks, and those of them whose passes run in
pool-number order (R80, R81, R83, R90, R91). -/
structure QueueManager where
  entries : List WaitEntry
  marks : List Nat
  ordered : List Nat
  deriving DecidableEq, Repr

/-- The Forwarding Table in order of creation and the late-key record, oldest first (R116, R118). -/
structure Delegation where
  entries : List Forward
  late : List Key
  deriving DecidableEq, Repr

/-- Engine time, its source, and the boundaries and day changes not yet taken (R131, R137, R138; log 5). -/
structure Timebase where
  now : Nat
  source : TimeSource
  epochOwed : Nat
  dayOwed : List DayOwed
  deriving DecidableEq, Repr

/-- The Link Supervisor (R140). Moments are in cycles of the reference clock (log 3). -/
structure LinkSupervisor where
  state : LinkState
  windowExpiry : Option Nat
  lastBad : Option Nat
  lastSequence : Word
  autonomyStart : Option Nat
  autonomyPassed : Bool
  echoError : Bool
  deriving DecidableEq, Repr

/-- The Reconciliation Unit (R154), with what it keeps for the next image and READY (R155, R157, R167). -/
structure Reconciliation where
  latch : Bool
  latchedKey : Option Key
  originKey : Option Key
  entryTime : Option Nat
  image : Option (List Word)
  faultOffset : Option Nat
  entryDraining : Bool
  reentry : Bool
  deriving DecidableEq, Repr

/-- The Farm Port: intake queue, bridge slot, Farm Reply Queue, pause control, transmitter, counters (R170 to R177, R192). -/
structure FarmPort where
  intake : List Frame
  bridge : Option Frame
  replies : List FarmEntry
  paused : Bool
  pauseDue : List Nat
  refreshAt : Option Nat
  sending : Option Frame
  stats : PortStats
  deriving DecidableEq, Repr

/-- The Service Port: intake queue, bridge slot, Upstream Queue, restart reply slot, pause in force, transmitter, the
addresses of the last seat frame taken, counters (R170 to R178, R192, R193). -/
structure ServicePort where
  intake : List Frame
  bridge : Option Frame
  upstream : List UpEntry
  restartSlot : Option UpEntry
  pauseEnd : Option Nat
  sending : Option Frame
  peer : Addrs
  stats : PortStats
  deriving DecidableEq, Repr

/-- The Management Unit (R185, R188 to R193). -/
structure Management where
  params : Params
  events : EventSet
  notify : EventSet
  stats : EngineStats
  cause : RestartCause
  deriving DecidableEq, Repr

/-- The whole machine. -/
structure State where
  /-- The commands that wait, first in, first out. -/
  pending : List Instr
  /-- Cycles of the reference clock (log 3). -/
  clk : Nat
  /-- RESET_N is held low (R194). -/
  resetLow : Bool
  /-- The engine service state (R39). -/
  mode : EngineState
  /-- The banks, the Feature Index and the pending switch. -/
  banks : Banks
  /-- The Pool Accounts; an unlisted pool's account is cleared (R20, R21). -/
  accounts : Table Account
  /-- The Hold Table. -/
  holds : HoldTable
  /-- The Queue Manager. -/
  queues : QueueManager
  /-- The Forwarding Table and the late-key record. -/
  fwd : Delegation
  /-- The Timebase. -/
  time : Timebase
  /-- The Link Supervisor. -/
  link : LinkSupervisor
  /-- The Reconciliation Unit. -/
  recon : Reconciliation
  /-- The Farm Port. -/
  farm : FarmPort
  /-- The Service Port. -/
  svc : ServicePort
  /-- The Management Unit. -/
  mgmt : Management
  /-- Places of the Upstream Queue kept back within one step (R108, R184; log 16); 0 between steps. -/
  reserved : Nat
  /-- EVENT notices of a management request not yet answered (R184; log 16); none between steps. -/
  deferred : Option (List UpEntry)
  deriving DecidableEq, Repr

/-- The faults of a step. The spec describes nothing that stops the part: every wrong input is answered, dropped and
counted, or ignored. So there is no fault. -/
inductive Fault where
  deriving DecidableEq, Repr

/-- The refusals of a step. -/
inductive Refusal where
  /-- Raised by exec alone, for a command that has no meaning yet; safe. No arm of this model answers it. -/
  | notModelled (mnemonic : String)
  deriving DecidableEq, Repr

/-- An empty bank (R1). -/
def Bank.blank : Bank := { records := [], ranges := [] }

/-- The state after a power-on reset (R194 and the rules its table names; the fields the spec gives no value are in log 6). -/
def State.reset : State :=
  { pending := [], clk := 0, resetLow := false, mode := .unconfigured,
    banks := { active := none, shadow := Bank.blank, index := [], pendingSwitch := none },
    accounts := [],
    holds := { slots := [], gens := [] },
    queues := { entries := [], marks := [], ordered := [] },
    fwd := { entries := [], late := [] },
    time := { now := 0, source := .unset, epochOwed := 0, dayOwed := [] },
    link := { state := .down, windowExpiry := none, lastBad := none, lastSequence := 0, autonomyStart := none, autonomyPassed := false,
              echoError := false },
    recon := { latch := false, latchedKey := none, originKey := none, entryTime := none, image := none, faultOffset := none,
               entryDraining := false, reentry := false },
    farm := { intake := [], bridge := none, replies := [], paused := false, pauseDue := [], refreshAt := none, sending := none,
              stats := PortStats.zero },
    svc := { intake := [], bridge := none, upstream := [], restartSlot := none, pauseEnd := none, sending := none,
             peer := { src := 0, dst := 0 }, stats := PortStats.zero },
    mgmt := { params := Params.default, events := 0x4000, notify := 0, stats := EngineStats.zero, cause := .powerOn },
    reserved := 0, deferred := none }

/-- The state with `pending` replaced. -/
def State.setPending (s : State) (v : List Instr) : State := { s with pending := v }

/-- The state with `clk` replaced. -/
def State.setClk (s : State) (v : Nat) : State := { s with clk := v }

/-- The state with `resetLow` replaced. -/
def State.setResetLow (s : State) (v : Bool) : State := { s with resetLow := v }

/-- The state with `mode` replaced. -/
def State.setMode (s : State) (v : EngineState) : State := { s with mode := v }

/-- The state with `banks` replaced. -/
def State.setBanks (s : State) (v : Banks) : State := { s with banks := v }

/-- The state with `accounts` replaced. -/
def State.setAccounts (s : State) (v : Table Account) : State := { s with accounts := v }

/-- The state with `holds` replaced. -/
def State.setHolds (s : State) (v : HoldTable) : State := { s with holds := v }

/-- The state with `queues` replaced. -/
def State.setQueues (s : State) (v : QueueManager) : State := { s with queues := v }

/-- The state with `fwd` replaced. -/
def State.setFwd (s : State) (v : Delegation) : State := { s with fwd := v }

/-- The state with `time` replaced. -/
def State.setTime (s : State) (v : Timebase) : State := { s with time := v }

/-- The state with `link` replaced. -/
def State.setLink (s : State) (v : LinkSupervisor) : State := { s with link := v }

/-- The state with `recon` replaced. -/
def State.setRecon (s : State) (v : Reconciliation) : State := { s with recon := v }

/-- The state with `farm` replaced. -/
def State.setFarm (s : State) (v : FarmPort) : State := { s with farm := v }

/-- The state with `svc` replaced. -/
def State.setSvc (s : State) (v : ServicePort) : State := { s with svc := v }

/-- The state with `mgmt` replaced. -/
def State.setMgmt (s : State) (v : Management) : State := { s with mgmt := v }

/-- The state with `reserved` replaced. -/
def State.setReserved (s : State) (v : Nat) : State := { s with reserved := v }

/-- The state with `deferred` replaced. -/
def State.setDeferred (s : State) (v : Option (List UpEntry)) : State := { s with deferred := v }

end Sys2Proof.Machine
end

