-- ==== Sys2Proof/Machine/Flags.lean ====
section
/-! DEFINITION. Event flags and notices (R189), the room and the writing of the two outbound queues (R177, R178), and the
counters that go with them (R192). -/

namespace Sys2Proof.Machine

/-! ### Addresses of frames the engine forms (R176) -/

/-- The Ethernet header of a frame the engine originates toward the service (R176; log 15). -/
def State.ownEth (s : State) : EthHeader :=
  { dst := s.svc.peer.src, src := s.svc.peer.dst, etype := s.mgmt.params.seatType }

/-- The Ethernet header of an answer to a frame with these addresses (R176; log 15). -/
def State.answerEth (s : State) (a : Addrs) : EthHeader := { dst := a.src, src := a.dst, etype := s.mgmt.params.seatType }

/-! ### The Upstream Queue (R178) -/

/-- The count of seat-traffic entries (R178). -/
def State.seatCount (s : State) : Nat := (s.svc.upstream.filter UpEntry.seatTraffic).length

/-- The count of REPORT entries (R155, R157). -/
def State.reportCount (s : State) : Nat := (s.svc.upstream.filter UpEntry.isReport).length

/-- Management room, less the places kept back in this step (R178, R184). -/
def State.mgmtRoom (s : State) : Bool := decide (s.svc.upstream.length + s.reserved < Config.upstream)

/-- Seat-traffic room, less the places kept back in this step (R178, R184). -/
def State.seatRoom (s : State) : Bool :=
  decide (s.seatCount < Config.upstreamSeat ∧ s.svc.upstream.length + s.reserved < Config.upstream)

/-- An entry joins the tail of the Upstream Queue. -/
def State.pushUp (e : UpEntry) (s : State) : State := s.setSvc { s.svc with upstream := s.svc.upstream ++ [e] }

/-- A frame for the service found no place: one dropped reply of the Service Port (R178, R192). -/
def State.dropUp (s : State) : State :=
  s.setSvc { s.svc with stats := { s.svc.stats with droppedReplies := bump s.svc.stats.droppedReplies } }

/-- An entry that is no seat traffic and no management reply is queued where management room exists, else dropped and
counted (R178). -/
def State.offerUp (e : UpEntry) (s : State) : State := if s.mgmtRoom then s.pushUp e else s.dropUp

/-! ### Events (R189) -/

/-- The bit of an event in the event sets (R181). -/
def Event.bit : Event → Nat
  | .poolOverdraft => 0
  | .poolOvercommit => 1
  | .holdTableFull => 2
  | .queueStoreFull => 3
  | .linkLost => 4
  | .linkRestored => 5
  | .timeSet => 6
  | .timeConflict => 7
  | .holdover => 8
  | .bankSwitched => 9
  | .reconcileFault => 10
  | .autonomyExpired => 11
  | .reportGap => 12
  | .intakeOverrun => 13
  | .restarted => 14

/-- The set that holds one event. -/
def Event.mask (e : Event) : EventSet := BitVec.twoPow 15 e.bit

/-- The pending flag of an event. -/
def State.eventPending (s : State) (e : Event) : Bool := s.mgmt.events.getLsbD e.bit

/-- The EVENT notice of a raising: queued at once, or, while a management request is carried out, kept to enter behind
its reply (R184, R189; log 16). -/
def State.notice (e : Event) (s : State) : State :=
  match s.deferred with
  | some l => s.setDeferred (some (l ++ [UpEntry.event s.ownEth s.mgmt.events e s.time.now]))
  | none => s.offerUp (UpEntry.event s.ownEth s.mgmt.events e s.time.now)

/-- The pending flag of an event is set. -/
def State.flagEvent (e : Event) (s : State) : State := s.setMgmt { s.mgmt with events := s.mgmt.events ||| e.mask }

/-- To raise an event is to set its pending flag; where the flag was clear and notify is enabled a notice follows (R189). -/
def State.raise (e : Event) (s : State) : State :=
  if s.eventPending e then s
  else if s.mgmt.notify.getLsbD e.bit then (s.flagEvent e).notice e
  else s.flagEvent e

/-! ### The Farm Reply Queue (R177) -/

/-- A frame for the farm joins the Farm Reply Queue, or is dropped and counted (R45, R177). -/
def State.offerFarm (e : FarmEntry) (s : State) : State :=
  if s.farm.replies.length < Config.farmReplies then s.setFarm { s.farm with replies := s.farm.replies ++ [e] }
  else s.setFarm { s.farm with stats := { s.farm.stats with droppedReplies := bump s.farm.stats.droppedReplies } }

/-- The engine counts one grant for each GRANT, one queued for each QUEUED and one denial for each DENY (R45, R192). -/
def EngineStats.countReply (t : EngineStats) : FarmBody → EngineStats
  | .grant _ _ _ _ => { t with grants := bump t.grants }
  | .queued _ _ => { t with queued := bump t.queued }
  | .deny _ => { t with denials := bump t.denials }
  | .retry _ _ => t
  | .released => t
  | .renewed _ => t
  | .cancelled _ => t
  | .waitExpired => t
  | .withdrawn => t
  | .poolStatus _ _ _ _ => t
  | .unknownHold => t
  | .notWaiting _ => t
  | .unreachable => t
  | .protocolError => t

/-- A reply toward the farm, under a request key and to the addresses of the request's frame; the count is made
whether or not the reply finds room (R45, R176, R192). -/
def State.toFarm (a : Addrs) (k : Key) (b : FarmBody) (s : State) : State :=
  (s.setMgmt { s.mgmt with stats := s.mgmt.stats.countReply b }).offerFarm (FarmEntry.reply (s.answerEth a) k b)

/-- A RETRY carries the retry hint as it stands when the reply is made (R45). -/
def State.retry (a : Addrs) (k : Key) (r : RetryReason) (s : State) : State := s.toFarm a k (.retry r s.mgmt.params.retryHint)

/-- A management reply joins the Upstream Queue in the place kept for it; the notices of the events raised while the
request was carried out follow it (R184; log 16). -/
def State.answerMgmt (k : Key) (r : MgmtReply) (s : State) : State :=
  let answered := ((s.setReserved 0).setDeferred none).pushUp (UpEntry.reply s.ownEth k r)
  (s.deferred.getD []).foldl (fun t e => t.offerUp e) answered

end Sys2Proof.Machine
end

