-- ==== Sys2Proof/Machine/Wire.lean ====
section
/-! DEFINITION. Bytes: byte order (R180), the frame check sequence (R172), the message check (R182), pause frames
(R170) and the shape of a frame the engine forms. -/

namespace Sys2Proof

/-- The number a run of bytes spells, most significant byte first (R180). -/
def beNat (bs : List Byte) : Nat := bs.foldl (fun acc b => acc * 256 + b.toNat) 0

/-- The `width` bytes that spell a number, most significant byte first (R180). -/
def beBytes : Nat → Nat → List Byte
  | 0, _ => []
  | width + 1, n => BitVec.ofNat 8 (n / 256 ^ width) :: beBytes width n

/-- The number in bytes `off` to `off + len - 1` of a body or header. -/
def field (bs : List Byte) (off len : Nat) : Nat := beNat ((bs.drop off).take len)

/-- One 32-bit field (node, process, tag, image word). -/
def wordAt (bs : List Byte) (off : Nat) : Word := BitVec.ofNat 32 (field bs off 4)

/-! ### The frame check sequence -/

/-- One bit of the 32-bit cyclic redundancy check, generator 04C11DB7h taken bit-reversed (R172; log 8). -/
def crcBit (c : Nat) : Nat := if c % 2 = 1 then (c / 2) ^^^ 0xEDB88320 else c / 2

/-- One byte of the check. -/
def crcByte (c : Nat) (b : Byte) : Nat :=
  crcBit (crcBit (crcBit (crcBit (crcBit (crcBit (crcBit (crcBit (c ^^^ b.toNat))))))))

/-- The cyclic redundancy check "as Ethernet computes it": register of ones, result complemented (R172; log 8). -/
def crc32 (bs : List Byte) : Word := BitVec.ofNat 32 ((bs.foldl crcByte 0xFFFFFFFF) ^^^ 0xFFFFFFFF)

/-- The bytes the frame check sequence covers: destination address to the end of the padding (R172). -/
def Frame.covered (f : Frame) : List Byte :=
  beBytes 6 f.dst.toNat ++ beBytes 6 f.src.toNat ++ beBytes 2 f.etype.toNat ++ f.payload

/-- The frame check sequence is right (R172). -/
def Frame.fcsGood (f : Frame) : Bool := decide (f.fcs = crc32 f.covered)

/-! ### The message check (R182) -/

/-- Addition of 16-bit numbers with end-around carry (R182). -/
def endAround (a b : Nat) : Nat := if 65536 ≤ a + b then a + b - 65535 else a + b

/-- The ones'-complement sum of bytes taken as 16-bit words, an odd last byte extended by a zero byte (R182). -/
def onesSum : Nat → List Byte → Nat
  | acc, [] => acc
  | acc, [a] => endAround acc (a.toNat * 256)
  | acc, a :: b :: rest => onesSum (endAround acc (a.toNat * 256 + b.toNat)) rest

/-- The message check of a header and body: the check field, bytes 16 and 17, is taken as zero (R182). -/
def messageCheck (message : List Byte) : Nat := onesSum 0 (message.take 16 ++ [0, 0] ++ message.drop 18)

/-! ### Pause frames (R170, R174) -/

/-- A pause frame: Ethernet type 8808h, control code 0001h, and a pause time of two bytes (R170; log 7). -/
def Frame.isPause (f : Frame) : Bool :=
  decide (f.etype = 0x8808 ∧ 4 ≤ f.payload.length ∧ field f.payload 0 2 = 1)

/-- The pause time a pause frame carries, in quanta (R170). -/
def Frame.pauseTime (f : Frame) : Half := BitVec.ofNat 16 (field f.payload 2 2)

/-- Zero bytes that fill a payload up to the 46 bytes an Ethernet frame needs (log 9). -/
def padded (payload : List Byte) : List Byte := payload ++ List.replicate (46 - payload.length) 0

/-- A frame the engine forms: padded, with its frame check sequence (R172). -/
def mkFrame (dst src : Mac) (etype : Half) (payload : List Byte) : Frame :=
  let bare : Frame := { dst, src, etype, payload := padded payload, fcs := 0 }
  { bare with fcs := crc32 bare.covered }

/-- The pause frame the Farm Port sends (R174). -/
def pauseFrame (quanta : Nat) : Frame :=
  mkFrame Config.pauseDestination Config.pauseSource 0x8808 (beBytes 2 1 ++ beBytes 2 quanta)

/-! ### The seat header (R180) -/

/-- The header and body of a seat message with its correct check, or, where `spoiled`, the correct check with all
sixteen bits inverted (R153, R180, R182). -/
def seatMessage (kind tag node process status : Nat) (body : List Byte) (spoiled : Bool) : List Byte :=
  let before := beBytes 1 1 ++ beBytes 1 kind ++ beBytes 2 body.length ++ beBytes 4 tag ++ beBytes 4 node ++ beBytes 4 process
  let after := beBytes 2 status ++ body
  let check := messageCheck (before ++ [0, 0] ++ after)
  before ++ beBytes 2 (if spoiled then 65535 - check else check) ++ after

end Sys2Proof
end

