-- ==== Sys2Proof/Machine/Operands.lean ====
section
/-! DEFINITION. What a frame at the head of an intake queue is (R170, R172, R173), the messages as R180 and R181 lay
them out, and the clamps and prices of a farm request (R25, R26). -/

namespace Sys2Proof.Machine

/-- The management requests with their fields (R181). The items behind the fixed part of LOAD_POOLS, LOAD_GROUPS and
IMAGE_WRITE stay bytes: their own rules test them. -/
inductive MgmtRequest where
  | identify
  | readStatus
  | readPool (pool : Nat)
  | setParameters (present : Nat) (values : Params)
  | setNotify (set : EventSet)
  | clearEvents (set : EventSet)
  | restart (scope : Nat)
  | loadPools (count : Nat) (items : List Byte)
  | loadGroups (count : Nat) (items : List Byte)
  | clearShadow
  | switch (expected : Nat)
  | delegate (pool d mode : Nat)
  | census (first count : Nat)
  | revoke (pool : Nat)
  | listHolds (pool page : Nat)
  | listQueue (pool page : Nat)
  | evict (handle : Handle)
  | drain
  | undrain
  | setTime (mode value : Nat)
  | injectEchoError
  | reconcile
  | imageRead (offset count : Nat)
  | imageWrite (offset count : Nat) (items : List Byte)
  | resume
  deriving DecidableEq, Repr

/-- A seat message that passed the intake checks. -/
inductive Message where
  | checkout (body : CheckoutBody)
  | checkin (handle : Handle) (noLinger : Bool)
  | renew (handle : Handle) (interval : Option Nat)
  | cancel (tag : Word)
  | query (feature version : Nat)
  /-- A farm reply kind (81h to 8Eh): relayed unread (R117). -/
  | farmReply
  | probe (sequence : Word) (mark : Nat)
  | mgmt (request : MgmtRequest)
  /-- An outbound kind of an engine: bridged (R173). -/
  | outbound
  deriving DecidableEq, Repr

/-- The groups of kinds that R173 tells apart. -/
inductive KindGroup where
  | farmRequest
  | farmReply
  | management
  | probe
  | outbound
  | unknown
  deriving DecidableEq, Repr

/-- The kind codes (R181). -/
def kindGroup (kind : Nat) : KindGroup :=
  if 0x01 ≤ kind ∧ kind ≤ 0x05 then .farmRequest
  else if 0x81 ≤ kind ∧ kind ≤ 0x8E then .farmReply
  else if 0x20 ≤ kind ∧ kind ≤ 0x38 then .management
  else if kind = 0x40 then .probe
  else if kind = 0xA0 ∨ (0xC0 ≤ kind ∧ kind ≤ 0xC4) then .outbound
  else .unknown

/-- The kind belongs to the other port (R173). -/
def wrongPort : Port → KindGroup → Bool
  | .farm, .farmRequest => false
  | .farm, .farmReply => true
  | .farm, .management => true
  | .farm, .probe => true
  | .farm, .outbound => false
  | .farm, .unknown => false
  | .service, .farmRequest => true
  | .service, .farmReply => false
  | .service, .management => false
  | .service, .probe => false
  | .service, .outbound => false
  | .service, .unknown => false

/-- A handle from its four bytes: bit 31 the issuer mark, bits 30..16 the generation, bits 13..0 the slot; bits 15..14
are not read (R181; log 13). -/
def handleOf (n : Nat) : Handle := { service := decide (n / 2 ^ 31 % 2 = 1), gen := n / 2 ^ 16 % 2 ^ 15, slot := n % 2 ^ 14 }

/-- The Ethernet addresses of a frame (R176). -/
def addrsOf (f : Frame) : Addrs := { src := f.src, dst := f.dst }

/-- The kind byte of a seat frame (R180). -/
def kindOf (f : Frame) : Nat := field f.payload 1 1

/-- The body length field (R180). -/
def bodyLength (f : Frame) : Nat := field f.payload 2 2

/-- The body: the bytes behind the header, as many as the body length says (R180). -/
def bodyOf (f : Frame) : List Byte := (f.payload.drop 20).take (bodyLength f)

/-- The request key: node, process and tag of the seat header (R180). -/
def keyOf (f : Frame) : Key := { node := wordAt f.payload 8, process := wordAt f.payload 12, tag := wordAt f.payload 4 }

/-- The length check of R172. -/
def lengthGood (f : Frame) : Bool :=
  decide (20 ≤ f.payload.length ∧ bodyLength f ≤ 1024 ∧ bodyLength f ≤ f.payload.length - 20)

/-- The message check of R172 and R182, over header and body as received. -/
def checkGood (f : Frame) : Bool :=
  decide (field f.payload 16 2 = messageCheck (f.payload.take (20 + bodyLength f)))

/-- A CHECKOUT's body (R181). -/
def checkoutBody (b : List Byte) : CheckoutBody :=
  { feature := field b 0 3, flags := BitVec.ofNat 8 (field b 3 1), version := field b 4 2, seats := field b 6 2,
    cores := field b 8 2, waitLimit := field b 10 2, interval := field b 12 2 }

/-- A SET_PARAMETERS body's values (R181). -/
def paramsBody (b : List Byte) : Params :=
  { seatType := BitVec.ofNat 16 (field b 2 2), probeInterval := field b 4 2, forwardTimeout := field b 6 2, epochPeriod := field b 8 2,
    autonomyLimit := field b 10 4, stepLimit := field b 14 2, retryHint := field b 16 2 }

/-- The bytes a kind's body needs (R172, R181). -/
def bodyNeeds (kind : Nat) : Nat :=
  match kind with
  | 0x01 => 14
  | 0x02 => 5
  | 0x03 => 4
  | 0x04 => 4
  | 0x05 => 6
  | 0x40 => 10
  | 0x22 => 2
  | 0x23 => 18
  | 0x24 => 2
  | 0x25 => 2
  | 0x26 => 1
  | 0x27 => 2
  | 0x28 => 2
  | 0x2A => 2
  | 0x2B => 5
  | 0x2C => 3
  | 0x2D => 2
  | 0x2E => 4
  | 0x2F => 4
  | 0x30 => 4
  | 0x33 => 8
  | 0x36 => 4
  | 0x37 => 4
  | _ => 0

/-- A management request from its kind code and body (R181). -/
def mgmtRequest (kind : Nat) (b : List Byte) : Option MgmtRequest :=
  match kind with
  | 0x20 => some .identify
  | 0x21 => some .readStatus
  | 0x22 => some (.readPool (field b 0 2))
  | 0x23 => some (.setParameters (field b 0 1) (paramsBody b))
  | 0x24 => some (.setNotify (BitVec.ofNat 15 (field b 0 2)))
  | 0x25 => some (.clearEvents (BitVec.ofNat 15 (field b 0 2)))
  | 0x26 => some (.restart (field b 0 1))
  | 0x27 => some (.loadPools (field b 0 1) (b.drop 2))
  | 0x28 => some (.loadGroups (field b 0 1) (b.drop 2))
  | 0x29 => some .clearShadow
  | 0x2A => some (.switch (field b 0 2))
  | 0x2B => some (.delegate (field b 0 2) (field b 2 2) (field b 4 1))
  | 0x2C => some (.census (field b 0 2) (field b 2 1))
  | 0x2D => some (.revoke (field b 0 2))
  | 0x2E => some (.listHolds (field b 0 2) (field b 2 2))
  | 0x2F => some (.listQueue (field b 0 2) (field b 2 2))
  | 0x30 => some (.evict (handleOf (field b 0 4)))
  | 0x31 => some .drain
  | 0x32 => some .undrain
  | 0x33 => some (.setTime (field b 0 1) (field b 2 6))
  | 0x34 => some .injectEchoError
  | 0x35 => some .reconcile
  | 0x36 => some (.imageRead (field b 0 2) (field b 2 2))
  | 0x37 => some (.imageWrite (field b 0 2) (field b 2 2) (b.drop 4))
  | 0x38 => some .resume
  | _ => none

/-- The message of a kind code and a body long enough for it; none for an unknown kind (R181). -/
def messageOf (kind : Nat) (b : List Byte) : Option Message :=
  match kindGroup kind with
  | .farmRequest =>
    match kind with
    | 0x01 => some (.checkout (checkoutBody b))
    | 0x02 => some (.checkin (handleOf (field b 0 4)) (decide (field b 4 1 % 2 = 1)))
    | 0x03 => some (.renew (handleOf (field b 0 4)) (if 6 ≤ b.length then some (field b 4 2) else none))
    | 0x04 => some (.cancel (wordAt b 0))
    | _ => some (.query (field b 0 3) (field b 4 2))
  | .farmReply => some .farmReply
  | .management => (mgmtRequest kind b).map Message.mgmt
  | .probe => some (.probe (wordAt b 0) (field b 4 6))
  | .outbound => some .outbound
  | .unknown => none

/-- What the Intake Classifier makes of a frame (R170, R172, R173). -/
inductive HeadClass where
  /-- Not the seat frame type: a bridge frame (R170). -/
  | bridge
  /-- The frame check sequence is wrong. -/
  | badFcs
  /-- The length check fails. -/
  | badLength
  /-- The message check fails. -/
  | badCheck
  /-- The message check fails on a PROBE at the Service Port (R172). -/
  | badProbe
  /-- The kind belongs to the other port. -/
  | wrongPort
  /-- Bad revision, unknown kind or short body; the faulty message's key. -/
  | protocolError (key : Key)
  /-- A message that passed the checks, with its key. -/
  | message (key : Key) (m : Message)
  deriving DecidableEq, Repr

/-- The checks of R172 in their order, on a frame taken at a port while the seat frame type parameter is `seatType`. -/
def classify (port : Port) (seatType : Half) (f : Frame) : HeadClass :=
  if f.etype ≠ seatType then .bridge
  else if f.fcsGood = false then .badFcs
  else if lengthGood f = false then .badLength
  else if checkGood f = false then (if port = .service ∧ kindOf f = 0x40 then .badProbe else .badCheck)
  else if wrongPort port (kindGroup (kindOf f)) then .wrongPort
  else if field f.payload 0 1 ≠ 1 ∨ (bodyOf f).length < bodyNeeds (kindOf f) then .protocolError (keyOf f)
  else
    match messageOf (kindOf f) (bodyOf f) with
    | none => .protocolError (keyOf f)
    | some m => .message (keyOf f) m

/-! ### Clamps and prices of a farm request -/

/-- A number clamped into a range (R25). -/
def clamp (low high n : Nat) : Nat := min high (max low n)

/-- Seats as clamped (R25). -/
def clampSeats (n : Nat) : Nat := clamp 1 16 n

/-- Cores as clamped (R25). -/
def clampCores (n : Nat) : Nat := clamp 1 1024 n

/-- A renew interval as clamped against a pool: 0 becomes renew min (R25). -/
def clampInterval (r : PoolRecord) (n : Nat) : Nat := if n = 0 then r.renewMin else clamp r.renewMin r.renewMax n

/-- A wait limit as clamped against a pool (R25). -/
def clampWait (r : PoolRecord) (n : Nat) : Nat := min r.maxWait n

/-- The multiplier M of clamped cores (R26). -/
def multiplier (r : PoolRecord) (cores : Nat) : Nat :=
  if r.coreStep = 0 then 1 else min r.coreCap ((cores + r.coreStep - 1) / r.coreStep)

/-- The demand T of clamped seats and cores (R26). -/
def demand (r : PoolRecord) (seats cores : Nat) : Nat := seats * r.tokensPerSeat * multiplier r cores

/-- A moment of engine time, held at the top of its range (R37). -/
def capTime (t : Nat) : Nat := min t Config.maxTime

end Sys2Proof.Machine
end

