-- ==== Sys2Proof/Machine/Ops.lean ====
section
/-! DEFINITION. The shared operations: intake, Pool Accounts (charge, credit, response to a change), the Hold Table's
slots, the Queue Manager's store and marks, usage reports, and forwards. -/

namespace Sys2Proof.Machine

/-! ### Intake (R170, R171, R174) -/

/-- The intake queue of a port. -/
def State.intake (s : State) : Port → List Frame
  | .farm => s.farm.intake
  | .service => s.svc.intake

/-- The counters of a port changed by `f`. -/
def State.countPort (port : Port) (f : PortStats → PortStats) (s : State) : State :=
  match port with
  | .farm => s.setFarm { s.farm with stats := f s.farm.stats }
  | .service => s.setSvc { s.svc with stats := f s.svc.stats }

/-- The Farm Port sends a pause frame: it becomes due at the arbiter (R174, R176). -/
def State.duePause (quanta : Nat) (s : State) : State := s.setFarm { s.farm with pauseDue := s.farm.pauseDue ++ [quanta] }

/-- Occupancy falling to 256 opens the Farm pause control, and a pause frame with pause time 0 is sent (R174). -/
def State.pauseRelease (s : State) : State :=
  if s.farm.paused ∧ s.farm.intake.length ≤ Config.openAt then
    (s.setFarm { s.farm with paused := false, refreshAt := none }).duePause 0
  else s

/-- Occupancy reaching 448 closes the Farm pause control, and a pause frame of 65535 quanta is sent (R174). -/
def State.pauseAssert (s : State) : State :=
  if s.farm.paused = false ∧ Config.pauseAt ≤ s.farm.intake.length then
    (s.setFarm { s.farm with paused := true, refreshAt := some (s.clk + Config.refreshCycles) }).duePause Config.pauseQuanta
  else s

/-- The head of an intake queue leaves it (R171, R174). -/
def State.popIntake (port : Port) (s : State) : State :=
  match port with
  | .farm => (s.setFarm { s.farm with intake := s.farm.intake.tail }).pauseRelease
  | .service => s.setSvc { s.svc with intake := s.svc.intake.tail }

/-- A seat frame that passed the checks leaves its intake queue; one taken from the Service Port sets the addresses of the
frames the engine originates (R176; log 14). -/
def State.takeSeat (port : Port) (f : Frame) (s : State) : State :=
  match port with
  | .farm => s.popIntake .farm
  | .service => (s.popIntake .service).setSvc { (s.popIntake .service).svc with peer := addrsOf f }

/-- A seat frame that passed the checks is taken: it counts among the port's seat messages (R170). -/
def State.takeMessage (port : Port) (f : Frame) (s : State) : State :=
  (s.takeSeat port f).countPort port (fun t => { t with seatMessages := bump t.seatMessages })

/-- What stands at the head of a port's intake queue. -/
def State.head (s : State) (port : Port) : Option (Frame × HeadClass) :=
  match s.intake port with
  | [] => none
  | f :: _ => some (f, classify port s.mgmt.params.seatType f)

/-- The message at the head of a port's intake queue, where a message stands there. -/
def State.headMessage (s : State) (port : Port) : Option (Frame × Key × Message) :=
  match s.head port with
  | some (f, .message k m) => some (f, k, m)
  | _ => none

/-- Farm request kinds and farm reply kinds are bridged, not taken, in UNCONFIGURED and FAULT_HOLD (R40). -/
def State.bridging (s : State) : Bool := decide (s.mode = .unconfigured ∨ s.mode = .faultHold)

/-- The bridge slot that frames taken at a port pass into: the opposite transmitter's (R170). -/
def State.oppositeSlot (s : State) : Port → Option Frame
  | .farm => s.svc.bridge
  | .service => s.farm.bridge

/-- A frame enters the opposite port's bridge slot (R170). -/
def State.fillOpposite (port : Port) (f : Frame) (s : State) : State :=
  match port with
  | .farm => s.setSvc { s.svc with bridge := some f }
  | .service => s.setFarm { s.farm with bridge := some f }

/-- A seat frame that passed the checks is bridged once the opposite slot is free; until then it stays at the head
(R40, R170, R173). -/
def State.bridgeSeat (port : Port) (f : Frame) (s : State) : State :=
  match s.oppositeSlot port with
  | none => (s.takeMessage port f).fillOpposite port f
  | some _ => s

/-! ### Records and accounts -/

/-- What a delegated pool without an ACTIVE record would read; no run of the machine reads it (log 27). -/
def PoolRecord.blank : PoolRecord :=
  { feature := 0, versionFloor := 0, versionCeiling := 0, tokensPerSeat := 0, coreStep := 0, coreCap := 0, overdraft := 0, groupMask := 0,
    sharing := .perProcess, renewMin := 0, renewMax := 0, grace := 0, linger := 0, queueLimit := 0, maxWait := 0, policy := .fifo,
    protectAge := 0, startDay := 0, endDay := 65535 }

/-- A pool's record in the ACTIVE bank, none where it is empty or the bank absent (R3). -/
def State.record? (s : State) (p : Nat) : Option PoolRecord := s.banks.active.bind (fun b => Table.get? b.records p)

/-- A pool's ACTIVE record (R3). -/
def State.record (s : State) (p : Nat) : PoolRecord := (s.record? p).getD PoolRecord.blank

/-- A pool's account (R20). -/
def State.acct (s : State) (p : Nat) : Account := Table.getD s.accounts Account.cleared p

/-- A pool's account is written. -/
def State.setAcct (p : Nat) (a : Account) (s : State) : State := s.setAccounts (Table.putD s.accounts Account.cleared p a)

/-- A pool's account is changed by `f`. -/
def State.modAcct (p : Nat) (f : Account → Account) (s : State) : State := s.setAcct p (f (s.acct p))

/-- The pool numbers whose account is not cleared, in pool-number order. -/
def State.livePools (s : State) : List Nat := s.accounts.map (fun e => e.1)

/-- The pool is delegated (R49). -/
def State.delegated (s : State) (p : Nat) : Bool := decide ((s.acct p).state ≠ .absent)

/-- Overdraft in use (R30). -/
def Account.overdraftInUse (a : Account) : Nat := a.h - a.d

/-- The overdraft allowance (R27). -/
def State.allowance (s : State) (p : Nat) : Nat := (s.acct p).d * (s.record p).overdraft / 1000

/-- The ceiling (R27). -/
def State.ceiling (s : State) (p : Nat) : Nat := (s.acct p).d + s.allowance p

/-- The effective ceiling (R28). -/
def State.effectiveCeiling (s : State) (p : Nat) : Nat :=
  match (s.acct p).state with
  | .absent => 0
  | .shared => if s.link.state = .lost then (s.acct p).d else s.ceiling p
  | .sole => s.ceiling p
  | .soleChanged => s.ceiling p

/-- Free tokens (R28). -/
def State.free (s : State) (p : Nat) : Nat := s.effectiveCeiling p - (s.acct p).h

/-- A demand fits a pool: it is at most the effective ceiling minus H, taken with its sign (R29). -/
def State.fits (s : State) (p tokens : Nat) : Bool := decide (tokens + (s.acct p).h ≤ s.effectiveCeiling p)

/-- The day number (R38). -/
def dayNumber (now : Nat) : Nat := now / Config.dayMs

/-- The epoch number (R38). -/
def epochNumber (now period : Nat) : Nat := now / (period * 1000) % 2 ^ 32

/-- The validity test of a record against a day number, none standing for UNSET engine time (R7). -/
def PoolRecord.validOn (r : PoolRecord) : Option Nat → Bool
  | none => decide (r.startDay = 0 ∧ r.endDay = 65535)
  | some day => decide ((r.startDay = 0 ∨ r.startDay ≤ day) ∧ (r.endDay = 65535 ∨ day ≤ r.endDay))

/-- Today's day number, none while engine time is UNSET (R7). -/
def State.today (s : State) : Option Nat := if s.time.source = .unset then none else some (dayNumber s.time.now)

/-! ### Pass requests (R83, R90, R91) -/

/-- A queue service pass is asked for on a pool (R83). -/
def State.askPass (p : Nat) (s : State) : State := s.setQueues { s.queues with marks := insertNat p s.queues.marks }

/-- A pass is asked for on a pool as one of a set whose passes run in pool-number order (R90, R91; log 19). -/
def State.askOrdered (p : Nat) (s : State) : State :=
  s.setQueues { s.queues with marks := insertNat p s.queues.marks, ordered := insertNat p s.queues.ordered }

/-- The account asks for a pass on its pool, but not while the pool is ABSENT (R32). -/
def State.accountAsks (p : Nat) (s : State) : State := if s.delegated p then s.askPass p else s

/-- A pass is asked for on each pool of a list. -/
def State.askPasses (ps : List Nat) (s : State) : State := ps.foldl (fun t p => t.askPass p) s

/-- A pass in pool-number order is asked for on each pool of a list. -/
def State.askAllOrdered (ps : List Nat) (s : State) : State := ps.foldl (fun t p => t.askOrdered p) s

/-- The pools whose stalled flag is set (R89). -/
def State.stalledPools (s : State) : List Nat := (s.accounts.filter (fun e => e.2.stalled)).map (fun e => e.1)

/-- The pools whose queue is not empty, in pool-number order (R90, R91). -/
def State.waitingPools (s : State) : List Nat := s.queues.entries.foldl (fun l e => insertNat e.pool l) []

/-! ### The Account Unit -/

/-- The overcommit flag is re-evaluated (R31): a flag set from clear raises POOL_OVERCOMMIT, a flag cleared from set asks
for a pass. -/
def State.reevaluate (p : Nat) (s : State) : State :=
  if s.effectiveCeiling p < (s.acct p).h then
    if (s.acct p).overcommit then s else (s.modAcct p (fun a => { a with overcommit := true })).raise .poolOvercommit
  else if (s.acct p).overcommit then (s.modAcct p (fun a => { a with overcommit := false })).accountAsks p
  else s

/-- The account's response to a change of D, mode, record or link state since `before`: overcommit is re-evaluated, and
a rise of the ceiling or effective ceiling asks for a pass (R23, R31, R32, R104). -/
def State.respond (before : State) (p : Nat) (s : State) : State :=
  let t := s.reevaluate p
  if before.ceiling p < t.ceiling p ∨ before.effectiveCeiling p < t.effectiveCeiling p then t.accountAsks p else t

/-- The response of each pool of a list, in order. -/
def State.respondAll (before : State) (ps : List Nat) (s : State) : State := ps.foldl (fun t p => State.respond before p t) s

/-- Settling (R100): SOLE_CHANGED becomes SOLE, reported H becomes H, the gap flag clears, the peak becomes the overdraft in
use; an ABSENT pool is left as it is. -/
def Account.settled (a : Account) : Account :=
  match a.state with
  | .absent => a
  | .shared => { a with reported := a.h, gap := false, peak := a.overdraftInUse }
  | .sole => { a with reported := a.h, gap := false, peak := a.overdraftInUse }
  | .soleChanged => { a with state := .sole, reported := a.h, gap := false, peak := a.overdraftInUse }

/-- The delegation state after a change of H (R24). -/
def DelegationState.moved : DelegationState → DelegationState
  | .absent => .absent
  | .shared => .shared
  | .sole => .soleChanged
  | .soleChanged => .soleChanged

/-- The figures of an account after a charge (R22, R24, R30, R36). -/
def Account.charged (a : Account) (tokens newHolds : Nat) : Account :=
  { a with
    h := a.h + tokens, holdCount := a.holdCount + newHolds, state := a.state.moved,
    peak := max a.peak (a.h + tokens - a.d), peakThis := max a.peakThis (a.h + tokens) }

/-- The figures of an account after the removal of a hold (R22, R24, R36). -/
def Account.credited (a : Account) (tokens : Nat) : Account :=
  { a with
    h := a.h - tokens, holdCount := a.holdCount - 1, state := a.state.moved, peakThis := max a.peakThis (a.h - tokens) }

/-! ### Usage reports (R107 to R110) -/

/-- A usage report is queued: reported H becomes H and the gap flag clears (R33, R107, R110). -/
def State.queueReport (p : Nat) (change : ChangeKind) (hold : Hold) (handle : Handle) (delta : Int) (s : State) : State :=
  (s.pushUp
    (UpEntry.report s.ownEth { node := hold.node, process := hold.process, tag := hold.tag }
      { pool := p, change, gap := (s.acct p).gap, handle, delta, resultingH := (s.acct p).h })).modAcct p
    (fun a => { a with reported := a.h, gap := false })

/-- The gap flag is set; REPORT_GAP is raised where it was clear (R33). -/
def State.setGap (p : Nat) (s : State) : State :=
  if (s.acct p).gap then s else (s.modAcct p (fun a => { a with gap := true })).raise .reportGap

/-- The report of a change that lowers H: queued where report room exists, else the gap flag is set (R109). -/
def State.reportRelease (p : Nat) (change : ChangeKind) (hold : Hold) (handle : Handle) (delta : Int) (s : State) : State :=
  if s.seatRoom then s.queueReport p change hold handle delta else s.setGap p

/-- A charge of `tokens` to a pool, taken whole, with its report in a SHARED pool (R22, R30, R31, R24, R36, R107). The caller
has tested the fit and, for a SHARED pool, report room; the place tested is kept for the report (R108; log 16). -/
def State.charge (p tokens newHolds : Nat) (change : ChangeKind) (hold : Hold) (handle : Handle) (s : State) : State :=
  let a := s.acct p
  let shared := decide (a.state = .shared)
  let kept := if shared then s.setReserved (s.reserved + 1) else s
  let charged := kept.setAcct p (a.charged tokens newHolds)
  let raised :=
    if a.overdraftInUse = 0 ∧ 0 < (a.charged tokens newHolds).overdraftInUse then charged.raise .poolOverdraft else charged
  let evaluated := raised.reevaluate p
  if shared then (evaluated.setReserved s.reserved).queueReport p change hold handle (Int.ofNat tokens) else evaluated

/-- A credit for the removal of a hold, taken whole, with its report or gap flag in a SHARED pool and its pass request
(R22, R31, R24, R32, R36, R109). -/
def State.credit (p : Nat) (change : ChangeKind) (hold : Hold) (handle : Handle) (s : State) : State :=
  let evaluated := (s.modAcct p (fun a => a.credited hold.tokens)).reevaluate p
  let reported :=
    if (s.acct p).state = .shared then evaluated.reportRelease p change hold handle (-(Int.ofNat hold.tokens)) else evaluated
  if 0 < hold.tokens then reported.accountAsks p else reported

/-- One more GRANT from the pool in this epoch (R36). -/
def State.countPoolGrant (p : Nat) (s : State) : State := s.modAcct p (fun a => { a with grantsThis := bump a.grantsThis })

/-! ### The Hold Table's slots (R64, R65, R67) -/

/-- The generation of a slot (R64). -/
def State.generation (s : State) (slot : Nat) : Nat := Table.getD s.holds.gens 0 slot

/-- The handle of the hold in a slot (R64; log 32). -/
def State.handleAt (s : State) (slot : Nat) : Handle := { service := false, gen := s.generation slot, slot }

/-- The occupied count (R65). -/
def State.occupied (s : State) : Nat := s.holds.slots.length

/-- The table is full (R66). -/
def State.tableFull (s : State) : Bool := decide (Config.holdSlots ≤ s.occupied)

/-- The lowest-numbered free slot (R65). -/
def State.lowestSlot (s : State) : Nat := Table.lowestFree 0 s.holds.slots

/-- The present hold a handle names (R55). -/
def State.namedHold (s : State) (h : Handle) : Option Hold :=
  if h.service = true ∨ s.generation h.slot ≠ h.gen then none else Table.get? s.holds.slots h.slot

/-- A pool's holds with their slots, in slot order. -/
def State.holdsOf (s : State) (p : Nat) : List (Nat × Hold) := s.holds.slots.filter (fun e => e.2.pool = p)

/-- A hold record is written in a slot. -/
def State.putHold (slot : Nat) (h : Hold) (s : State) : State := s.setHolds { s.holds with slots := Table.put s.holds.slots slot h }

/-- A slot is freed and its generation rises by one, wrapping (R64, R67). -/
def State.freeSlot (slot : Nat) (s : State) : State :=
  s.setHolds
    { slots := Table.remove s.holds.slots slot,
      gens := Table.putD s.holds.gens 0 slot ((s.generation slot + 1) % Config.generations) }

/-- The slot-freed notice (R67): a pass is asked for on each stalled pool, and, where the table was full, on every pool
with a waiting queue in pool-number order (R89, R90). -/
def State.slotFreed (wasFull : Bool) (s : State) : State :=
  if wasFull then (s.askPasses s.stalledPools).askAllOrdered s.waitingPools else s.askPasses s.stalledPools

/-- The removal of a hold, with credit, report and slot-freed notice (R67). -/
def State.removeHold (slot : Nat) (hold : Hold) (change : ChangeKind) (s : State) : State :=
  ((s.freeSlot slot).credit hold.pool change hold (s.handleAt slot)).slotFreed s.tableFull

/-- A reclaim: the removal at grace end, counted among reclaims (R69). -/
def State.reclaim (slot : Nat) (hold : Hold) (s : State) : State :=
  (s.removeHold slot hold .reclaim).setMgmt
    { (s.removeHold slot hold .reclaim).mgmt with
      stats := { (s.removeHold slot hold .reclaim).mgmt.stats with reclaims := bump (s.removeHold slot hold .reclaim).mgmt.stats.reclaims } }

/-- A renew deadline (R37). -/
def State.renewDeadline (s : State) (interval : Nat) : Nat := capTime (s.time.now + interval * 1000)

/-- A hold taken by a join or an upgrade: ACTIVE, one use more, the interval and its deadline; tokens as given (R51). -/
def Hold.joined (h : Hold) (tokens interval deadline : Nat) : Hold :=
  { h with tokens, useCount := h.useCount + 1, state := .active, interval, deadline }

/-- What a grant lacks (R50, R86). -/
inductive Lack where
  | slot
  | report
  deriving DecidableEq, Repr

/-- What a new hold of a pool lacks, if anything: a free slot, then, in a SHARED pool, report room (R50, R86). -/
def State.newHoldLack (s : State) (p : Nat) : Option Lack :=
  if s.tableFull then some .slot
  else if (s.acct p).state = .shared ∧ s.seatRoom = false then some .report
  else none

/-- What an upgrade lacks: report room in a SHARED pool (R51, R87). -/
def State.upgradeLack (s : State) (p : Nat) : Option Lack :=
  if (s.acct p).state = .shared ∧ s.seatRoom = false then some .report else none

/-- A hold as a grant creates it (R50, R86). -/
def State.freshHold (s : State) (p : Nat) (node process tag : Word) (tokens interval : Nat) : Hold :=
  { pool := p, node, process, tokens, useCount := 1, state := .active, interval, deadline := s.renewDeadline interval,
    granted := s.time.now, tag }

/-- A new hold is created in the lowest free slot, charged, and reported for a SHARED pool (R50, R65, R86). -/
def State.newHold (p : Nat) (hold : Hold) (s : State) : State :=
  ((s.putHold s.lowestSlot hold).charge p hold.tokens 1 .grant hold (s.handleAt s.lowestSlot)).countPoolGrant p

/-- A hold is joined: no charge and no report (R51); the grant is counted in the hold's pool (log 41). -/
def State.joinHold (slot : Nat) (hold : Hold) (interval : Nat) (s : State) : State :=
  (s.putHold slot (hold.joined hold.tokens interval (s.renewDeadline interval))).countPoolGrant hold.pool

/-- A hold is upgraded to `tokens`: the delta is charged, and reported for a SHARED pool (R51). The pool charged is the hold's, which
the caller has tested (R22, R108), also where a wrapped generation makes a wait entry's handle name a hold of another pool (log 41). -/
def State.upgradeHold (slot : Nat) (hold : Hold) (tokens interval : Nat) (s : State) : State :=
  ((s.putHold slot (hold.joined tokens interval (s.renewDeadline interval))).charge hold.pool (tokens - hold.tokens) 0 .upgrade
      (hold.joined tokens interval (s.renewDeadline interval)) (s.handleAt slot)).countPoolGrant hold.pool

/-- The GRANT for the hold in a slot (R45). -/
def State.grantBody (s : State) (slot tokens interval : Nat) : FarmBody :=
  .grant (s.handleAt slot) tokens interval (s.renewDeadline interval)

/-! ### The wait store (R80 to R82) -/

/-- A pool's queue, oldest first (R81). -/
def State.poolQueue (s : State) (p : Nat) : List WaitEntry := s.queues.entries.filter (fun e => e.pool = p)

/-- An entry is the head of its queue (R81). -/
def State.isHead (s : State) (e : WaitEntry) : Bool := decide (((s.poolQueue e.pool).head?.map (fun x => x.key)) = some e.key)

/-- An entry leaves the store, and its pool's queue length falls by one (R82). -/
def State.unlink (e : WaitEntry) (s : State) : State :=
  (s.setQueues { s.queues with entries := s.queues.entries.eraseP (fun x => x.key = e.key) }).modAcct e.pool
    (fun a => { a with queueLength := a.queueLength - 1 })

/-- An entry leaves the store, and a pass is asked for where it was the head (R82). -/
def State.unlinkAsking (e : WaitEntry) (s : State) : State := if s.isHead e then (s.unlink e).askPass e.pool else s.unlink e

/-- An entry is removed and its client answered (R82). -/
def State.dismiss (b : FarmBody) (e : WaitEntry) (s : State) : State := (s.unlink e).toFarm e.addrs e.key b

/-- Each entry of a list is removed and its client answered, in the order of the list. -/
def State.dismissAll (b : FarmBody) (es : List WaitEntry) (s : State) : State := es.foldl (fun t e => t.dismiss b e) s

/-- Every waiting entry in pool-number order, each queue in queue order (R43, R95). -/
def State.entriesByPool (s : State) : List WaitEntry := s.waitingPools.flatMap s.poolQueue

/-! ### Forwards (R46, R96, R116) -/

/-- A request key stands in a wait entry or in the Forwarding Table (R47). -/
def State.keyStands (s : State) (k : Key) : Bool :=
  s.queues.entries.any (fun e => e.key = k) || s.fwd.entries.any (fun e => e.key = k)

/-- A Forwarding Table entry is free and seat-traffic room exists (R43, R46). -/
def State.forwardRoom (s : State) : Bool := decide (s.fwd.entries.length < Config.forwardEntries) && s.seatRoom

/-- A Forwarding Table entry is created, with its deadline, and counted (R37, R116). -/
def State.addForward (k : Key) (kind : RequestKind) (feature : Nat) (a : Addrs) (s : State) : State :=
  (s.setFwd
    { s.fwd with
      entries :=
        s.fwd.entries ++ [{ key := k, kind, feature, deadline := capTime (s.time.now + s.mgmt.params.forwardTimeout), addrs := a }] }).setMgmt
    { s.mgmt with stats := { s.mgmt.stats with forwards := bump s.mgmt.stats.forwards } }

/-- A farm request is handed to the Delegation Unit to be forwarded (R46). -/
def State.forwardRequest (f : Frame) (k : Key) (kind : RequestKind) (feature : Nat) (s : State) : State :=
  if s.link.state = .lost then s.toFarm (addrsOf f) k .unreachable
  else if s.keyStands k then s.retry (addrsOf f) k .duplicateTag
  else if s.forwardRoom = false then s.retry (addrsOf f) k .noRoom
  else (s.addForward k kind feature (addrsOf f)).pushUp (UpEntry.forward f)

/-- The CHECKOUT rebuilt from a wait entry (R96). -/
def State.rebuiltBody (s : State) (e : WaitEntry) : CheckoutBody :=
  { feature := (s.record e.pool).feature, flags := e.flags, version := e.version, seats := e.seats, cores := e.cores,
    waitLimit := (e.deadline - s.time.now) / 1000, interval := e.interval }

/-- An entry that has left the store is forwarded as a rebuilt CHECKOUT under its request key (R96). -/
def State.forwardEntry (e : WaitEntry) (s : State) : State :=
  (s.addForward e.key .checkout (s.record e.pool).feature e.addrs).pushUp (UpEntry.rebuilt s.ownEth e.key (s.rebuiltBody e))

/-- An entry is handed on at the entry into DRAINING (R43). -/
def State.drainEntry (e : WaitEntry) (s : State) : State :=
  if s.link.state = .lost then s.dismiss .unreachable e
  else if (s.unlink e).forwardRoom then (s.unlink e).forwardEntry e
  else (s.unlink e).retry e.addrs e.key .noRoom

/-- An entry is handed on by REVOKE (R114). -/
def State.revokeEntry (e : WaitEntry) (s : State) : State :=
  if s.link.state ≠ .lost ∧ (s.unlink e).forwardRoom = true then (s.unlink e).forwardEntry e
  else (s.unlink e).retry e.addrs e.key .noRoom

end Sys2Proof.Machine
end

