-- ==== Sys2Proof/Machine/Clock.lean ====
section
/-! DEFINITION. The shared operations over engine time: its moves, the rebase of stored times, forward steps, time
marks, epoch boundaries' roll and the hold deadlines in their order. -/

namespace Sys2Proof.Machine

/-! ### Moves of engine time (R131, R136 to R138) -/

/-- Engine time becomes `new`. A change of epoch number owes one boundary, and a change of day number while the time
source is set owes one day change (R137, R138; log 5). -/
def State.moveTime (new : Nat) (s : State) : State :=
  s.setTime
    { s.time with
      now := new,
      epochOwed :=
        if epochNumber s.time.now s.mgmt.params.epochPeriod = epochNumber new s.mgmt.params.epochPeriod then s.time.epochOwed
        else s.time.epochOwed + 1,
      dayOwed :=
        if s.time.source = .unset ∨ dayNumber s.time.now = dayNumber new then s.time.dayOwed
        else s.time.dayOwed ++ [{ old := some (dayNumber s.time.now), new := dayNumber new }] }

/-- The move out of UNSET: the time source state, the day change from the UNSET condition, and TIME_SET (R132, R135,
R138). -/
def State.leaveUnset (source : TimeSource) (s : State) : State :=
  (s.setTime
    { s.time with source, dayOwed := s.time.dayOwed ++ [{ old := none, new := dayNumber s.time.now }] }).raise .timeSet

/-- A wait entry whose deadline a forward step reaches is marked: no pass grants it any more (R93). -/
def WaitEntry.stepped (new : Nat) (e : WaitEntry) : WaitEntry :=
  { e with stepPassed := e.stepPassed || decide (e.deadline ≤ new) }

/-- A forward step of engine time: no stored time moves (R136). -/
def State.stepTo (new : Nat) (s : State) : State :=
  if s.time.now < new then
    (s.setQueues { s.queues with entries := s.queues.entries.map (WaitEntry.stepped new) }).moveTime new
  else s

/-- A hold moved by a rebase (R72). A rebase to 2^48 − 1 itself holds every later deadline at engine time, where R37 has it reached and
R72 has it not; the model takes it as reached, its choice (log 45). -/
def Hold.rebased (d : Nat) (h : Hold) : Hold := { h with deadline := capTime (h.deadline + d), granted := capTime (h.granted + d) }

/-- A wait entry moved by a rebase (R93); a deadline held at engine time itself is taken as reached (log 45). -/
def WaitEntry.rebased (d : Nat) (e : WaitEntry) : WaitEntry :=
  { e with enqueued := capTime (e.enqueued + d), deadline := capTime (e.deadline + d) }

/-- A forward moved by a rebase (R119); a deadline held at engine time itself is taken as reached (log 45). -/
def Forward.rebased (d : Nat) (e : Forward) : Forward := { e with deadline := capTime (e.deadline + d) }

/-- The two words of an engine time in the image header (R158). -/
def timeWords (t : Nat) : List Word := [BitVec.ofNat 32 (t / 2 ^ 32), BitVec.ofNat 32 t]

/-- The image with words 1 and 2 moved to an entry time (R160). -/
def imageAtEntry (t : Nat) (image : List Word) : List Word := image.take 1 ++ timeWords t ++ image.drop 3

/-- The entry time and the image moved by a rebase (R160). -/
def Reconciliation.rebased (d : Nat) (r : Reconciliation) : Reconciliation :=
  match r.entryTime with
  | none => r
  | some t => { r with entryTime := some (capTime (t + d)), image := r.image.map (imageAtEntry (capTime (t + d))) }

/-- A rebase: engine time is set to `new` and every stored engine time moves by the same amount (R132, R135). -/
def State.rebaseTo (new : Nat) (s : State) : State :=
  let d := new - s.time.now
  ((((s.setHolds { s.holds with slots := s.holds.slots.map (fun e => (e.1, e.2.rebased d)) }).setQueues
      { s.queues with entries := s.queues.entries.map (WaitEntry.rebased d) }).setFwd
      { s.fwd with entries := s.fwd.entries.map (Forward.rebased d) }).setRecon (s.recon.rebased d)).moveTime new

/-! ### Time marks (R132 to R134) -/

/-- An accepted mark returns HOLDOVER to TRACKING where the link is UP (R134). -/
def State.acceptMark (s : State) : State :=
  if s.time.source = .holdover ∧ s.link.state = .up then s.setTime { s.time with source := .tracking } else s

/-- The Timebase takes the time mark of a good probe (R132, R133). -/
def State.takeMark (mark : Nat) (s : State) : State :=
  if s.time.source = .unset then
    if s.time.now ≤ mark then (s.rebaseTo mark).leaveUnset .tracking else s.raise .timeConflict
  else if mark ≤ s.time.now + s.mgmt.params.stepLimit ∧ s.time.now ≤ mark + s.mgmt.params.stepLimit then
    (s.stepTo mark).acceptMark
  else s.raise .timeConflict

/-- Link loss while TRACKING gives HOLDOVER (R134). -/
def State.holdover (s : State) : State :=
  if s.time.source = .tracking then (s.setTime { s.time with source := .holdover }).raise .holdover else s

/-! ### Epoch statistics (R36) -/

/-- The roll of one account at an epoch boundary (R36). -/
def Account.rolled (a : Account) : Account :=
  { a with grantsLast := a.grantsThis, peakLast := a.peakThis, grantsThis := 0, peakThis := 0 }

/-- Every account rolls its epoch statistics (R36, R137). -/
def State.rollEpoch (s : State) : State := s.setAccounts (Table.mapD s.accounts Account.cleared Account.rolled)

/-! ### Hold deadlines in their order (R68 to R75) -/

/-- In which engine states the Hold Table takes a hold's deadline, by the hold's state (R41, R68, R74). -/
def State.takesDeadline (s : State) (h : HoldState) : Bool :=
  match s.mode with
  | .unconfigured => false
  | .serving => true
  | .draining => true
  | .entering => decide (h = .active)
  | .reconciling => decide (h = .active)
  | .faultHold => false

/-- The hold whose deadline is taken next: reached, least deadline first, equal deadlines in slot order (R72, R74). -/
def State.nextDeadline (s : State) : Option (Nat × Hold) :=
  firstBy (fun e => e.2.deadline)
    (s.holds.slots.filter (fun e => decide (e.2.deadline ≤ s.time.now) && s.takesDeadline e.2.state))

/-- The ENTERING and RECONCILING states (R156). -/
def State.reconciling (s : State) : Bool := decide (s.mode = .entering ∨ s.mode = .reconciling)

/-- An ACTIVE hold goes STALE, its deadline the grace end counted from the renew deadline (R37, R68). -/
def Hold.staled (h : Hold) (grace : Nat) : Hold := { h with state := .stale, deadline := capTime (h.deadline + grace * 1000) }

/-- The renew deadline of an ACTIVE hold is taken (R68, R74). -/
def State.expireRenewal (slot : Nat) (h : Hold) (s : State) : State :=
  if (s.record h.pool).grace = 0 ∧ s.reconciling = false then s.reclaim slot h
  else s.putHold slot (h.staled (s.record h.pool).grace)

/-- The Hold Table's part of a relocation: every ACTIVE hold whose renew deadline has been reached goes STALE (R74, R165). -/
def State.staleReached (s : State) : State :=
  s.setHolds
    { s.holds with
      slots :=
        s.holds.slots.map
          (fun e => if e.2.state = .active ∧ e.2.deadline ≤ s.time.now then (e.1, e.2.staled (s.record e.2.pool).grace) else e) }

/-- The overdue holds in the order of their processing (R75). -/
def State.overdue (s : State) : List (Nat × Hold) :=
  sortBy (fun e => e.2.deadline)
    (s.holds.slots.filter (fun e => decide (e.2.deadline ≤ s.time.now) && decide (e.2.state ≠ .active)))

/-- A STALE or LINGERING hold whose deadline is taken is removed: reclaimed, or ended (R69, R70, R75). -/
def State.endHold (slot : Nat) (h : Hold) (s : State) : State :=
  match h.state with
  | .active => s
  | .stale => s.reclaim slot h
  | .lingering => s.removeHold slot h .lingerEnd

/-- The overdue holds are processed (R75). -/
def State.endHolds (hs : List (Nat × Hold)) (s : State) : State := hs.foldl (fun t e => t.endHold e.1 e.2) s

end Sys2Proof.Machine
end

