-- ==== Sys2Proof/Machine/BankOps.lean ====
section
/-! DEFINITION. The shared operations of the Bank Controller and the Entitlement Matcher: candidates, the Feature Index,
validation and application of a switch. -/

namespace Sys2Proof.Machine

/-! ### Candidates (R4, R5, R10 to R13) -/

/-- The match set of a feature code (R9). -/
def State.matchSet (s : State) (feature : Nat) : List Nat := Table.getD s.banks.index [] feature

/-- The group of a node under a bank's map (R10). -/
def Bank.groupOf (b : Bank) (node : Word) : Nat :=
  match b.ranges.find? (fun r => decide (r.low.toNat ≤ node.toNat ∧ node.toNat ≤ r.high.toNat)) with
  | none => 0
  | some r => r.group

/-- The group of a node in the ACTIVE bank (R10). -/
def State.groupOf (s : State) (node : Word) : Nat := (s.banks.active.getD Bank.blank).groupOf node

/-- The version test (R4). -/
def PoolRecord.serves (r : PoolRecord) (version : Nat) : Bool := decide (r.versionFloor ≤ version ∧ version ≤ r.versionCeiling)

/-- The version-matched list (R11). -/
def State.versionMatched (s : State) (feature version : Nat) : List Nat :=
  (s.matchSet feature).filter (fun p => (s.record p).serves version)

/-- The eligible list (R11). -/
def State.eligible (s : State) (feature version : Nat) (node : Word) : List Nat :=
  (s.versionMatched feature version).filter (fun p => (s.record p).groupMask.getLsbD (s.groupOf node))

/-- The candidates (R11). -/
def State.candidates (s : State) (feature version : Nat) (node : Word) : List Nat :=
  (s.eligible feature version node).filter (fun p => (s.record p).validOn s.today)

/-- The reason of an empty candidate list (R12). -/
def State.emptyReason (s : State) (feature version : Nat) (node : Word) : DenyReason :=
  if s.versionMatched feature version = [] then .noEntitlement
  else if s.eligible feature version node = [] then .notEligible
  else .outOfWindow

/-! ### The Feature Index (R9) -/

/-- The index with one more pool of a feature. -/
def indexAdd (index : Table (List Nat)) (e : Nat × PoolRecord) : Table (List Nat) :=
  Table.put index e.2.feature (Table.getD index [] e.2.feature ++ [e.1])

/-- The Feature Index of a bank: each feature code with its pools in pool-number order (R9). -/
def Bank.index (b : Bank) : Table (List Nat) := b.records.foldl indexAdd []

/-! ### Validation of a switch (R125) -/

/-- A pool's feature code in a bank, 0 where its record is empty (R1). -/
def Bank.featureOf (b : Bank) (p : Nat) : Nat := ((Table.get? b.records p).map (fun r => r.feature)).getD 0

/-- The first pool at which some feature code reaches its ninth record, those in `seen` coming before (R125). -/
def ninthPool : List Nat → Table PoolRecord → Option Nat
  | _, [] => none
  | seen, (p, r) :: rest =>
    if Config.poolsPerFeature ≤ (seen.filter (fun f => decide (f = r.feature))).length then some p
    else ninthPool (r.feature :: seen) rest

/-- Two ranges have a node in common (R125). -/
def NodeRange.overlaps (a b : NodeRange) : Bool :=
  decide (a.low.toNat ≤ a.high.toNat ∧ b.low.toNat ≤ b.high.toNat ∧ a.low.toNat ≤ b.high.toNat ∧ b.low.toNat ≤ a.high.toNat)

/-- The position of the first range that overlaps one loaded before it; `seen` has come before, and the next position is
`n` (R125). -/
def firstOverlap : Nat → List NodeRange → List NodeRange → Option Nat
  | _, _, [] => none
  | n, seen, r :: rest => if seen.any (fun x => x.overlaps r) then some n else firstOverlap (n + 1) (r :: seen) rest

/-- The numbers of a list in a strictly rising list. -/
def risingOf (ns : List Nat) : List Nat := ns.foldl (fun l n => insertNat n l) []

/-- The pools whose feature changes between ACTIVE and SHADOW, in pool-number order (R125). -/
def State.changedPools (s : State) : List Nat :=
  let active := s.banks.active.getD Bank.blank
  (risingOf ((active.records ++ s.banks.shadow.records).map (fun e => e.1))).filter
    (fun p => decide (active.featureOf p ≠ s.banks.shadow.featureOf p))

/-- An account that a change of feature does not disturb (R125). -/
def Account.untouched (a : Account) : Bool := decide (a.state = .absent ∧ a.holdCount = 0 ∧ a.queueLength = 0)

/-- The four tests of a switch in their order: the first failure, or none (R125). -/
def State.switchFailure (s : State) (expected : Nat) : Option SwitchFailure :=
  if s.banks.shadow.records.length ≠ expected then some { test := .recordCount, item := s.banks.shadow.records.length }
  else
    match ninthPool [] s.banks.shadow.records with
    | some p => some { test := .matchSetSize, item := p }
    | none =>
      match firstOverlap 1 [] s.banks.shadow.ranges with
      | some n => some { test := .rangeOverlap, item := n }
      | none =>
        match s.changedPools.find? (fun p => !(s.acct p).untouched) with
        | some p => some { test := .reassignment, item := p }
        | none => none

/-! ### Application of a switch (R129) -/

/-- Every reassign-pending flag is cleared (R35, R129). -/
def State.clearReassign (s : State) : State :=
  s.setAccounts (Table.mapD s.accounts Account.cleared (fun a => { a with reassign := false }))

/-- The reassign-pending flag of each pool of a list is set (R35, R126). -/
def State.markReassign (ps : List Nat) (s : State) : State :=
  ps.foldl (fun t p => t.modAcct p (fun a => { a with reassign := true })) s

/-- The entries beyond a pool's queue limit are withdrawn (R95). -/
def State.withdrawBeyond (p : Nat) (s : State) : State :=
  s.dismissAll .withdrawn ((s.poolQueue p).drop (s.record p).queueLimit)

/-- A pool whose bounded end day lies below a day number (R94, R138). -/
def PoolRecord.endedBy (r : PoolRecord) (day : Nat) : Bool := decide (r.endDay ≠ 65535 ∧ r.endDay < day)

/-- The whole queue of a pool is denied OUT_OF_WINDOW where its bounded end day lies below the day (R94). -/
def State.denyEnded (day p : Nat) (s : State) : State :=
  if (s.record p).endedBy day then s.dismissAll (.deny .outOfWindow) (s.poolQueue p) else s

/-- What the application of a switch does to one pool (R129 step 6). -/
def State.applyToPool (before : State) (p : Nat) (s : State) : State :=
  let limited := (State.respond before p s).withdrawBeyond p
  match s.today with
  | none => limited
  | some day => limited.denyEnded day p

/-- The banks after the application: SHADOW becomes ACTIVE, and SHADOW a copy of it; the index is rebuilt; no switch is
pending (R129 steps 1 to 4). -/
def Banks.switched (b : Banks) : Banks :=
  { active := some b.shadow, shadow := b.shadow, index := b.shadow.index, pendingSwitch := none }

/-- The application of a switch (R129). -/
def State.applySwitch (s : State) : State :=
  let exchanged := (s.setBanks s.banks.switched).clearReassign
  (exchanged.livePools.foldl (fun t p => State.applyToPool s p t) exchanged).raise .bankSwitched

/-- The attempt to apply a pending switch at an epoch boundary (R128, R137). -/
def State.attemptSwitch (s : State) : State :=
  match s.banks.pendingSwitch with
  | none => s
  | some pending =>
    if s.reconciling then s
    else
      match s.switchFailure pending.expected with
      | none => s.applySwitch
      | some failure => s.setBanks { s.banks with pendingSwitch := some { pending with held := some failure } }

end Sys2Proof.Machine
end

