-- ==== Sys2Proof/Machine/Links.lean ====
section
/-! DEFINITION. The shared operations of the Link Supervisor: windows, ECHOes, entry into and exit from LOST,
restoration, and the autonomy limit. -/

namespace Sys2Proof.Machine

/-! ### Windows and the autonomy clock (R141, R151) -/

/-- The length of a probe window started now, in cycles of the reference clock (R141). -/
def State.windowLength (s : State) : Nat := s.mgmt.params.probeInterval * Config.windowCyclesPerMs

/-- The window is restarted, or none runs where the link is DOWN (R141). -/
def State.restartWindow (s : State) : State :=
  s.setLink { s.link with windowExpiry := if s.link.state = .down then none else some (s.clk + s.windowLength) }

/-- The milliseconds the running autonomy clock has counted (R151). -/
def State.autonomyMs (s : State) : Option Nat := s.link.autonomyStart.map (fun start => (s.clk - start) / Config.msCycles)

/-- The autonomy clock's value in whole seconds, as an ECHO shows it (R148, R181). No rule gives the value of a stopped clock; the model
sends 0 (log 43). -/
def State.autonomySeconds (s : State) : Nat := (s.autonomyMs.getD 0) / 1000

/-- The running autonomy clock has reached the limit and autonomy passed is not yet set (R151). -/
def State.autonomyDue (s : State) : Bool :=
  match s.autonomyMs with
  | none => false
  | some ms => decide (s.mgmt.params.autonomyLimit * 1000 ≤ ms) && !s.link.autonomyPassed

/-- The limit against the running clock: autonomy passed is set and AUTONOMY_EXPIRED raised, once for each run (R151). -/
def State.checkAutonomy (s : State) : State :=
  if s.autonomyDue then (s.setLink { s.link with autonomyPassed := true }).raise .autonomyExpired else s

/-! ### ECHOes (R148 to R150, R153) -/

/-- A bad probe was taken less than a window length ago (R150). -/
def State.badLately (s : State) : Bool :=
  match s.link.lastBad with
  | none => false
  | some t => decide (s.clk - t < s.windowLength)

/-- The far-end defect flag (R150). -/
def State.farEndDefect (s : State) : Bool :=
  match s.link.state with
  | .suspect _ => true
  | .lost => true
  | .down => s.badLately
  | .arming _ _ => s.badLately
  | .up => s.badLately

/-- The number of pools in a delegation state (R148). -/
def State.poolsIn (s : State) (d : DelegationState) : Nat := (s.accounts.filter (fun e => decide (e.2.state = d))).length

/-- The digest of the engine as it stands (R148). -/
def State.digest (s : State) : Digest :=
  { farEndDefect := s.farEndDefect, autonomyRunning := s.link.autonomyStart.isSome, autonomyPassed := s.link.autonomyPassed,
    engine := s.mode, link := s.link.state, source := s.time.source, now := s.time.now,
    epoch := epochNumber s.time.now s.mgmt.params.epochPeriod, autonomySeconds := s.autonomySeconds,
    totalH := (s.accounts.map (fun e => e.2.h)).sum, totalD := (s.accounts.map (fun e => e.2.d)).sum,
    sharedPools := s.poolsIn .shared, solePools := s.poolsIn .sole, soleChangedPools := s.poolsIn .soleChanged,
    occupied := s.occupied, waiting := s.queues.entries.length, forwarding := s.fwd.entries.length, pending := s.mgmt.events }

/-- An ECHO is queued, spoiled where the echo error flag is set, which it then clears; without room it is dropped and the
flag stays (R148, R153). -/
def State.sendEcho (key : Key) (sequence : Word) (mark : Nat) (solicited : Bool) (s : State) : State :=
  if s.mgmtRoom then
    (s.pushUp (UpEntry.echo s.ownEth key { sequence, mark, solicited, digest := s.digest } s.link.echoError)).setLink
      { s.link with echoError := false }
  else s.dropUp

/-- An unsolicited ECHO (R149). -/
def State.sendUnsolicited (s : State) : State :=
  s.sendEcho { node := 0, process := 0, tag := 0 } s.link.lastSequence 0 false

/-! ### Losing and regaining the link (R120, R145 to R147) -/

/-- Every forward is answered UNREACHABLE in order of creation, and the table is empty (R120). -/
def State.flushForwards (s : State) : State :=
  s.fwd.entries.foldl (fun t e => t.toFarm e.addrs e.key .unreachable) (s.setFwd { s.fwd with entries := [] })

/-- The pools in SHARED, in pool-number order. -/
def State.sharedPools (s : State) : List Nat := (s.accounts.filter (fun e => decide (e.2.state = .shared))).map (fun e => e.1)

/-- The link state is written. -/
def State.setLinkState (l : LinkState) (s : State) : State := s.setLink { s.link with state := l }

/-- The autonomy clock starts where it is stopped; a limit of 0 is reached at that moment (R145, R151). -/
def State.startAutonomy (s : State) : State :=
  match s.link.autonomyStart with
  | none => (s.setLink { s.link with autonomyStart := some s.clk }).checkAutonomy
  | some _ => s

/-- The entry into LOST, by a window expiry or by a bad probe (R145; log 17). -/
def State.enterLost (byExpiry : Bool) (s : State) : State :=
  let lost := ((s.setLinkState .lost).raise .linkLost).startAutonomy
  let told := if byExpiry then lost.sendUnsolicited else lost
  (State.respondAll s s.sharedPools told.flushForwards).holdover

/-- A good probe in LOST: ARMING, and the SHARED pools answer to their ceilings again (R146). -/
def State.leaveLost (s : State) : State := State.respondAll s s.sharedPools (s.setLinkState (.arming .lost 1))

/-- The restoration of the link (R147). -/
def State.restoreLink (s : State) : State :=
  let restored := (s.setLinkState .up).raise .linkRestored
  let gapped := s.sharedPools.foldl (fun t p => t.setGap p) restored
  let stopped := gapped.setLink { gapped.link with autonomyStart := none, autonomyPassed := false }
  if s.link.autonomyPassed then stopped.askAllOrdered stopped.waitingPools else stopped

/-- The transition of a good probe (R142). -/
def State.hearProbe (s : State) : State :=
  match s.link.state with
  | .down => s.setLinkState (.arming .down 1)
  | .lost => s.leaveLost
  | .arming .down good => if good = 1 then s.setLinkState (.arming .down 2) else s.setLinkState .up
  | .arming .lost good => if good = 1 then s.setLinkState (.arming .lost 2) else s.restoreLink
  | .up => s
  | .suspect _ => s.setLinkState .up

/-- The transition of a failure to hear the service: a window expiry or a bad probe (R143, R149). -/
def State.missProbe (byExpiry : Bool) (s : State) : State :=
  match s.link.state with
  | .down => s
  | .arming .down _ => s.setLinkState .down
  | .arming .lost _ => s.enterLost byExpiry
  | .up => s.setLinkState (.suspect 1)
  | .suspect miss => if miss = 1 then s.setLinkState (.suspect 2) else s.enterLost byExpiry
  | .lost => if byExpiry then s.sendUnsolicited else s

end Sys2Proof.Machine
end

