-- ==== Sys2Proof/Machine/Management.lean ====
section
/-! DEFINITION. The taking of a management request (R184), and the requests the Management Unit owns: IDENTIFY,
READ_STATUS, READ_POOL, SET_PARAMETERS, SET_NOTIFY, CLEAR_EVENTS. -/

namespace Sys2Proof.Machine

open Host

/-! ### Taking a request (R184) -/

/-- The management request at the head of the Service intake queue. -/
def State.headRequest (s : State) : Option (Frame × Key × MgmtRequest) :=
  match s.headMessage .service with
  | some (f, k, .mgmt r) => some (f, k, r)
  | _ => none

/-- A request whose reply would find no room is dropped unanswered and counted (R184). -/
def State.dropManagement (s : State) : State :=
  s.setMgmt { s.mgmt with stats := { s.mgmt.stats with droppedManagement := bump s.mgmt.stats.droppedManagement } }

/-- A request other than RESTART is taken: with management room it is carried out by `act`, which answers it once, a place
being kept for its reply and notices being held back behind it; without room it is dropped (R184; log 16). -/
def State.manage (f : Frame) (act : State → State) (s : State) : State :=
  if (s.takeMessage .service f).mgmtRoom then act (((s.takeMessage .service f).setReserved 1).setDeferred (some []))
  else (s.takeMessage .service f).dropManagement

/-- A reply that carries nothing. -/
def State.answerBare (k : Key) (kind : MgmtKind) (status : MgmtStatus) (s : State) : State :=
  s.answerMgmt k { kind, status, body := .empty }

/-- An OK reply. -/
def State.answerOk (k : Key) (kind : MgmtKind) (body : ReplyBody) (s : State) : State :=
  s.answerMgmt k { kind, status := .ok, body }

/-! ### IDENTIFY (R185) -/

/-- IDENTIFY carried out (R185). -/
def State.identify (k : Key) (s : State) : State := s.answerOk k .identify (.identity s.mgmt.cause)

/-- IDENTIFY (R185). -/
def execIdentify (s : State) : Outcome State Fault Refusal :=
  match s.headRequest with
  | some (f, k, .identify) => .next (s.manage f (State.identify k))
  | _ => .next s

/-! ### READ_STATUS (R186) -/

/-- What READ_STATUS reports (R186), the autonomy clock in the milliseconds that it counts (R140, R151), none while it is stopped (log 30). -/
def State.statusReport (s : State) : StatusReport :=
  { engine := s.mode, cause := s.mgmt.cause, faultOffset := s.recon.faultOffset, activePresent := s.banks.active.isSome,
    activeFilled := (s.banks.active.getD Bank.blank).records.length, shadowFilled := s.banks.shadow.records.length,
    activeRanges := (s.banks.active.getD Bank.blank).ranges.length, shadowRanges := s.banks.shadow.ranges.length,
    pendingSwitch := s.banks.pendingSwitch.isSome, heldSwitch := s.banks.pendingSwitch.bind (fun p => p.held),
    source := s.time.source, now := s.time.now, epoch := epochNumber s.time.now s.mgmt.params.epochPeriod, day := dayNumber s.time.now,
    link := s.link.state, lastSequence := s.link.lastSequence, autonomyMs := s.autonomyMs,
    autonomyPassed := s.link.autonomyPassed, echoError := s.link.echoError, latch := s.recon.latch, entryTime := s.recon.entryTime,
    imageLength := s.recon.image.map (fun i => i.length), occupied := s.occupied, waiting := s.queues.entries.length,
    forwarding := s.fwd.entries.length, farmIntake := s.farm.intake.length, serviceIntake := s.svc.intake.length,
    farmReplies := s.farm.replies.length, upstreamSeat := s.seatCount, upstreamAll := s.svc.upstream.length, farmPaused := s.farm.paused,
    servicePaused := s.svc.pauseEnd.isSome, pending := s.mgmt.events, notify := s.mgmt.notify, params := s.mgmt.params,
    farmStats := s.farm.stats, serviceStats := s.svc.stats, stats := s.mgmt.stats }

/-- READ_STATUS carried out (R186). -/
def State.readStatus (k : Key) (s : State) : State := s.answerOk k .readStatus (.status s.statusReport)

/-- READ_STATUS (R186). -/
def execReadStatus (s : State) : Outcome State Fault Refusal :=
  match s.headRequest with
  | some (f, k, .readStatus) => .next (s.manage f (State.readStatus k))
  | _ => .next s

/-! ### READ_POOL (R187) -/

/-- A pool's ACTIVE feature code, 0 where the record is empty or the bank absent (R187). -/
def State.featureOf (s : State) (p : Nat) : Nat := ((s.record? p).map (fun r => r.feature)).getD 0

/-- The forwards of a pool's feature: the CHECKOUT entries that carry it (R116, R187). -/
def State.forwardsOf (s : State) (p : Nat) : Nat :=
  if s.featureOf p = 0 then 0
  else (s.fwd.entries.filter (fun e => decide (e.kind = .checkout ∧ e.feature = s.featureOf p))).length

/-- What READ_POOL reports (R187). -/
def State.poolReport (s : State) (p : Nat) : PoolReport :=
  { feature := s.featureOf p, account := s.acct p, allowance := s.allowance p, ceiling := s.ceiling p,
    effectiveCeiling := s.effectiveCeiling p, free := s.free p, overdraftInUse := (s.acct p).overdraftInUse, forwards := s.forwardsOf p }

/-- READ_POOL carried out (R187). -/
def State.readPool (k : Key) (p : Nat) (s : State) : State :=
  if Config.pools ≤ p then s.answerBare k .readPool .badRequest else s.answerOk k .readPool (.pool (s.poolReport p))

/-- READ_POOL (R187). -/
def execReadPool (s : State) : Outcome State Fault Refusal :=
  match s.headRequest with
  | some (f, k, .readPool p) => .next (s.manage f (State.readPool k p))
  | _ => .next s

/-! ### SET_PARAMETERS (R188) -/

/-- A parameter after a request: its value where the indication is clear, else the carried value clamped (R188). -/
def paramAfter (present : Nat) (bit low high old carried : Nat) : Nat :=
  if present.testBit bit then clamp low high carried else old

/-- One where a present value is clamped (R188). -/
def paramClamp (present : Nat) (bit low high carried : Nat) : Nat :=
  if present.testBit bit ∧ clamp low high carried ≠ carried then 1 else 0

/-- The parameters after a request (R188). -/
def Params.updated (p : Params) (present : Nat) (v : Params) : Params :=
  { seatType := if present.testBit 0 then v.seatType else p.seatType,
    probeInterval := paramAfter present 1 100 10000 p.probeInterval v.probeInterval,
    forwardTimeout := paramAfter present 2 50 5000 p.forwardTimeout v.forwardTimeout,
    epochPeriod := paramAfter present 3 1 60 p.epochPeriod v.epochPeriod,
    autonomyLimit := paramAfter present 4 0 259200 p.autonomyLimit v.autonomyLimit,
    stepLimit := paramAfter present 5 100 60000 p.stepLimit v.stepLimit,
    retryHint := paramAfter present 6 10 10000 p.retryHint v.retryHint }

/-- The number of values clamped (R188). -/
def Params.clamped (present : Nat) (v : Params) : Nat :=
  paramClamp present 1 100 10000 v.probeInterval + paramClamp present 2 50 5000 v.forwardTimeout +
    paramClamp present 3 1 60 v.epochPeriod + paramClamp present 4 0 259200 v.autonomyLimit +
    paramClamp present 5 100 60000 v.stepLimit + paramClamp present 6 10 10000 v.retryHint

/-- The parameters are written; a change of the epoch number that a new period makes owes a boundary (R38, R137, R188). -/
def State.setParams (p : Params) (s : State) : State :=
  let written := s.setMgmt { s.mgmt with params := p }
  if epochNumber s.time.now s.mgmt.params.epochPeriod = epochNumber s.time.now p.epochPeriod then written
  else written.setTime { s.time with epochOwed := s.time.epochOwed + 1 }

/-- SET_PARAMETERS carried out (R151, R188). -/
def State.setParameters (k : Key) (present : Nat) (v : Params) (s : State) : State :=
  let p := s.mgmt.params.updated present v
  let n := Params.clamped present v
  ((s.setParams p).checkAutonomy).answerMgmt k
    { kind := .setParameters, status := if n = 0 then .ok else .okClamped, body := .parameters n p }

/-- SET_PARAMETERS (R188). -/
def execSetParameters (s : State) : Outcome State Fault Refusal :=
  match s.headRequest with
  | some (f, k, .setParameters present v) => .next (s.manage f (State.setParameters k present v))
  | _ => .next s

/-! ### SET_NOTIFY and CLEAR_EVENTS (R190, R191) -/

/-- SET_NOTIFY carried out (R190). -/
def State.replaceNotify (k : Key) (set : EventSet) (s : State) : State :=
  (s.setMgmt { s.mgmt with notify := set }).answerOk k .setNotify (.notify set s.mgmt.events)

/-- SET_NOTIFY (R190). -/
def execSetNotify (s : State) : Outcome State Fault Refusal :=
  match s.headRequest with
  | some (f, k, .setNotify set) => .next (s.manage f (State.replaceNotify k set))
  | _ => .next s

/-- CLEAR_EVENTS carried out (R191). -/
def State.clearEvents (k : Key) (set : EventSet) (s : State) : State :=
  (s.setMgmt { s.mgmt with events := s.mgmt.events &&& ~~~set }).answerOk k .clearEvents (.events (s.mgmt.events &&& ~~~set))

/-- CLEAR_EVENTS (R191). -/
def execClearEvents (s : State) : Outcome State Fault Refusal :=
  match s.headRequest with
  | some (f, k, .clearEvents set) => .next (s.manage f (State.clearEvents k set))
  | _ => .next s

end Sys2Proof.Machine
end

