-- ==== Sys2Proof/Machine/BankRequests.lean ====
section
/-! DEFINITION. LOAD_POOLS, LOAD_GROUPS, CLEAR_SHADOW and SWITCH. -/

namespace Sys2Proof.Machine

open Host

/-! ### LOAD_POOLS (R15 to R18) -/

/-- A pool record as a LOAD_POOLS carries it (R181). -/
structure CarriedRecord where
  pool : Nat
  feature : Nat
  versionFloor : Nat
  versionCeiling : Nat
  tokensPerSeat : Nat
  coreStep : Nat
  coreCap : Nat
  overdraft : Nat
  groupMask : Word
  sharing : Nat
  policy : Nat
  renewMin : Nat
  renewMax : Nat
  grace : Nat
  linger : Nat
  queueLimit : Nat
  maxWait : Nat
  protectAge : Nat
  startDay : Nat
  endDay : Nat
  deriving DecidableEq, Repr

/-- The bytes of one record (R181). -/
def recordBytes : Nat := 44

/-- A record of a LOAD_POOLS from its 44 bytes (R181). -/
def carriedRecord (b : List Byte) : CarriedRecord :=
  { pool := field b 0 2, feature := field b 2 3, versionFloor := field b 6 2, versionCeiling := field b 8 2, tokensPerSeat := field b 10 2,
    coreStep := field b 12 2, coreCap := field b 14 2, overdraft := field b 16 2, groupMask := wordAt b 18, sharing := field b 22 1,
    policy := field b 23 1, renewMin := field b 24 2, renewMax := field b 26 2, grace := field b 28 2, linger := field b 30 4,
    queueLimit := field b 34 2, maxWait := field b 36 2, protectAge := field b 38 2, startDay := field b 40 2, endDay := field b 42 2 }

/-- The records of a message, as many as it counts (R181). -/
def carriedRecords (count : Nat) (items : List Byte) : List CarriedRecord :=
  (List.range count).map (fun i => carriedRecord (items.drop (i * recordBytes)))

/-- A sharing rule from its code (R181). -/
def sharingOf (code : Nat) : Option Sharing :=
  if code = 1 then some .perProcess else if code = 2 then some .perNode else none

/-- A queue policy from its code (R181). -/
def policyOf (code : Nat) : Option Policy := if code = 1 then some .fifo else if code = 2 then some .backfill else none

/-- One where a value lies outside its range (R16). -/
def clampCount (low high n : Nat) : Nat := if clamp low high n = n then 0 else 1

/-- The clamps of a filled record (R16). -/
def CarriedRecord.clamps (r : CarriedRecord) : Nat :=
  clampCount 1 64 r.tokensPerSeat + clampCount 0 256 r.coreStep + clampCount 1 64 r.coreCap + clampCount 0 500 r.overdraft +
    clampCount 10 3600 r.renewMin + clampCount 10 3600 r.renewMax + clampCount 0 600 r.grace + clampCount 0 86400 r.linger +
    clampCount 0 255 r.queueLimit + clampCount 0 3600 r.maxWait + clampCount 0 600 r.protectAge

/-- The filled record a carried record stands for, clamped; none at a structural fault of the record's own fields (R16, R17). -/
def CarriedRecord.taken (r : CarriedRecord) : Option PoolRecord :=
  match sharingOf r.sharing, policyOf r.policy with
  | some sharing, some policy =>
    if r.versionCeiling < r.versionFloor ∨ clamp 10 3600 r.renewMax < clamp 10 3600 r.renewMin then none
    else
      some
        { feature := r.feature, versionFloor := r.versionFloor, versionCeiling := r.versionCeiling,
          tokensPerSeat := clamp 1 64 r.tokensPerSeat, coreStep := clamp 0 256 r.coreStep, coreCap := clamp 1 64 r.coreCap,
          overdraft := clamp 0 500 r.overdraft, groupMask := r.groupMask, sharing, renewMin := clamp 10 3600 r.renewMin,
          renewMax := clamp 10 3600 r.renewMax, grace := clamp 0 600 r.grace, linger := clamp 0 86400 r.linger,
          queueLimit := clamp 0 255 r.queueLimit, maxWait := clamp 0 3600 r.maxWait, policy, protectAge := clamp 0 600 r.protectAge,
          startDay := r.startDay, endDay := r.endDay }
  | some _, none => none
  | none, some _ => none
  | none, none => none

/-- A carried record is at fault: a filled one whose pool number or whose fields are; an empty one never is (R17; log 33). -/
def CarriedRecord.atFault (r : CarriedRecord) : Bool :=
  decide (r.feature ≠ 0) && (decide (Config.pools ≤ r.pool) || r.taken.isNone)

/-- The position of the first record at fault, 0 for a fault of the message as a whole, none where it is sound (R17). -/
def loadFault (count : Nat) (items : List Byte) : Option Nat :=
  if count = 0 ∨ 8 < count ∨ items.length < count * recordBytes then some 0
  else ((carriedRecords count items).findIdx? CarriedRecord.atFault).map (fun i => i + 1)

/-- A record is written into SHADOW: an empty one empties the pool number (R15, R16). -/
def Bank.load (b : Bank) (r : CarriedRecord) : Bank :=
  if r.feature = 0 then { b with records := Table.remove b.records r.pool }
  else
    match r.taken with
    | none => b
    | some t => { b with records := Table.put b.records r.pool t }

/-- The clamped count of a message (R16). -/
def clampedTotal (rs : List CarriedRecord) : Nat := (rs.map (fun r => if r.feature = 0 then 0 else r.clamps)).sum

/-- LOAD_POOLS carried out (R15 to R17). The reply carries what R15 lists, the clamped count, and no count of SHADOW's records, which R122
may be read to ask for (log 47). -/
def State.loadPools (k : Key) (count : Nat) (items : List Byte) (s : State) : State :=
  match loadFault count items with
  | some position => s.answerMgmt k { kind := .loadPools, status := .badRequest, body := .position position }
  | none =>
    (s.setBanks { s.banks with shadow := (carriedRecords count items).foldl Bank.load s.banks.shadow }).answerMgmt k
      { kind := .loadPools, status := if clampedTotal (carriedRecords count items) = 0 then .ok else .okClamped,
        body := .clampedCount (clampedTotal (carriedRecords count items)) }

/-- LOAD_POOLS (R15). -/
def execLoadPools (s : State) : Outcome State Fault Refusal :=
  match s.headRequest with
  | some (f, k, .loadPools count items) => .next (s.manage f (State.loadPools k count items))
  | _ => .next s

/-! ### LOAD_GROUPS (R123) -/

/-- The bytes of one range (R181). -/
def rangeBytes : Nat := 10

/-- A range of a LOAD_GROUPS from its 10 bytes (R181). -/
def carriedRange (b : List Byte) : NodeRange := { low := wordAt b 0, high := wordAt b 4, group := field b 8 1 }

/-- The ranges of a message, as many as it counts (R181). -/
def carriedRanges (count : Nat) (items : List Byte) : List NodeRange :=
  (List.range count).map (fun i => carriedRange (items.drop (i * rangeBytes)))

/-- The position of the first range at fault, 0 for a fault of the message as a whole, none where it is sound (R123). -/
def groupFault (count : Nat) (items : List Byte) : Option Nat :=
  if count = 0 ∨ 32 < count ∨ items.length < count * rangeBytes then some 0
  else ((carriedRanges count items).findIdx? (fun r => decide (31 < r.group))).map (fun i => i + 1)

/-- LOAD_GROUPS carried out (R123). -/
def State.loadGroups (k : Key) (count : Nat) (items : List Byte) (s : State) : State :=
  match groupFault count items with
  | some position => s.answerMgmt k { kind := .loadGroups, status := .badRequest, body := .position position }
  | none =>
    if Config.groupRanges < s.banks.shadow.ranges.length + count then
      s.answerMgmt k { kind := .loadGroups, status := .noRoom, body := .rangeCount s.banks.shadow.ranges.length }
    else
      (s.setBanks
        { s.banks with
          shadow := { s.banks.shadow with ranges := s.banks.shadow.ranges ++ carriedRanges count items } }).answerOk k .loadGroups
        (.rangeCount (s.banks.shadow.ranges.length + count))

/-- LOAD_GROUPS (R123). -/
def execLoadGroups (s : State) : Outcome State Fault Refusal :=
  match s.headRequest with
  | some (f, k, .loadGroups count items) => .next (s.manage f (State.loadGroups k count items))
  | _ => .next s

/-! ### CLEAR_SHADOW (R124) -/

/-- CLEAR_SHADOW carried out (R124). The reply carries nothing, as R124 lists nothing, though R122 may be read to ask for the counts of
SHADOW (log 47). -/
def State.clearShadow (k : Key) (s : State) : State :=
  (s.setBanks { s.banks with shadow := Bank.blank }).answerOk k .clearShadow .empty

/-- CLEAR_SHADOW (R124). -/
def execClearShadow (s : State) : Outcome State Fault Refusal :=
  match s.headRequest with
  | some (f, k, .clearShadow) => .next (s.manage f (State.clearShadow k))
  | _ => .next s

/-! ### SWITCH (R125 to R127) -/

/-- An accepted SWITCH becomes the pending switch, in place of any before it (R126, R127). -/
def State.makePending (expected : Nat) (s : State) : State :=
  (s.clearReassign.markReassign s.changedPools).setBanks { s.banks with pendingSwitch := some { expected, held := none } }

/-- SWITCH carried out (R125 to R127): refused, applied at once where no ACTIVE bank is present, else made pending. The reply carries what
R125 to R127 list and no other count, for all that R122 may be read to ask (log 47). -/
def State.takeSwitch (k : Key) (expected : Nat) (s : State) : State :=
  match s.switchFailure expected with
  | some failure => s.answerMgmt k { kind := .switch, status := .conflict, body := .switchRefused failure }
  | none =>
    match s.banks.active with
    | none => (s.applySwitch.setMode .serving).answerOk k .switch .switchApplied
    | some _ => (s.makePending expected).answerOk k .switch (.switchPending s.changedPools.length)

/-- SWITCH (R125). -/
def execSwitch (s : State) : Outcome State Fault Refusal :=
  match s.headRequest with
  | some (f, k, .switch expected) => .next (s.manage f (State.takeSwitch k expected))
  | _ => .next s

end Sys2Proof.Machine
end

