-- ==== Sys2Proof/Machine/Deadlines.lean ====
section
/-! DEFINITION. The deadlines of holds, wait entries and forwards, the epoch boundary and the day change. -/

namespace Sys2Proof.Machine

open Host

/-! ### Hold deadlines (R68 to R72, R74) -/

/-- RENEW_DEADLINE_EXPIRY (R68, R74): the next hold deadline is an ACTIVE hold's. -/
def execRenewDeadlineExpiry (s : State) : Outcome State Fault Refusal :=
  match s.nextDeadline with
  | none => .next s
  | some (slot, h) => if h.state = .active then .next (s.expireRenewal slot h) else .next s

/-- GRACE_END_RECLAIM (R69, R74): the next hold deadline is a STALE hold's. -/
def execGraceEndReclaim (s : State) : Outcome State Fault Refusal :=
  match s.nextDeadline with
  | none => .next s
  | some (slot, h) => if h.state = .stale then .next (s.reclaim slot h) else .next s

/-- LINGER_END (R70, R74): the next hold deadline is a LINGERING hold's. -/
def execLingerEnd (s : State) : Outcome State Fault Refusal :=
  match s.nextDeadline with
  | none => .next s
  | some (slot, h) => if h.state = .lingering then .next (s.removeHold slot h .lingerEnd) else .next s

/-! ### Wait deadlines (R92, R93) -/

/-- The wait entry whose deadline is taken next: reached, least deadline first, equal deadlines in order of enqueue (R93). -/
def State.nextExpiry (s : State) : Option WaitEntry :=
  firstBy (fun e => e.deadline) (s.queues.entries.filter (fun e => decide (e.deadline ≤ s.time.now)))

/-- WAIT_DEADLINE_EXPIRY (R82, R92). -/
def execWaitDeadlineExpiry (s : State) : Outcome State Fault Refusal :=
  match s.nextExpiry with
  | none => .next s
  | some e => .next ((s.unlinkAsking e).toFarm e.addrs e.key .waitExpired)

/-! ### Forward deadlines (R118, R119) -/

/-- The forward whose deadline is taken next: reached, least deadline first, equal deadlines in order of creation (R119). -/
def State.nextTimeout (s : State) : Option Forward :=
  firstBy (fun e => e.deadline) (s.fwd.entries.filter (fun e => decide (e.deadline ≤ s.time.now)))

/-- A key joins the late-key record; in a full record it pushes out the oldest (R118). -/
def lateWith (late : List Key) (k : Key) : List Key := (late ++ [k]).drop (late.length + 1 - Config.lateKeys)

/-- A forward times out (R118). -/
def State.timeOut (e : Forward) (s : State) : State :=
  ((s.setFwd { entries := s.fwd.entries.eraseP (fun x => x.key = e.key), late := lateWith s.fwd.late e.key }).setMgmt
      { s.mgmt with stats := { s.mgmt.stats with forwardTimeouts := bump s.mgmt.stats.forwardTimeouts } }).retry
    e.addrs e.key .serviceSlow

/-- FORWARD_DEADLINE_EXPIRY (R118). -/
def execForwardDeadlineExpiry (s : State) : Outcome State Fault Refusal :=
  match s.nextTimeout with
  | none => .next s
  | some e => .next (s.timeOut e)

/-! ### EPOCH_BOUNDARY (R137) -/

/-- An epoch boundary: the statistics roll, and a pending switch is attempted (R137). -/
def State.boundary (s : State) : State := s.rollEpoch.attemptSwitch

/-- EPOCH_BOUNDARY (R137): one boundary that has come about is taken (log 5). -/
def execEpochBoundary (s : State) : Outcome State Fault Refusal :=
  if s.time.epochOwed = 0 then .next s
  else .next (s.setTime { s.time with epochOwed := s.time.epochOwed - 1 }).boundary

/-! ### DAY_CHANGE (R138) -/

/-- A pool comes into its window between two days (R138). -/
def State.entersWindow (s : State) (d : DayOwed) (p : Nat) : Bool :=
  !(s.record p).validOn d.old && (s.record p).validOn (some d.new)

/-- The filled pools of the ACTIVE bank, in pool-number order. -/
def State.filledPools (s : State) : List Nat := ((s.banks.active.getD Bank.blank).records).map (fun e => e.1)

/-- A day change: the queues of ended pools are denied, then the pools that come into their window are given passes (R94,
R138). -/
def State.changeDay (d : DayOwed) (s : State) : State :=
  let denied := s.filledPools.foldl (fun t p => t.denyEnded d.new p) s
  denied.askAllOrdered (s.filledPools.filter (s.entersWindow d))

/-- DAY_CHANGE (R138): the oldest day change that has come about is taken (log 5). -/
def execDayChange (s : State) : Outcome State Fault Refusal :=
  match s.time.dayOwed with
  | [] => .next s
  | d :: rest => .next ((s.setTime { s.time with dayOwed := rest }).changeDay d)

end Sys2Proof.Machine
end

