-- ==== Sys2Proof/Machine/LinkEvents.lean ====
section
/-! DEFINITION. PROBE, WINDOW_EXPIRY and AUTONOMY_LIMIT_REACHED. -/

namespace Sys2Proof.Machine

open Host

/-- The sequence number of a good probe is recorded (R140, R142). -/
def State.recordSequence (sequence : Word) (s : State) : State := s.setLink { s.link with lastSequence := sequence }

/-- A good probe: the transition and the window, the mark, the ECHO, in this order (R144). -/
def State.goodProbe (k : Key) (sequence : Word) (mark : Nat) (s : State) : State :=
  (((s.recordSequence sequence).hearProbe.restartWindow).takeMark mark).sendEcho k sequence mark true

/-- A bad probe: its time is recorded, the transition is made and the window restarted (R141, R143). -/
def State.badProbe (s : State) : State := ((s.setLink { s.link with lastBad := some s.clk }).missProbe false).restartWindow

/-- PROBE (R143, R144): a good probe is a message; a bad one is a PROBE dropped for its message check, counted among the
check errors (R172). -/
def execProbe (s : State) : Outcome State Fault Refusal :=
  match s.head .service with
  | some (f, .message k (.probe sequence mark)) => .next ((s.takeMessage .service f).goodProbe k sequence mark)
  | some (_, .badProbe) =>
    .next (((s.popIntake .service).countPort .service (fun t => { t with checkErrors := bump t.checkErrors })).badProbe)
  | _ => .next s

/-- The running window's expiry has been reached (R141). -/
def State.windowDue (s : State) : Bool :=
  match s.link.windowExpiry with
  | none => false
  | some t => decide (t ≤ s.clk)

/-- WINDOW_EXPIRY (R141, R143). -/
def execWindowExpiry (s : State) : Outcome State Fault Refusal :=
  if s.windowDue then .next (s.missProbe true).restartWindow else .next s

/-- AUTONOMY_LIMIT_REACHED (R151). -/
def execAutonomyLimitReached (s : State) : Outcome State Fault Refusal := .next s.checkAutonomy

end Sys2Proof.Machine
end

