-- ==== Sys2Proof/Machine/Requests.lean ====
section
/-! DEFINITION. The farm requests CHECKOUT, CHECKIN, RENEW, CANCEL and QUERY, and the relay of service replies. -/

namespace Sys2Proof.Machine

open Host

/-! ### CHECKOUT (R47 to R54) -/

/-- A CHECKOUT being taken: its frame, request key and contents. -/
structure CheckoutRequest where
  frame : Frame
  key : Key
  body : CheckoutBody
  deriving DecidableEq, Repr

/-- The demand T of a CHECKOUT for a pool (R25, R26). -/
def State.demandOf (s : State) (c : CheckoutRequest) (p : Nat) : Nat :=
  demand (s.record p) (clampSeats c.body.seats) (clampCores c.body.cores)

/-- The renew interval of a CHECKOUT, clamped against a pool (R25). -/
def State.intervalOf (s : State) (c : CheckoutRequest) (p : Nat) : Nat := clampInterval (s.record p) c.body.interval

/-- A hold is a join target for a requester under a sharing rule (R49). -/
def Hold.joinable (h : Hold) (rule : Sharing) (node process : Word) : Bool :=
  match rule with
  | .perNode => decide (h.node = node)
  | .perProcess => decide (h.state = .lingering ∧ h.node = node ∧ h.process = process)

/-- The join target of a requester in a pool: the lowest-slot hold that may be joined (R49). -/
def State.joinTarget (s : State) (p : Nat) (node process : Word) : Option (Nat × Hold) :=
  (s.holdsOf p).find? (fun e => e.2.joinable (s.record p).sharing node process)

/-- The head of a pool's queue is younger than the protect age (R29). -/
def State.headYoung (s : State) (p : Nat) (head : WaitEntry) : Bool :=
  decide ((s.record p).policy = .backfill ∧ s.time.now - head.enqueued < (s.record p).protectAge * 1000)

/-- The queue test of admission: nobody waits, or the head may still be passed (R29). -/
def State.queueOpen (s : State) (p : Nat) : Bool :=
  match s.poolQueue p with
  | [] => true
  | head :: _ => s.headYoung p head

/-- Tokens are admitted to a pool (R29); the autonomy condition has been tested before (R48). -/
def State.admits (s : State) (p tokens : Nat) : Bool := s.fits p tokens && s.queueOpen p

/-- A CHECKOUT is answered from a pool. -/
def State.answer (c : CheckoutRequest) (b : FarmBody) (s : State) : State := s.toFarm (addrsOf c.frame) c.key b

/-- A CHECKOUT is answered RETRY. -/
def State.answerRetry (c : CheckoutRequest) (r : RetryReason) (s : State) : State := s.retry (addrsOf c.frame) c.key r

/-- A fresh grant, or its refusal for want of a slot or of report room (R50, R66). -/
def State.freshGrant (c : CheckoutRequest) (p : Nat) (s : State) : State :=
  match s.newHoldLack p with
  | some .slot => (s.raise .holdTableFull).answerRetry c .holdsFull
  | some .report => s.answerRetry c .noRoom
  | none =>
    (s.newHold p (s.freshHold p c.key.node c.key.process c.key.tag (s.demandOf c p) (s.intervalOf c p))).answer c
      (s.grantBody s.lowestSlot (s.demandOf c p) (s.intervalOf c p))

/-- A join (R51). -/
def State.joinGrant (c : CheckoutRequest) (p slot : Nat) (hold : Hold) (s : State) : State :=
  (s.joinHold slot hold (s.intervalOf c p)).answer c (s.grantBody slot hold.tokens (s.intervalOf c p))

/-- An upgrade, or its refusal for want of report room (R51). -/
def State.upgradeGrant (c : CheckoutRequest) (p slot : Nat) (hold : Hold) (s : State) : State :=
  match s.upgradeLack p with
  | some _ => s.answerRetry c .noRoom
  | none =>
    (s.upgradeHold slot hold (s.demandOf c p) (s.intervalOf c p)).answer c
      (s.grantBody slot (s.demandOf c p) (s.intervalOf c p))

/-- The trial of one delegated candidate in SERVING: what it leaves where it ends the trial, none where the candidate does
not admit (R49). -/
def State.tryServing (s : State) (c : CheckoutRequest) (p : Nat) : Option State :=
  match s.joinTarget p c.key.node c.key.process with
  | some (slot, hold) =>
    if hold.useCount = 255 then some (s.answer c (.deny .useLimit))
    else if s.demandOf c p ≤ hold.tokens then some (s.joinGrant c p slot hold)
    else if s.admits p (s.demandOf c p - hold.tokens) then some (s.upgradeGrant c p slot hold)
    else none
  | none => if s.admits p (s.demandOf c p) then some (s.freshGrant c p) else none

/-- The trial of one delegated candidate in DRAINING: joins and nothing else (R52). -/
def State.tryDraining (s : State) (c : CheckoutRequest) (p : Nat) : Option State :=
  match s.joinTarget p c.key.node c.key.process with
  | some (slot, hold) =>
    if hold.useCount = 255 then some (s.answer c (.deny .useLimit))
    else if s.demandOf c p ≤ hold.tokens then some (s.joinGrant c p slot hold)
    else none
  | none => none

/-- The demand a CHECKOUT queues with, and the join target that goes with it: the delta and the handle in a PER_NODE pool
that has a join target, else the full demand (R49). -/
def State.rememberedDemand (s : State) (c : CheckoutRequest) (p : Nat) : Nat × Option Handle :=
  match (s.record p).sharing with
  | .perProcess => (s.demandOf c p, none)
  | .perNode =>
    match s.joinTarget p c.key.node c.key.process with
    | some (slot, hold) => (s.demandOf c p - hold.tokens, some (s.handleAt slot))
    | none => (s.demandOf c p, none)

/-- The wait entry of a CHECKOUT on a pool (R54, R80). -/
def State.waitEntry (s : State) (c : CheckoutRequest) (p : Nat) : WaitEntry :=
  { key := c.key, pool := p, seats := clampSeats c.body.seats, cores := clampCores c.body.cores,
    demand := (s.rememberedDemand c p).1, target := (s.rememberedDemand c p).2, version := c.body.version, interval := c.body.interval,
    flags := c.body.flags, enqueued := s.time.now,
    deadline := capTime (s.time.now + clampWait (s.record p) c.body.waitLimit * 1000), addrs := addrsOf c.frame, stepPassed := false }

/-- An entry joins the tail of its pool's queue, and the queue length rises by one (R54, R81). -/
def State.enqueue (e : WaitEntry) (s : State) : State :=
  (s.setQueues { s.queues with entries := s.queues.entries ++ [e] }).modAcct e.pool
    (fun a => { a with queueLength := a.queueLength + 1 })

/-- The three conditions under which a candidate takes an entry (R54). -/
def State.queuesOn (s : State) (c : CheckoutRequest) (p : Nat) : Bool :=
  decide (s.demandOf c p ≤ s.ceiling p ∧ 0 < clampWait (s.record p) c.body.waitLimit ∧
    (s.acct p).queueLength < (s.record p).queueLimit)

/-- A CHECKOUT is queued, or denied QUEUE_FULL (R54). -/
def State.queueCheckout (c : CheckoutRequest) (delegated : List Nat) (s : State) : State :=
  if Config.waitPlaces ≤ s.queues.entries.length then (s.raise .queueStoreFull).answer c (.deny .queueFull)
  else
    match delegated.find? (s.queuesOn c) with
    | none => s.answer c (.deny .queueFull)
    | some p =>
      (s.enqueue (s.waitEntry c p)).answer c (.queued ((s.acct p).queueLength + 1) (s.rememberedDemand c p).1)

/-- A CHECKOUT is forwarded (R46). -/
def State.forwardCheckout (c : CheckoutRequest) (s : State) : State :=
  s.forwardRequest c.frame c.key .checkout c.body.feature

/-- The no-wait flag (R181). -/
def CheckoutBody.noWait (b : CheckoutBody) : Bool := b.flags.getLsbD 0

/-- The outcome of a CHECKOUT in SERVING that no candidate admits (R53). -/
def State.unadmitted (c : CheckoutRequest) (candidates : List Nat) (s : State) : State :=
  let delegated := candidates.filter (fun p => s.delegated p)
  if candidates.any (fun p => !s.delegated p) then s.forwardCheckout c
  else if delegated.all (fun p => decide (s.ceiling p < s.demandOf c p)) then s.answer c (.deny .tooLarge)
  else if c.body.noWait then s.answer c (.deny .noWait)
  else if delegated.all (fun p => decide (s.ceiling p < s.demandOf c p ∨ clampWait (s.record p) c.body.waitLimit = 0)) then
    s.answer c (.deny .noWait)
  else s.queueCheckout c delegated

/-- A CHECKOUT with candidates in SERVING (R48, R49, R53). -/
def State.checkoutServing (c : CheckoutRequest) (candidates : List Nat) (s : State) : State :=
  if s.link.autonomyPassed then s.answerRetry c .autonomyExpired
  else
    match (candidates.filter (fun p => s.delegated p)).findSome? (s.tryServing c) with
    | some t => t
    | none => s.unadmitted c candidates

/-- A CHECKOUT with candidates in DRAINING (R48, R52). -/
def State.checkoutDraining (c : CheckoutRequest) (candidates : List Nat) (s : State) : State :=
  if s.link.autonomyPassed then s.answerRetry c .autonomyExpired
  else
    match (candidates.filter (fun p => s.delegated p)).findSome? (s.tryDraining c) with
    | some t => t
    | none => s.forwardCheckout c

/-- A CHECKOUT with candidates in ENTERING and RECONCILING (R48). -/
def State.checkoutReconciling (c : CheckoutRequest) (candidates : List Nat) (s : State) : State :=
  if candidates.any (fun p => s.delegated p) then s.answerRetry c .reconciling else s.forwardCheckout c

/-- A CHECKOUT taken by the Request Processor (R47, R48); UNCONFIGURED and FAULT_HOLD bridge it instead (R40). -/
def State.checkout (c : CheckoutRequest) (s : State) : State :=
  let candidates := s.candidates c.body.feature c.body.version c.key.node
  if s.keyStands c.key then s.answerRetry c .duplicateTag
  else if candidates = [] then s.answer c (.deny (s.emptyReason c.body.feature c.body.version c.key.node))
  else
    match s.mode with
    | .unconfigured => s
    | .serving => s.checkoutServing c candidates
    | .draining => s.checkoutDraining c candidates
    | .entering => s.checkoutReconciling c candidates
    | .reconciling => s.checkoutReconciling c candidates
    | .faultHold => s

/-- A message of a farm kind is bridged in UNCONFIGURED and FAULT_HOLD, else taken and handed to its owner (R40, R170). -/
def State.takeOrBridge (port : Port) (f : Frame) (act : State → State) (s : State) : State :=
  if s.bridging then s.bridgeSeat port f else act (s.takeMessage port f)

/-- CHECKOUT (R47 to R54). -/
def execCheckout (s : State) : Outcome State Fault Refusal :=
  match s.headMessage .farm with
  | some (f, k, .checkout b) => .next (s.takeOrBridge .farm f (State.checkout { frame := f, key := k, body := b }))
  | _ => .next s

/-! ### CHECKIN (R55 to R57) -/

/-- The hold matches a requester (R55). -/
def State.matches (s : State) (h : Hold) (k : Key) : Bool :=
  match (s.record h.pool).sharing with
  | .perNode => decide (h.node = k.node)
  | .perProcess => decide (h.node = k.node ∧ h.process = k.process)

/-- A CHECKIN of a present hold in SERVING or DRAINING (R56). -/
def State.checkinHold (f : Frame) (k : Key) (slot : Nat) (h : Hold) (noLinger : Bool) (s : State) : State :=
  if h.state = .lingering ∨ s.matches h k = false then s.toFarm (addrsOf f) k .unknownHold
  else if 1 < h.useCount then (s.putHold slot { h with useCount := h.useCount - 1 }).toFarm (addrsOf f) k .released
  else if 0 < (s.record h.pool).linger ∧ noLinger = false then
    (s.putHold slot
      { h with
        useCount := 0, state := .lingering,
        deadline := capTime (s.time.now + (s.record h.pool).linger * 1000) }).toFarm (addrsOf f) k .released
  else (s.removeHold slot h .release).toFarm (addrsOf f) k .released

/-- A CHECKIN taken by the Request Processor (R55 to R57). -/
def State.checkin (f : Frame) (k : Key) (handle : Handle) (noLinger : Bool) (s : State) : State :=
  match s.namedHold handle with
  | none => s.forwardRequest f k .checkin 0
  | some h =>
    if s.reconciling then s.retry (addrsOf f) k .reconciling else s.checkinHold f k handle.slot h noLinger

/-- CHECKIN (R55 to R57). -/
def execCheckin (s : State) : Outcome State Fault Refusal :=
  match s.headMessage .farm with
  | some (f, k, .checkin handle noLinger) => .next (s.takeOrBridge .farm f (State.checkin f k handle noLinger))
  | _ => .next s

/-! ### RENEW (R58) -/

/-- The hold's interval after a RENEW (R25, R58). -/
def State.renewedInterval (s : State) (h : Hold) (interval : Option Nat) : Nat :=
  match interval with
  | none => h.interval
  | some i => clampInterval (s.record h.pool) i

/-- A RENEW of a present hold (R58). -/
def State.renewHold (f : Frame) (k : Key) (slot : Nat) (h : Hold) (interval : Option Nat) (s : State) : State :=
  if h.state = .lingering ∨ s.matches h k = false then s.toFarm (addrsOf f) k .unknownHold
  else
    (s.putHold slot
      { h with
        state := .active, interval := s.renewedInterval h interval,
        deadline := s.renewDeadline (s.renewedInterval h interval) }).toFarm (addrsOf f) k
      (.renewed (s.renewDeadline (s.renewedInterval h interval)))

/-- A RENEW taken by the Request Processor (R55, R58). -/
def State.renew (f : Frame) (k : Key) (handle : Handle) (interval : Option Nat) (s : State) : State :=
  match s.namedHold handle with
  | none => s.forwardRequest f k .renew 0
  | some h => s.renewHold f k handle.slot h interval

/-- RENEW (R58). -/
def execRenew (s : State) : Outcome State Fault Refusal :=
  match s.headMessage .farm with
  | some (f, k, .renew handle interval) => .next (s.takeOrBridge .farm f (State.renew f k handle interval))
  | _ => .next s

/-! ### CANCEL (R59) -/

/-- The wait entry under a request key. -/
def State.waiting? (s : State) (k : Key) : Option WaitEntry := s.queues.entries.find? (fun e => e.key = k)

/-- A CANCEL taken by the Request Processor: the key it names is its own node and process with the named tag (R59). -/
def State.cancel (f : Frame) (k : Key) (tag : Word) (s : State) : State :=
  let named : Key := { k with tag }
  match s.waiting? named with
  | some e => (s.unlinkAsking e).toFarm (addrsOf f) k (.cancelled tag)
  | none =>
    if s.fwd.entries.any (fun e => e.key = named) then s.forwardRequest f k .cancel 0
    else s.toFarm (addrsOf f) k (.notWaiting tag)

/-- CANCEL (R59). -/
def execCancel (s : State) : Outcome State Fault Refusal :=
  match s.headMessage .farm with
  | some (f, k, .cancel tag) => .next (s.takeOrBridge .farm f (State.cancel f k tag))
  | _ => .next s

/-! ### QUERY (R60) -/

/-- A QUERY taken by the Request Processor (R13, R60). -/
def State.query (f : Frame) (k : Key) (feature version : Nat) (s : State) : State :=
  match (s.candidates feature version k.node).find? (fun p => s.delegated p) with
  | some p => s.toFarm (addrsOf f) k (.poolStatus p (s.free p) (s.acct p).queueLength (s.acct p).state)
  | none => s.forwardRequest f k .query feature

/-- QUERY (R60). -/
def execQuery (s : State) : Outcome State Fault Refusal :=
  match s.headMessage .farm with
  | some (f, k, .query feature version) => .next (s.takeOrBridge .farm f (State.query f k feature version))
  | _ => .next s

/-! ### SERVICE_REPLY_RELAY (R117) -/

/-- One late reply more (R117, R192). -/
def State.countLate (s : State) : State :=
  s.setMgmt { s.mgmt with stats := { s.mgmt.stats with lateReplies := bump s.mgmt.stats.lateReplies } }

/-- A service reply is matched against the Forwarding Table and relayed unchanged (R117). -/
def State.relay (f : Frame) (k : Key) (s : State) : State :=
  if s.fwd.entries.any (fun e => e.key = k) then
    (s.setFwd { s.fwd with entries := s.fwd.entries.eraseP (fun e => e.key = k) }).offerFarm (.relay f)
  else if s.fwd.late.any (fun x => x = k) then s.countLate.offerFarm (.relay f)
  else s.offerFarm (.relay f)

/-- SERVICE_REPLY_RELAY (R40, R117). -/
def execServiceReplyRelay (s : State) : Outcome State Fault Refusal :=
  match s.headMessage .service with
  | some (f, k, .farmReply) => .next (s.takeOrBridge .service f (State.relay f k))
  | _ => .next s

end Sys2Proof.Machine
end

