-- ==== Sys2Proof/Machine/Passes.lean ====
section
/-! DEFINITION. QUEUE_SERVICE_PASS. -/

namespace Sys2Proof.Machine

open Host

/-- How an entry is priced when a pass reaches it (R85, R87). -/
inductive Price where
  /-- The join target's use count is 255. -/
  | useLimit
  /-- A plain join of the hold in this slot. -/
  | join (slot : Nat) (hold : Hold)
  /-- An upgrade of the hold in this slot to these tokens. -/
  | upgrade (slot : Nat) (hold : Hold) (tokens : Nat)
  /-- A new hold of these tokens. -/
  | fresh (tokens : Nat)
  deriving DecidableEq, Repr

/-- The price of an entry: the stored demand, or, with a join target, the demand computed afresh (R85, R87). -/
def State.price (s : State) (e : WaitEntry) : Price :=
  match e.target with
  | none => .fresh e.demand
  | some handle =>
    match s.namedHold handle with
    | none => .fresh (demand (s.record e.pool) e.seats e.cores)
    | some hold =>
      if hold.useCount = 255 then .useLimit
      else if hold.tokens < demand (s.record e.pool) e.seats e.cores then
        .upgrade handle.slot hold (demand (s.record e.pool) e.seats e.cores)
      else .join handle.slot hold

/-- What a pass finds when it tests an entry. -/
inductive Tested where
  /-- The entry does not fit and keeps its place. -/
  | unfit
  /-- The grant lacks a slot or report room; the state may carry the raising of HOLD_TABLE_FULL. -/
  | stalled (s : State)
  /-- The entry has left the store, granted or denied USE_LIMIT. -/
  | gone (s : State)
  deriving DecidableEq, Repr

/-- The renew interval of an entry, clamped against its pool (R86). -/
def State.entryInterval (s : State) (e : WaitEntry) : Nat := clampInterval (s.record e.pool) e.interval

/-- An entry granted a new hold (R86). -/
def State.grantEntry (e : WaitEntry) (tokens : Nat) (s : State) : State :=
  ((s.newHold e.pool (s.freshHold e.pool e.key.node e.key.process e.key.tag tokens (s.entryInterval e))).unlink e).toFarm e.addrs e.key
    (s.grantBody s.lowestSlot tokens (s.entryInterval e))

/-- An entry granted a plain join (R87). -/
def State.joinEntry (e : WaitEntry) (slot : Nat) (hold : Hold) (s : State) : State :=
  ((s.joinHold slot hold (s.entryInterval e)).unlink e).toFarm e.addrs e.key (s.grantBody slot hold.tokens (s.entryInterval e))

/-- An entry granted an upgrade (R87). -/
def State.upgradeEntry (e : WaitEntry) (slot : Nat) (hold : Hold) (tokens : Nat) (s : State) : State :=
  ((s.upgradeHold slot hold tokens (s.entryInterval e)).unlink e).toFarm e.addrs e.key (s.grantBody slot tokens (s.entryInterval e))

/-- A pass tests an entry and, where it fits, grants it (R85 to R87). An entry whose deadline a forward step has reached is
not granted (R93; log 20). Fit and report room are tested on the account that the grant charges (R22, R108): the hold's, also where a
wrapped generation makes the join target's handle name a hold of another pool, which R87 leaves open (log 41). -/
def State.testEntry (s : State) (e : WaitEntry) : Tested :=
  if e.stepPassed then .unfit
  else
    match s.price e with
    | .useLimit => .gone (s.dismiss (.deny .useLimit) e)
    | .join slot hold => .gone (s.joinEntry e slot hold)
    | .upgrade slot hold tokens =>
      if s.fits hold.pool (tokens - hold.tokens) = false then .unfit
      else
        match s.upgradeLack hold.pool with
        | some _ => .stalled s
        | none => .gone (s.upgradeEntry e slot hold tokens)
    | .fresh tokens =>
      if s.fits e.pool tokens = false then .unfit
      else
        match s.newHoldLack e.pool with
        | some .slot => .stalled (s.raise .holdTableFull)
        | some .report => .stalled s
        | none => .gone (s.grantEntry e tokens)

/-- The pool's stalled flag is set (R89). -/
def State.stall (p : Nat) (s : State) : State := s.modAcct p (fun a => { a with stalled := true })

/-- The BACKFILL scan of the entries behind the head (R88). -/
def State.scan (p : Nat) : List WaitEntry → State → State
  | [], s => s
  | e :: rest, s =>
    match s.testEntry e with
    | .unfit => State.scan p rest s
    | .stalled t => t.stall p
    | .gone t => State.scan p rest t

/-- The pass from the head on (R85, R88). -/
def State.serve (p : Nat) : List WaitEntry → State → State
  | [], s => s
  | e :: rest, s =>
    match s.testEntry e with
    | .unfit => if s.headYoung p e then State.scan p rest s else s
    | .stalled t => t.stall p
    | .gone t => State.serve p rest t

/-- The conditions under which a pool's pass is blocked (R84). -/
def State.passBlocked (s : State) (p : Nat) : Bool :=
  decide (s.mode = .draining ∨ s.mode = .entering ∨ s.mode = .reconciling ∨ s.mode = .faultHold) || s.link.autonomyPassed ||
    !(s.record p).validOn s.today

/-- A pool's pass may begin: its mark is set, and no lower pool of a set that runs in pool-number order still waits (R83,
R90, R91; log 19). -/
def State.passReady (s : State) (p : Nat) : Bool :=
  decide (p ∈ s.queues.marks) && (decide (p ∉ s.queues.ordered) || decide (s.queues.ordered.head? = some p))

/-- A pool's marks are cleared (R83). -/
def State.clearMarks (p : Nat) (s : State) : State :=
  s.setQueues
    { s.queues with
      marks := s.queues.marks.filter (fun q => decide (q ≠ p)), ordered := s.queues.ordered.filter (fun q => decide (q ≠ p)) }

/-- A queue service pass on a pool (R83 to R85). -/
def State.runPass (p : Nat) (s : State) : State :=
  let begun := s.clearMarks p
  if begun.passBlocked p then begun
  else State.serve p (begun.poolQueue p) (begun.modAcct p (fun a => { a with stalled := false }))

/-- QUEUE_SERVICE_PASS (R85). -/
def execQueueServicePass (pool : Nat) (s : State) : Outcome State Fault Refusal :=
  if s.passReady pool then .next (s.runPass pool) else .next s

end Sys2Proof.Machine
end

