-- ==== Sys2Proof/Machine/Imaging.lean ====
section
/-! DEFINITION. The shared operations of the Reconciliation Unit: the image and its words, the move to RECONCILING, and
the validation of an image. -/

namespace Sys2Proof.Machine

/-! ### The image (R158 to R160) -/

/-- The delegated pools in pool-number order (R159). -/
def State.delegatedPools (s : State) : List Nat := s.livePools.filter (fun p => s.delegated p)

/-- The code of a delegation state (R181; R159 for the image). -/
def DelegationState.code : DelegationState → Nat
  | .absent => 0
  | .shared => 1
  | .sole => 2
  | .soleChanged => 3

/-- The mode word of a summary as built (R159). -/
def DelegationState.modeWord : DelegationState → Nat
  | .absent => 2
  | .shared => 1
  | .sole => 2
  | .soleChanged => 2

/-- The eight words of a pool summary (R159). -/
def State.summaryWords (s : State) (p : Nat) : List Word :=
  [p, (s.acct p).state.code, (s.acct p).d, (s.acct p).state.modeWord, (s.acct p).h, (s.acct p).holdCount, (s.acct p).queueLength,
    (s.acct p).peak].map (BitVec.ofNat 32)

/-- The sixteen header words (R158). -/
def State.headerWords (s : State) : List Word :=
  [0x0701] ++ timeWords (s.recon.entryTime.getD 0) ++
    [BitVec.ofNat 32 (epochNumber s.time.now s.mgmt.params.epochPeriod), if s.recon.entryDraining then 2 else 1,
      if s.recon.entryDraining then 1 else 0, 0, 0, 0, BitVec.ofNat 32 s.delegatedPools.length, 0, 0, 0, 0, 0, 0]

/-- The image as built (R158, R159). -/
def State.builtImage (s : State) : List Word := s.headerWords ++ s.delegatedPools.flatMap s.summaryWords

/-- A word of the image (R158). -/
def imageWord (image : List Word) (offset : Nat) : Nat := ((image[offset]?).getD 0).toNat

/-- The summary count of an image (R158 word 9). -/
def summaryCount (image : List Word) : Nat := imageWord image 9

/-- The writable words: header words 5 to 8, and the D and mode words of each summary (R158, R159). -/
def writableWord (offset : Nat) : Bool :=
  decide ((5 ≤ offset ∧ offset ≤ 8) ∨ (16 ≤ offset ∧ (offset % 8 = 2 ∨ offset % 8 = 3)))

/-! ### The move to RECONCILING (R157) -/

/-- The image is built, the state becomes RECONCILING and READY is queued (R157). -/
def State.becomeReconciling (s : State) : State :=
  let image := s.builtImage
  ((s.setRecon { s.recon with image := some image }).setMode .reconciling).offerUp
    (UpEntry.ready s.ownEth (s.recon.originKey.getD { node := 0, process := 0, tag := 0 })
      { length := image.length, summaries := s.delegatedPools.length, entryTime := s.recon.entryTime.getD 0, buildTime := s.time.now,
        reentry := s.recon.reentry })

/-- The test for the move: no REPORT entry stands in the Upstream Queue (R157). -/
def State.testReconciling (s : State) : State := if s.mode = .entering ∧ s.reportCount = 0 then s.becomeReconciling else s

/-! ### The validation of an image (R163) -/

/-- The relocation value: word 7 × 2^32 + word 8 (R158). -/
def relocation (image : List Word) : Nat := imageWord image 7 * 2 ^ 32 + imageWord image 8

/-- The failing offset of a summary, D word first (R163). -/
def summaryFault (image : List Word) (i : Nat) : Option Nat :=
  if 65535 < imageWord image (16 + 8 * i + 2) then some (16 + 8 * i + 2)
  else if imageWord image (16 + 8 * i + 3) = 1 ∨ imageWord image (16 + 8 * i + 3) = 2 then none
  else some (16 + 8 * i + 3)

/-- The first failing word of an image at an engine time, none where it is valid (R163). -/
def imageFault (now : Nat) (image : List Word) : Option Nat :=
  if 1 < imageWord image 5 then some 5
  else if 1 < imageWord image 6 then some 6
  else if relocation image ≠ 0 ∧ (relocation image < now ∨ 2 ^ 48 ≤ relocation image) then some 7
  else (List.range (summaryCount image)).findSome? (summaryFault image)

end Sys2Proof.Machine
end

