-- ==== Sys2Proof/Machine/Encode.lean ====
section
/-! DEFINITION. The frames of the outbound queues' entries, byte by byte (R180 to R182). -/

namespace Sys2Proof.Machine

/-! ### Codes (R181) -/

/-- One byte. -/
def byte1 (n : Nat) : List Byte := beBytes 1 n

/-- A flag or indication (R181). -/
def flagByte (b : Bool) : List Byte := byte1 (if b then 1 else 0)

/-- A handle (R181). -/
def handleBytes (h : Handle) : List Byte := beBytes 4 ((if h.service then 2 ^ 31 else 0) + h.gen * 2 ^ 16 + h.slot)

/-- A key as node, process and tag (R181). -/
def keyBytes (k : Key) : List Byte := beBytes 4 k.node.toNat ++ beBytes 4 k.process.toNat ++ beBytes 4 k.tag.toNat

/-- The value bytes of an item that is none (R181; log 11). -/
def absentBytes (width : Nat) : List Byte := (List.range width).map Config.absentByte

/-- An item given as a value or none: an indication and the value (R181). -/
def optionBytes (width : Nat) : Option Nat → List Byte
  | none => byte1 0 ++ absentBytes width
  | some n => byte1 1 ++ beBytes width n

/-- What the four bytes of an autonomy clock carry: the value, or, of one beyond four bytes, a free value (R181; log 46). -/
def clockValue (n : Nat) : Nat := if n < 2 ^ 32 then n else (Config.greatClock n).toNat

/-- The code of an engine service state (R181). -/
def EngineState.code : EngineState → Nat
  | .unconfigured => 0
  | .serving => 1
  | .draining => 2
  | .entering => 3
  | .reconciling => 4
  | .faultHold => 5

/-- The code of a link state (R181). -/
def LinkState.code : LinkState → Nat
  | .down => 0
  | .arming _ _ => 1
  | .up => 2
  | .suspect _ => 3
  | .lost => 4

/-- The link detail: bits 1..0 the good or miss count, bit 2 the arming origin LOST (R181). DOWN, UP and LOST hold no count and
no origin, and the byte is 0 there, which the spec does not say (log 39). -/
def LinkState.detail : LinkState → Nat
  | .down => 0
  | .arming .down good => good
  | .arming .lost good => 4 + good
  | .up => 0
  | .suspect miss => miss
  | .lost => 0

/-- The code of a time source state (R181). -/
def TimeSource.code : TimeSource → Nat
  | .unset => 0
  | .tracking => 1
  | .holdover => 2

/-- The code of a hold state (R181). -/
def HoldState.code : HoldState → Nat
  | .active => 1
  | .stale => 2
  | .lingering => 3

/-- The code of a change kind (R181). -/
def ChangeKind.code : ChangeKind → Nat
  | .grant => 1
  | .upgrade => 2
  | .release => 3
  | .reclaim => 4
  | .lingerEnd => 5
  | .evict => 6

/-- The code of a restart cause (R181). -/
def RestartCause.code : RestartCause → Nat
  | .powerOn => 1
  | .lineReset => 2
  | .softFull => 3
  | .softDynamic => 4

/-- The code of a SWITCH test (R181). -/
def SwitchTest.code : SwitchTest → Nat
  | .recordCount => 1
  | .matchSetSize => 2
  | .rangeOverlap => 3
  | .reassignment => 4

/-- The reason code of a DENY (R181). -/
def DenyReason.code : DenyReason → Nat
  | .noEntitlement => 1
  | .notEligible => 2
  | .outOfWindow => 3
  | .tooLarge => 4
  | .queueFull => 5
  | .noWait => 6
  | .useLimit => 7

/-- The reason code of a RETRY (R181). -/
def RetryReason.code : RetryReason → Nat
  | .holdsFull => 1
  | .duplicateTag => 2
  | .reconciling => 3
  | .serviceSlow => 4
  | .autonomyExpired => 5
  | .engineFault => 6
  | .noRoom => 7

/-- The status code of a management reply (R181). -/
def MgmtStatus.code : MgmtStatus → Nat
  | .ok => 0
  | .okClamped => 1
  | .pending => 2
  | .badRequest => 3
  | .badState => 4
  | .conflict => 5
  | .notFound => 6
  | .readOnly => 7
  | .alreadyPending => 8
  | .noRoom => 9

/-- The kind code of a management request (R181). -/
def MgmtKind.code : MgmtKind → Nat
  | .identify => 0x20
  | .readStatus => 0x21
  | .readPool => 0x22
  | .setParameters => 0x23
  | .setNotify => 0x24
  | .clearEvents => 0x25
  | .restart => 0x26
  | .loadPools => 0x27
  | .loadGroups => 0x28
  | .clearShadow => 0x29
  | .switch => 0x2A
  | .delegate => 0x2B
  | .census => 0x2C
  | .revoke => 0x2D
  | .listHolds => 0x2E
  | .listQueue => 0x2F
  | .evict => 0x30
  | .drain => 0x31
  | .undrain => 0x32
  | .setTime => 0x33
  | .injectEchoError => 0x34
  | .reconcile => 0x35
  | .imageRead => 0x36
  | .imageWrite => 0x37
  | .resume => 0x38

/-! ### Farm replies (R181) -/

/-- The kind, status and body of a farm reply (R181). -/
def FarmBody.wire : FarmBody → Nat × Nat × List Byte
  | .grant handle tokens interval deadline =>
    (0x81, 0, handleBytes handle ++ beBytes 4 tokens ++ beBytes 2 interval ++ beBytes 6 deadline)
  | .queued position demand => (0x82, 0, beBytes 2 position ++ beBytes 4 demand)
  | .deny reason => (0x83, reason.code, [])
  | .retry reason hint => (0x84, reason.code, beBytes 4 hint)
  | .released => (0x85, 0, [])
  | .renewed deadline => (0x86, 0, beBytes 6 deadline)
  | .cancelled tag => (0x87, 0, beBytes 4 tag.toNat)
  | .waitExpired => (0x88, 0, [])
  | .withdrawn => (0x89, 0, [])
  | .poolStatus pool free queueLength state =>
    (0x8A, 0, beBytes 2 pool ++ beBytes 4 free ++ byte1 queueLength ++ byte1 state.code)
  | .unknownHold => (0x8B, 0, [])
  | .notWaiting tag => (0x8C, 0, beBytes 4 tag.toNat)
  | .unreachable => (0x8D, 0, [])
  | .protocolError => (0x8E, 0, [])

/-- A frame of the engine's own, from its header, key, kind, status and body (R172, R180, R182). -/
def ownFrame (eth : EthHeader) (k : Key) (kind status : Nat) (body : List Byte) (spoiled : Bool) : Frame :=
  mkFrame eth.dst eth.src eth.etype (seatMessage kind k.tag.toNat k.node.toNat k.process.toNat status body spoiled)

/-- The frame of a Farm Reply Queue entry (R176, R181). -/
def FarmEntry.frame : FarmEntry → Frame
  | .reply eth k b => ownFrame eth k b.wire.1 b.wire.2.1 b.wire.2.2 false
  | .relay f => f

/-! ### Upstream bodies (R181) -/

/-- The body of a CHECKOUT (R96, R181). -/
def CheckoutBody.bytes (b : CheckoutBody) : List Byte :=
  beBytes 3 b.feature ++ [b.flags] ++ beBytes 2 b.version ++ beBytes 2 b.seats ++ beBytes 2 b.cores ++ beBytes 2 b.waitLimit ++
    beBytes 2 b.interval

/-- Four bytes in two's complement (R181). -/
def signedBytes (n : Int) : List Byte := beBytes 4 (BitVec.ofInt 32 n).toNat

/-- The body of a REPORT (R107, R181). -/
def ReportBody.bytes (b : ReportBody) : List Byte :=
  beBytes 2 b.pool ++ byte1 b.change.code ++ flagByte b.gap ++ handleBytes b.handle ++ signedBytes b.delta ++ beBytes 4 b.resultingH

/-- One hold of a TRANSFER (R181). -/
def TransferHold.bytes (h : TransferHold) : List Byte :=
  handleBytes h.handle ++ beBytes 4 h.node.toNat ++ beBytes 4 h.process.toNat ++ beBytes 4 h.tokens ++ byte1 h.useCount ++
    byte1 h.state.code ++ beBytes 6 h.left

/-- The body of a TRANSFER (R113, R181). -/
def TransferBody.bytes (b : TransferBody) : List Byte :=
  beBytes 2 b.pool ++ beBytes 2 b.number ++ beBytes 2 b.count ++ byte1 b.holds.length ++ byte1 0 ++ b.holds.flatMap TransferHold.bytes

/-- The flags byte of an ECHO (R181). -/
def EchoBody.flags (b : EchoBody) : Nat :=
  (if b.solicited then 1 else 0) + (if b.digest.farEndDefect then 2 else 0) + (if b.digest.autonomyRunning then 4 else 0) +
    (if b.digest.autonomyPassed then 8 else 0)

/-- The body of an ECHO (R148, R181). -/
def EchoBody.bytes (b : EchoBody) : List Byte :=
  beBytes 4 b.sequence.toNat ++ beBytes 6 b.mark ++ byte1 b.flags ++ byte1 b.digest.engine.code ++ byte1 b.digest.link.code ++
    byte1 b.digest.link.detail ++ byte1 b.digest.source.code ++ byte1 0 ++ beBytes 6 b.digest.now ++ beBytes 4 b.digest.epoch ++
    beBytes 4 (clockValue b.digest.autonomySeconds) ++ beBytes 4 b.digest.totalH ++ beBytes 4 b.digest.totalD ++
    beBytes 2 b.digest.sharedPools ++ beBytes 2 b.digest.solePools ++ beBytes 2 b.digest.soleChangedPools ++ beBytes 2 b.digest.occupied ++ beBytes 2 b.digest.waiting ++
    beBytes 2 b.digest.forwarding ++ beBytes 2 b.digest.pending.toNat

/-- The body of an EVENT (R181, R189). -/
def eventBytes (pending : EventSet) (raised : Event) (now : Nat) : List Byte :=
  beBytes 2 pending.toNat ++ byte1 raised.bit ++ byte1 0 ++ beBytes 6 now

/-- The body of a READY (R157, R181). -/
def ReadyBody.bytes (b : ReadyBody) : List Byte :=
  beBytes 2 b.length ++ beBytes 2 b.summaries ++ beBytes 6 b.entryTime ++ beBytes 6 b.buildTime ++ flagByte b.reentry

/-! ### Management reply contents (R181, R184 and the entries) -/

/-- The seven parameters as bytes 2 to 17 of the SET_PARAMETERS body (R181). -/
def Params.bytes (p : Params) : List Byte :=
  beBytes 2 p.seatType.toNat ++ beBytes 2 p.probeInterval ++ beBytes 2 p.forwardTimeout ++ beBytes 2 p.epochPeriod ++
    beBytes 4 p.autonomyLimit ++ beBytes 2 p.stepLimit ++ beBytes 2 p.retryHint

/-- The capacities of IDENTIFY (R185). -/
def capacityBytes : List Byte :=
  beBytes 2 Config.pools ++ beBytes 2 Config.holdSlots ++ beBytes 2 Config.waitPlaces ++ beBytes 2 Config.forwardEntries ++
    beBytes 2 Config.groupRanges ++ byte1 Config.poolsPerFeature

/-- A failing test with its item, or none (R128, R186). -/
def failureBytes : Option SwitchFailure → List Byte
  | none => byte1 0 ++ absentBytes 3
  | some f => byte1 1 ++ byte1 f.test.code ++ beBytes 2 f.item

/-- The port counters, each for the Farm Port and then the Service Port (R186, R192; log 36). -/
def portStatBytes (a b : PortStats) : List Byte :=
  beBytes 4 a.frames ++ beBytes 4 b.frames ++ beBytes 4 a.seatMessages ++ beBytes 4 b.seatMessages ++ beBytes 4 a.checkErrors ++
    beBytes 4 b.checkErrors ++ beBytes 4 a.framingErrors ++ beBytes 4 b.framingErrors ++ beBytes 4 a.overruns ++ beBytes 4 b.overruns ++
    beBytes 4 a.droppedReplies ++ beBytes 4 b.droppedReplies

/-- The engine counters (R186, R192). -/
def engineStatBytes (t : EngineStats) : List Byte :=
  beBytes 4 t.grants ++ beBytes 4 t.queued ++ beBytes 4 t.denials ++ beBytes 4 t.reclaims ++ beBytes 4 t.forwards ++
    beBytes 4 t.forwardTimeouts ++ beBytes 4 t.lateReplies ++ beBytes 4 t.droppedManagement

/-- The contents of READ_STATUS, group by group (R186). The Farm pause control, to whose two states R181 gives no code, is one byte,
0 for OPEN and 1 for PAUSED (log 12). -/
def StatusReport.bytes (r : StatusReport) : List Byte :=
  byte1 r.engine.code ++ byte1 r.cause.code ++ optionBytes 2 r.faultOffset ++
    (flagByte r.activePresent ++ beBytes 2 r.activeFilled ++ beBytes 2 r.shadowFilled ++ beBytes 2 r.activeRanges ++
      beBytes 2 r.shadowRanges ++ flagByte r.pendingSwitch ++ failureBytes r.heldSwitch) ++
    (byte1 r.source.code ++ beBytes 6 r.now ++ beBytes 4 r.epoch ++ beBytes 4 r.day) ++
    (byte1 r.link.code ++ byte1 r.link.detail ++ beBytes 4 r.lastSequence.toNat ++ optionBytes 4 (r.autonomyMs.map clockValue) ++
      flagByte r.autonomyPassed ++ flagByte r.echoError) ++
    (flagByte r.latch ++ optionBytes 6 r.entryTime ++ optionBytes 2 r.imageLength) ++
    (beBytes 2 r.occupied ++ beBytes 2 r.waiting ++ beBytes 2 r.forwarding) ++
    (beBytes 2 r.farmIntake ++ beBytes 2 r.serviceIntake ++ beBytes 2 r.farmReplies ++ beBytes 2 r.upstreamSeat ++
      beBytes 2 r.upstreamAll ++ flagByte r.farmPaused ++ flagByte r.servicePaused) ++
    (beBytes 2 r.pending.toNat ++ beBytes 2 r.notify.toNat) ++ r.params.bytes ++ portStatBytes r.farmStats r.serviceStats ++
    engineStatBytes r.stats

/-- The contents of READ_POOL (R187). -/
def PoolReport.bytes (r : PoolReport) : List Byte :=
  beBytes 3 r.feature ++ byte1 r.account.state.code ++ beBytes 2 r.account.d ++ beBytes 4 r.account.h ++ beBytes 2 r.account.holdCount ++
    byte1 r.account.queueLength ++ beBytes 4 r.account.reported ++ beBytes 4 r.account.peak ++ flagByte r.account.gap ++
    flagByte r.account.stalled ++ flagByte r.account.overcommit ++ flagByte r.account.reassign ++ beBytes 4 r.account.grantsThis ++
    beBytes 4 r.account.peakThis ++ beBytes 4 r.account.grantsLast ++ beBytes 4 r.account.peakLast ++ beBytes 2 r.allowance ++
    beBytes 4 r.ceiling ++ beBytes 4 r.effectiveCeiling ++ beBytes 4 r.free ++ beBytes 4 r.overdraftInUse ++ beBytes 2 r.forwards

/-- One summary of a CENSUS, 17 bytes (R105, R181). -/
def CensusSummary.bytes (c : CensusSummary) : List Byte :=
  beBytes 2 c.pool ++ byte1 c.state.code ++ beBytes 2 c.d ++ beBytes 4 c.h ++ beBytes 2 c.holdCount ++ byte1 c.queueLength ++
    beBytes 4 c.peak ++ flagByte c.gap

/-- One entry of LIST_HOLDS, 34 bytes (R78, R181). -/
def HoldLine.bytes (l : HoldLine) : List Byte :=
  handleBytes l.handle ++ beBytes 4 l.node.toNat ++ beBytes 4 l.process.toNat ++ beBytes 4 l.tokens ++ byte1 l.useCount ++
    byte1 l.state.code ++ beBytes 6 l.deadline ++ beBytes 6 l.granted ++ beBytes 4 l.tag.toNat

/-- A join target handle or its absence (R97, R181). -/
def targetBytes : Option Handle → List Byte
  | none => byte1 0 ++ absentBytes 4
  | some h => byte1 1 ++ handleBytes h

/-- One entry of LIST_QUEUE, 38 bytes (R97, R181). -/
def QueueLine.bytes (l : QueueLine) : List Byte :=
  beBytes 2 l.position ++ keyBytes l.key ++ beBytes 4 l.demand ++ targetBytes l.target ++ byte1 l.seats ++ beBytes 2 l.cores ++
    beBytes 6 l.enqueued ++ beBytes 6 l.deadline

/-- The contents of a management reply behind its kind code (R181; the details the rules leave open are in log 12). -/
def ReplyBody.bytes : ReplyBody → List Byte
  | .empty => []
  | .identity cause =>
    beBytes 2 Config.deviceCode ++ byte1 Config.hardwareRevision ++ byte1 1 ++ byte1 1 ++ capacityBytes ++ byte1 cause.code
  | .status r => r.bytes
  | .pool r => r.bytes
  | .parameters clamped params => byte1 clamped ++ params.bytes
  | .notify chosen pending => beBytes 2 chosen.toNat ++ beBytes 2 pending.toNat
  | .events pending => beBytes 2 pending.toNat
  | .scope code => byte1 code
  | .clampedCount count => byte1 count
  | .position n => beBytes 2 n
  | .rangeCount count => beBytes 2 count
  | .switchApplied => flagByte true
  | .switchPending marked => flagByte true ++ beBytes 2 marked
  | .switchRefused failure => byte1 failure.test.code ++ beBytes 2 failure.item
  | .delegated d h holdCount queueLength => beBytes 2 d ++ beBytes 4 h ++ beBytes 2 holdCount ++ byte1 queueLength
  | .census summaries settled => byte1 summaries.length ++ summaries.flatMap CensusSummary.bytes ++ flagByte settled
  | .revoked state d h holdCount queueLength n =>
    byte1 state.code ++ beBytes 2 d ++ beBytes 4 h ++ beBytes 2 holdCount ++ byte1 queueLength ++ beBytes 2 n
  | .frames count => beBytes 2 count
  | .holds p page holdCount lines =>
    beBytes 2 p ++ beBytes 2 page ++ beBytes 2 holdCount ++ byte1 lines.length ++ lines.flatMap HoldLine.bytes
  | .queue p page queueLength stalled lines =>
    beBytes 2 p ++ beBytes 2 page ++ byte1 queueLength ++ flagByte stalled ++ byte1 lines.length ++ lines.flatMap QueueLine.bytes
  | .evicted p node process tokens state useCount =>
    beBytes 2 p ++ beBytes 4 node.toNat ++ beBytes 4 process.toNat ++ beBytes 4 tokens ++ byte1 state.code ++ byte1 useCount
  | .drained forwarded refused => beBytes 2 forwarded ++ beBytes 2 refused
  | .time now => beBytes 6 now
  | .reports count => beBytes 2 count
  | .words ws => ws.flatMap (fun w => beBytes 4 w.toNat)
  | .written offset count => beBytes 2 offset ++ byte1 count
  | .readOnlyAt offset => beBytes 2 offset
  | .resumed summaries relocated withdrawn handedOn entered reentry overdue =>
    beBytes 2 summaries ++ flagByte relocated ++ beBytes 2 withdrawn ++ beBytes 2 handedOn ++ byte1 entered.code ++ flagByte reentry ++
      beBytes 2 overdue
  | .fault offset value => beBytes 2 offset ++ beBytes 4 value.toNat

/-- The body of a management reply (R184). -/
def MgmtReply.bytes (r : MgmtReply) : List Byte := byte1 r.kind.code ++ [0, 0, 0] ++ r.body.bytes

/-- The request key of frames that answer nobody (R149, R189). -/
def noKey : Key := { node := 0, process := 0, tag := 0 }

/-- The frame of an Upstream Queue entry (R176, R180, R181). -/
def UpEntry.frame : UpEntry → Frame
  | .forward f => f
  | .rebuilt eth k b => ownFrame eth k 0x01 0 b.bytes false
  | .report eth k b => ownFrame eth k 0xC2 0 b.bytes false
  | .transfer eth k b => ownFrame eth k 0xC3 0 b.bytes false
  | .reply eth k r => ownFrame eth k 0xA0 r.status.code r.bytes false
  | .echo eth k b spoiled => ownFrame eth k 0xC0 0 b.bytes spoiled
  | .event eth pending raised now => ownFrame eth noKey 0xC1 0 (eventBytes pending raised now) false
  | .ready eth k b => ownFrame eth k 0xC4 0 b.bytes false
  | .protocolError eth k => ownFrame eth k 0x8E 0 [] false

end Sys2Proof.Machine
end

