-- ==== Sys2Proof/Machine/Ports.lean ====
section
/-! DEFINITION. The commands of the ports: reception, pause, bridging, transmission, PROTOCOL_ERROR and dropped frames. -/

namespace Sys2Proof.Machine

open Host

/-! ### FRAME_RECEIVE (R170, R171, R174) -/

/-- The places of a port's intake queue (R171). -/
def intakeCapacity : Port → Nat
  | .farm => Config.farmIntake
  | .service => Config.serviceIntake

/-- A frame joins the tail of a port's intake queue (R171). -/
def State.pushIntake (port : Port) (f : Frame) (s : State) : State :=
  match port with
  | .farm => (s.setFarm { s.farm with intake := s.farm.intake ++ [f] }).pauseAssert
  | .service => s.setSvc { s.svc with intake := s.svc.intake ++ [f] }

/-- A pause frame at the Service Port: time above 0 stops the transmitter for that time, 0 resumes at once (R175). That the time is
counted from the receipt of the pause frame, not from the end of the frame in progress, is the model's choice (log 42). -/
def State.honourPause (quanta : Half) (s : State) : State :=
  s.setSvc
    { s.svc with pauseEnd := if quanta = 0 then none else some (s.clk + quanta.toNat * Config.quantumCycles) }

/-- A pause frame is consumed at its port: honoured at the Service Port, without effect at the Farm Port (R170). -/
def State.consumePause (port : Port) (quanta : Half) (s : State) : State :=
  match port with
  | .farm => s
  | .service => s.honourPause quanta

/-- One frame received more (R170, R192). -/
def State.countFrame (port : Port) (s : State) : State := s.countPort port (fun t => { t with frames := bump t.frames })

/-- A frame received: a pause frame is consumed, another frame is queued, or dropped as an overrun (R170, R171). -/
def State.receive (port : Port) (f : Frame) (s : State) : State :=
  if f.isPause then (s.countFrame port).consumePause port f.pauseTime
  else if (s.intake port).length < intakeCapacity port then (s.countFrame port).pushIntake port f
  else ((s.countFrame port).countPort port (fun t => { t with overruns := bump t.overruns })).raise .intakeOverrun

/-- FRAME_RECEIVE (R170, R171); while RESET_N is low the part receives nothing (R194). -/
def execFrameReceive (port : Port) (f : Frame) (s : State) : Outcome State Fault Refusal :=
  if s.resetLow then .next s else .next (s.receive port f)

/-! ### Pause (R174, R175) -/

/-- FARM_PAUSE_REFRESH (R174): while PAUSED, each 2 ms of the reference clock, the pause frame is sent again. -/
def execFarmPauseRefresh (s : State) : Outcome State Fault Refusal :=
  match s.farm.refreshAt with
  | none => .next s
  | some t =>
    if s.farm.paused ∧ t ≤ s.clk then
      .next ((s.setFarm { s.farm with refreshAt := some (t + Config.refreshCycles) }).duePause Config.pauseQuanta)
    else .next s

/-- SERVICE_PAUSE_FRAME (R175): the frame counts among those received; while RESET_N is low it is not received (R194). -/
def execServicePauseFrame (quanta : Half) (s : State) : Outcome State Fault Refusal :=
  if s.resetLow then .next s else .next ((s.countFrame .service).honourPause quanta)

/-- SERVICE_PAUSE_EXPIRY (R175). -/
def execServicePauseExpiry (s : State) : Outcome State Fault Refusal :=
  match s.svc.pauseEnd with
  | none => .next s
  | some t => if t ≤ s.clk then .next (s.setSvc { s.svc with pauseEnd := none }) else .next s

/-! ### BRIDGE_FRAME_PASS (R170, R173) -/

/-- A bridge frame passes unchanged to the opposite bridge slot once that slot is free (R170), its FCS as received, right or wrong: the
model's choice between R170 and R172 (log 44). -/
def State.passBridge (port : Port) (f : Frame) (s : State) : State :=
  match s.oppositeSlot port with
  | none => (s.popIntake port).fillOpposite port f
  | some _ => s

/-- BRIDGE_FRAME_PASS (R170, R173): a bridge frame, or an engine's outbound kind, at the head of the queue. -/
def execBridgeFramePass (port : Port) (s : State) : Outcome State Fault Refusal :=
  match s.head port with
  | some (f, .bridge) => .next (s.passBridge port f)
  | some (f, .message _ .outbound) => .next (s.bridgeSeat port f)
  | _ => .next s

/-! ### FRAME_TRANSMIT (R176, R179) -/

/-- The Farm Port's next choice: a due pause frame, the head of the Farm Reply Queue, the bridge slot (R176). A bridge frame is sent with
the FCS that it was received with, right or wrong (log 44). -/
def State.sendFarm (s : State) : State :=
  match s.farm.pauseDue with
  | quanta :: due => s.setFarm { s.farm with pauseDue := due, sending := some (pauseFrame quanta) }
  | [] =>
    match s.farm.replies with
    | e :: rest => s.setFarm { s.farm with replies := rest, sending := some e.frame }
    | [] => s.setFarm { s.farm with bridge := none, sending := s.farm.bridge }

/-- An entry departs from the Upstream Queue: stalled pools are called on, and a REPORT's departure in ENTERING makes the
test for the move to RECONCILING (R89, R179). -/
def State.depart (e : UpEntry) (rest : List UpEntry) (s : State) : State :=
  let left := (s.setSvc { s.svc with upstream := rest, sending := some e.frame }).askPasses s.stalledPools
  if e.isReport then left.testReconciling else left

/-- The Service Port's next choice: the restart reply slot, the head of the Upstream Queue, the bridge slot (R176). A bridge frame is sent
with the FCS that it was received with, right or wrong (log 44). -/
def State.sendService (s : State) : State :=
  match s.svc.restartSlot with
  | some e => s.setSvc { s.svc with restartSlot := none, sending := some e.frame }
  | none =>
    match s.svc.upstream with
    | e :: rest => s.depart e rest
    | [] => s.setSvc { s.svc with bridge := none, sending := s.svc.bridge }

/-- FRAME_TRANSMIT (R176): the frame in progress ends, and the arbiter chooses the next; nothing is chosen while the port is
stopped by a pause (R175) or RESET_N is low (R194). -/
def execFrameTransmit (port : Port) (s : State) : Outcome State Fault Refusal :=
  match port with
  | .farm => if s.resetLow then .next (s.setFarm { s.farm with sending := none }) else .next s.sendFarm
  | .service =>
    if s.resetLow ∨ s.svc.pauseEnd ≠ none then .next (s.setSvc { s.svc with sending := none }) else .next s.sendService

/-! ### PROTOCOL_ERROR and dropped frames (R172, R173) -/

/-- The PROTOCOL_ERROR of a faulty message: into the queue of the port it arrived at (R173; log 35). -/
def State.answerFault (port : Port) (f : Frame) (k : Key) (s : State) : State :=
  match port with
  | .farm => s.toFarm (addrsOf f) k .protocolError
  | .service => s.offerUp (UpEntry.protocolError (s.answerEth (addrsOf f)) k)

/-- PROTOCOL_ERROR (R172, R173): the frame leaves its queue and is answered; no other state changes (log 14). -/
def execProtocolError (port : Port) (s : State) : Outcome State Fault Refusal :=
  match s.head port with
  | some (f, .protocolError k) => .next ((s.popIntake port).answerFault port f k)
  | _ => .next s

/-- One check error more (R172, R192). -/
def State.countCheckError (port : Port) (s : State) : State :=
  s.countPort port (fun t => { t with checkErrors := bump t.checkErrors })

/-- One framing error more (R172, R192). -/
def State.countFramingError (port : Port) (s : State) : State :=
  s.countPort port (fun t => { t with framingErrors := bump t.framingErrors })

/-- SEAT_FRAME_DROP (R172): the head fails the FCS, length, message check (other than a PROBE at the Service Port) or
direction check, and leaves no other trace than its count (log 14). -/
def execSeatFrameDrop (port : Port) (s : State) : Outcome State Fault Refusal :=
  match s.head port with
  | some (_, .badFcs) => .next ((s.popIntake port).countCheckError port)
  | some (_, .badCheck) => .next ((s.popIntake port).countCheckError port)
  | some (_, .badLength) => .next ((s.popIntake port).countFramingError port)
  | some (_, .wrongPort) => .next ((s.popIntake port).countFramingError port)
  | _ => .next s

end Sys2Proof.Machine
end

