-- ==== Sys2Proof/Machine/DelegationRequests.lean ====
section
/-! DEFINITION. DELEGATE, CENSUS, REVOKE, LIST_HOLDS, LIST_QUEUE, EVICT, DRAIN and UNDRAIN. -/

namespace Sys2Proof.Machine

open Host

/-! ### DELEGATE (R101 to R104) -/

/-- The mode of a DELEGATE as the delegation state it gives (R101, R181). -/
def modeOf (code : Nat) : Option DelegationState := if code = 1 then some .shared else if code = 2 then some .sole else none

/-- An account given D and a mode, and settled (R100, R102, R103). -/
def Account.delegated (a : Account) (d : Nat) (mode : DelegationState) : Account := Account.settled { a with d, state := mode }

/-- D and the mode of a pool are set, the pool is settled, and the account responds (R102 to R104, R165). -/
def State.delegatePool (p d : Nat) (mode : DelegationState) (s : State) : State :=
  State.respond s p (s.modAcct p (fun a => a.delegated d mode))

/-- The engine is SERVING or DRAINING (R101, R111). -/
def State.working (s : State) : Bool := decide (s.mode = .serving ∨ s.mode = .draining)

/-- The figures of a DELEGATE reply as they stand (R104). R99 says that the reply shows the delegation state too, which R104's list
of its contents has not; the model sends what R104 lists, and no state (log 12). -/
def State.delegatedBody (s : State) (p : Nat) : ReplyBody :=
  .delegated (s.acct p).d (s.acct p).h (s.acct p).holdCount (s.acct p).queueLength

/-- DELEGATE carried out (R101 to R104). -/
def State.delegate (k : Key) (p d mode : Nat) (s : State) : State :=
  match modeOf mode with
  | none => s.answerBare k .delegate .badRequest
  | some m =>
    if Config.pools ≤ p then s.answerBare k .delegate .badRequest
    else if s.working = false then s.answerBare k .delegate .badState
    else if (s.record? p).isNone then s.answerBare k .delegate .notFound
    else if (s.acct p).reassign then s.answerBare k .delegate .conflict
    else (s.delegatePool p d m).answerOk k .delegate ((s.delegatePool p d m).delegatedBody p)

/-- DELEGATE (R101). -/
def execDelegate (s : State) : Outcome State Fault Refusal :=
  match s.headRequest with
  | some (f, k, .delegate p d mode) => .next (s.manage f (State.delegate k p d mode))
  | _ => .next s

/-! ### CENSUS (R105, R106) -/

/-- The pools a CENSUS summarises: count pools from the first, stopping at the last pool number (R105). -/
def censusRun (first count : Nat) : List Nat := (List.range (min count (Config.pools - first))).map (fun i => first + i)

/-- The summary of a pool as it stands (R105): an ABSENT pool gives ABSENT and zeros. -/
def State.summary (s : State) (p : Nat) : CensusSummary :=
  { pool := p, state := (s.acct p).state, d := (s.acct p).d, h := (s.acct p).h, holdCount := (s.acct p).holdCount,
    queueLength := (s.acct p).queueLength, peak := (s.acct p).peak, gap := (s.acct p).gap }

/-- The pools of a list are settled (R100, R106). -/
def State.settlePools (ps : List Nat) (s : State) : State := ps.foldl (fun t p => t.modAcct p Account.settled) s

/-- The engine states in which a CENSUS settles (R106). -/
def State.settles (s : State) : Bool := decide (s.mode = .serving ∨ s.mode = .draining ∨ s.mode = .faultHold)

/-- CENSUS carried out (R105, R106). A first pool above 1023 is refused before the state is tested, an order R105 does not give
(log 38). -/
def State.census (k : Key) (first count : Nat) (s : State) : State :=
  let run := censusRun first (clamp 1 32 count)
  if Config.pools ≤ first then s.answerBare k .census .badRequest
  else if s.mode = .unconfigured then s.answerBare k .census .badState
  else
    (if s.settles then s.settlePools run else s).answerMgmt k
      { kind := .census, status := if clamp 1 32 count = count then .ok else .okClamped,
        body := .census (run.map s.summary) s.settles }

/-- CENSUS (R105). -/
def execCensus (s : State) : Outcome State Fault Refusal :=
  match s.headRequest with
  | some (f, k, .census first count) => .next (s.manage f (State.census k first count))
  | _ => .next s

/-! ### REVOKE (R111 to R114) -/

/-- The holds of one TRANSFER frame (R112, R113). -/
def holdsPerFrame : Nat := 40

/-- The TRANSFER frames a pool with this many holds needs (R112). -/
def framesFor (holds : Nat) : Nat := (holds + (holdsPerFrame - 1)) / holdsPerFrame

/-- A hold as a TRANSFER frame lists it (R113). -/
def State.transferHold (s : State) (e : Nat × Hold) : TransferHold :=
  { handle := s.handleAt e.1, node := e.2.node, process := e.2.process, tokens := e.2.tokens, useCount := e.2.useCount,
    state := e.2.state, left := e.2.deadline - s.time.now }

/-- The TRANSFER frame with this index, from 0 (R113). -/
def State.transferFrame (s : State) (p n i : Nat) : TransferBody :=
  { pool := p, number := i + 1, count := n,
    holds := (((s.holdsOf p).drop (i * holdsPerFrame)).take holdsPerFrame).map s.transferHold }

/-- The TRANSFER frames are queued one after another (R113). -/
def State.sendTransfers (k : Key) (p n : Nat) (s : State) : State :=
  (List.range n).foldl (fun t i => t.pushUp (UpEntry.transfer s.ownEth k (s.transferFrame p n i))) s

/-- A hold is removed by REVOKE: its slot is freed and the notice given, without credit or report (R67, R114). -/
def State.takeAway (slot : Nat) (s : State) : State := (s.freeSlot slot).slotFreed s.tableFull

/-- What REVOKE does behind its reply: the holds removed, the entries handed on, the account cleared (R114). -/
def State.stripPool (p : Nat) (s : State) : State :=
  let removed := (s.holdsOf p).foldl (fun t e => t.takeAway e.1) s
  ((removed.poolQueue p).foldl (fun t e => t.revokeEntry e) removed).setAcct p Account.cleared

/-- The room test of REVOKE; the place kept for its reply is counted as the reply's (R112). -/
def State.transferRoom (s : State) (n : Nat) : Bool :=
  decide (s.seatCount + n ≤ Config.upstreamSeat ∧ s.svc.upstream.length + n + 1 ≤ Config.upstream)

/-- The totals of a REVOKE reply, as they stood before it (R113). -/
def State.revokedBody (s : State) (p n : Nat) : ReplyBody :=
  .revoked (s.acct p).state (s.acct p).d (s.acct p).h (s.acct p).holdCount (s.acct p).queueLength n

/-- REVOKE carried out (R111 to R114). A pool above 1023 is refused before the state is tested, an order R111 does not give
(log 38). -/
def State.revoke (k : Key) (p : Nat) (s : State) : State :=
  let n := framesFor (s.holdsOf p).length
  if Config.pools ≤ p then s.answerBare k .revoke .badRequest
  else if s.working = false then s.answerBare k .revoke .badState
  else if s.delegated p = false then s.answerOk k .revoke (.revoked .absent 0 0 0 0 0)
  else if s.transferRoom n = false then s.answerMgmt k { kind := .revoke, status := .noRoom, body := .frames n }
  else ((s.sendTransfers k p n).answerOk k .revoke (s.revokedBody p n)).stripPool p

/-- REVOKE (R111). -/
def execRevoke (s : State) : Outcome State Fault Refusal :=
  match s.headRequest with
  | some (f, k, .revoke p) => .next (s.manage f (State.revoke k p))
  | _ => .next s

/-! ### LIST_HOLDS and LIST_QUEUE (R78, R97) -/

/-- A page of a list. -/
def pageOf {α : Type} (size page : Nat) (l : List α) : List α := (l.drop (size * page)).take size

/-- A hold as LIST_HOLDS shows it (R78). -/
def State.holdLine (s : State) (e : Nat × Hold) : HoldLine :=
  { handle := s.handleAt e.1, node := e.2.node, process := e.2.process, tokens := e.2.tokens, useCount := e.2.useCount,
    state := e.2.state, deadline := e.2.deadline, granted := e.2.granted, tag := e.2.tag }

/-- LIST_HOLDS carried out (R78). -/
def State.listHolds (k : Key) (p page : Nat) (s : State) : State :=
  if Config.pools ≤ p then s.answerBare k .listHolds .badRequest
  else s.answerOk k .listHolds (.holds p page (s.acct p).holdCount ((pageOf 28 page (s.holdsOf p)).map s.holdLine))

/-- LIST_HOLDS (R78). -/
def execListHolds (s : State) : Outcome State Fault Refusal :=
  match s.headRequest with
  | some (f, k, .listHolds p page) => .next (s.manage f (State.listHolds k p page))
  | _ => .next s

/-- An entry as LIST_QUEUE shows it, with its position (R97). -/
def queueLine (position : Nat) (e : WaitEntry) : QueueLine :=
  { position, key := e.key, demand := e.demand, target := e.target, seats := e.seats, cores := e.cores, enqueued := e.enqueued,
    deadline := e.deadline }

/-- LIST_QUEUE carried out (R97). -/
def State.listQueue (k : Key) (p page : Nat) (s : State) : State :=
  if Config.pools ≤ p then s.answerBare k .listQueue .badRequest
  else
    s.answerOk k .listQueue
      (.queue p page (s.acct p).queueLength (s.acct p).stalled
        ((pageOf 24 page (s.poolQueue p)).mapIdx (fun i e => queueLine (24 * page + i + 1) e)))

/-- LIST_QUEUE (R97). -/
def execListQueue (s : State) : Outcome State Fault Refusal :=
  match s.headRequest with
  | some (f, k, .listQueue p page) => .next (s.manage f (State.listQueue k p page))
  | _ => .next s

/-! ### EVICT (R76) -/

/-- EVICT carried out (R76). -/
def State.evict (k : Key) (handle : Handle) (s : State) : State :=
  if s.reconciling ∨ s.mode = .faultHold then s.answerBare k .evict .badState
  else
    match s.namedHold handle with
    | none => s.answerBare k .evict .notFound
    | some h =>
      (s.removeHold handle.slot h .evict).answerOk k .evict (.evicted h.pool h.node h.process h.tokens h.state h.useCount)

/-- EVICT (R76). -/
def execEvict (s : State) : Outcome State Fault Refusal :=
  match s.headRequest with
  | some (f, k, .evict handle) => .next (s.manage f (State.evict k handle))
  | _ => .next s

/-! ### DRAIN and UNDRAIN (R42 to R44) -/

/-- The entry into DRAINING: the state, and every waiting entry handed on (R43). -/
def State.enterDraining (s : State) : State :=
  (s.entriesByPool).foldl (fun t e => t.drainEntry e) (s.setMode .draining)

/-- The entries an entry into DRAINING forwards, counted by the forwards it creates (R42). -/
def State.drainForwards (s : State) : Nat := s.enterDraining.fwd.entries.length - s.fwd.entries.length

/-- DRAIN carried out (R42, R43). -/
def State.drain (k : Key) (s : State) : State :=
  match s.mode with
  | .serving =>
    s.enterDraining.answerOk k .drain (.drained s.drainForwards (s.queues.entries.length - s.drainForwards))
  | .draining => s.answerOk k .drain (.drained 0 0)
  | .unconfigured => s.answerBare k .drain .badState
  | .entering => s.answerBare k .drain .badState
  | .reconciling => s.answerBare k .drain .badState
  | .faultHold => s.answerBare k .drain .badState

/-- DRAIN (R42). -/
def execDrain (s : State) : Outcome State Fault Refusal :=
  match s.headRequest with
  | some (f, k, .drain) => .next (s.manage f (State.drain k))
  | _ => .next s

/-- UNDRAIN carried out (R44). -/
def State.undrain (k : Key) (s : State) : State :=
  match s.mode with
  | .serving => s.answerOk k .undrain .empty
  | .draining => (s.setMode .serving).answerOk k .undrain .empty
  | .unconfigured => s.answerBare k .undrain .badState
  | .entering => s.answerBare k .undrain .badState
  | .reconciling => s.answerBare k .undrain .badState
  | .faultHold => s.answerBare k .undrain .badState

/-- UNDRAIN (R44). -/
def execUndrain (s : State) : Outcome State Fault Refusal :=
  match s.headRequest with
  | some (f, k, .undrain) => .next (s.manage f (State.undrain k))
  | _ => .next s

end Sys2Proof.Machine
end

