-- ==== Sys2Proof/Machine/TimeRequests.lean ====
section
/-! DEFINITION. SET_TIME and INJECT_ECHO_ERROR. -/

namespace Sys2Proof.Machine

open Host

/-- The move out of UNSET that a SET_TIME or a relocation makes: TRACKING, or HOLDOVER where the link is LOST, which is then
raised too (R135). -/
def State.setTimeSource (s : State) : State :=
  if s.time.source = .unset then
    if s.link.state = .lost then (s.leaveUnset .holdover).raise .holdover else s.leaveUnset .tracking
  else s

/-- SET_TIME in STEP mode (R135). -/
def State.setTimeStep (value : Nat) (s : State) : State := (s.stepTo value).setTimeSource

/-- SET_TIME in REBASE mode (R135). -/
def State.setTimeRebase (value : Nat) (s : State) : State := (s.rebaseTo value).setTimeSource

/-- SET_TIME carried out (R135). -/
def State.takeSetTime (k : Key) (mode value : Nat) (s : State) : State :=
  if value < s.time.now then s.answerBare k .setTime .badRequest
  else if mode = 1 then (s.setTimeStep value).answerOk k .setTime (.time value)
  else if mode = 2 then (s.setTimeRebase value).answerOk k .setTime (.time value)
  else s.answerBare k .setTime .badRequest

/-- SET_TIME (R135). -/
def execSetTime (s : State) : Outcome State Fault Refusal :=
  match s.headRequest with
  | some (f, k, .setTime mode value) => .next (s.manage f (State.takeSetTime k mode value))
  | _ => .next s

/-- INJECT_ECHO_ERROR carried out (R153). -/
def State.injectEchoError (k : Key) (s : State) : State :=
  (s.setLink { s.link with echoError := true }).answerOk k .injectEchoError .empty

/-- INJECT_ECHO_ERROR (R153). -/
def execInjectEchoError (s : State) : Outcome State Fault Refusal :=
  match s.headRequest with
  | some (f, k, .injectEchoError) => .next (s.manage f (State.injectEchoError k))
  | _ => .next s

end Sys2Proof.Machine
end

