-- ==== Sys2Proof/Machine/Reconcile.lean ====
section
/-! DEFINITION. RECONCILE, IMAGE_READ, IMAGE_WRITE and RESUME. -/

namespace Sys2Proof.Machine

open Host

/-! ### RECONCILE (R155) -/

/-- A reconciliation begins (R155). -/
def State.beginEntering (k : Key) (s : State) : State :=
  (s.setRecon
    { s.recon with
      originKey := some k, entryTime := some s.time.now, entryDraining := decide (s.mode = .draining), reentry := false }).setMode
    .entering

/-- A reconciliation that follows the present one is asked for (R155). -/
def State.latchReconcile (k : Key) (s : State) : State :=
  if s.recon.latch then s.answerBare k .reconcile .alreadyPending
  else (s.setRecon { s.recon with latch := true, latchedKey := some k }).answerBare k .reconcile .pending

/-- An accepted RECONCILE: the reply, then the test for the move to RECONCILING (R155, R157). -/
def State.acceptReconcile (k : Key) (s : State) : State :=
  ((s.beginEntering k).answerOk k .reconcile (.reports s.reportCount)).testReconciling

/-- RECONCILE carried out (R155). -/
def State.reconcile (k : Key) (s : State) : State :=
  match s.mode with
  | .serving => s.acceptReconcile k
  | .draining => s.acceptReconcile k
  | .entering => s.latchReconcile k
  | .reconciling => s.latchReconcile k
  | .unconfigured => s.answerBare k .reconcile .badState
  | .faultHold => s.answerBare k .reconcile .badState

/-- RECONCILE (R155). -/
def execReconcile (s : State) : Outcome State Fault Refusal :=
  match s.headRequest with
  | some (f, k, .reconcile) => .next (s.manage f (State.reconcile k))
  | _ => .next s

/-! ### IMAGE_READ and IMAGE_WRITE (R161, R162) -/

/-- The image words, none while the image is invalid (R154). -/
def State.imageWords (s : State) : List Word := s.recon.image.getD []

/-- IMAGE_READ carried out (R161). -/
def State.imageRead (k : Key) (offset count : Nat) (s : State) : State :=
  if s.mode ≠ .reconciling then s.answerBare k .imageRead .badState
  else if count = 0 ∨ 255 < count ∨ s.imageWords.length < offset + count then s.answerBare k .imageRead .badRequest
  else s.answerOk k .imageRead (.words ((s.imageWords.drop offset).take count))

/-- IMAGE_READ (R161). -/
def execImageRead (s : State) : Outcome State Fault Refusal :=
  match s.headRequest with
  | some (f, k, .imageRead offset count) => .next (s.manage f (State.imageRead k offset count))
  | _ => .next s

/-- The words of an IMAGE_WRITE (R181). -/
def carriedWords (count : Nat) (items : List Byte) : List Word := (List.range count).map (fun i => wordAt items (i * 4))

/-- The lowest read-only offset in a range (R162). -/
def readOnlyIn (offset count : Nat) : Option Nat :=
  ((List.range count).map (fun i => offset + i)).find? (fun o => !writableWord o)

/-- Words written over those from an offset on (R162). -/
def overwrite (image : List Word) (offset : Nat) (words : List Word) : List Word :=
  image.take offset ++ words ++ image.drop (offset + words.length)

/-- IMAGE_WRITE carried out (R162). -/
def State.imageWrite (k : Key) (offset count : Nat) (items : List Byte) (s : State) : State :=
  if s.mode ≠ .reconciling then s.answerBare k .imageWrite .badState
  else if count = 0 ∨ 64 < count ∨ items.length < 4 * count ∨ s.imageWords.length < offset + count then
    s.answerBare k .imageWrite .badRequest
  else
    match readOnlyIn offset count with
    | some o => s.answerMgmt k { kind := .imageWrite, status := .readOnly, body := .readOnlyAt o }
    | none =>
      (s.setRecon { s.recon with image := some (overwrite s.imageWords offset (carriedWords count items)) }).answerOk k .imageWrite
        (.written offset count)

/-- IMAGE_WRITE (R162). -/
def execImageWrite (s : State) : Outcome State Fault Refusal :=
  match s.headRequest with
  | some (f, k, .imageWrite offset count items) => .next (s.manage f (State.imageWrite k offset count items))
  | _ => .next s

/-! ### RESUME (R163 to R168) -/

/-- The effects of the entry into FAULT_HOLD (R41). -/
def State.enterFaultHold (s : State) : State :=
  (s.entriesByPool.foldl (fun t e => (t.unlink e).retry e.addrs e.key .engineFault) (s.setMode .faultHold)).setFwd
    { entries := [], late := [] }

/-- A RESUME that finds the image invalid at an offset (R164). -/
def State.resumeFault (k : Key) (offset : Nat) (s : State) : State :=
  let held := ((s.setRecon { s.recon with faultOffset := some offset }).raise .reconcileFault).enterFaultHold
  (held.setRecon { held.recon with latch := false, latchedKey := none, image := none }).answerMgmt k
    { kind := .resume, status := .badRequest, body := .fault offset ((s.imageWords[offset]?).getD 0) }

/-- A boundary produced by the relocation rolls the epoch statistics at once: the engine is still RECONCILING (R165). -/
def State.relocationBoundary (before : State) (s : State) : State :=
  if s.time.epochOwed = before.time.epochOwed then s
  else (s.setTime { s.time with epochOwed := before.time.epochOwed }).rollEpoch

/-- The relocation of an image (R165; log 22). -/
def State.relocate (value : Nat) (s : State) : State :=
  if value = 0 then s else (State.relocationBoundary s (s.setTimeStep value)).staleReached

/-- The pool values of one summary (R165). -/
def State.applySummary (image : List Word) (s : State) (i : Nat) : State :=
  s.delegatePool (imageWord image (16 + 8 * i)) (imageWord image (16 + 8 * i + 2))
    (if imageWord image (16 + 8 * i + 3) = 1 then .shared else .sole)

/-- The pool values of an image, in pool-number order (R165). -/
def State.applySummaries (image : List Word) (s : State) : State :=
  (List.range (summaryCount image)).foldl (State.applySummary image) s

/-- The queue action of an image: FLUSH withdraws every waiting entry (R95, R166). -/
def State.queueAction (image : List Word) (s : State) : State :=
  if imageWord image 6 = 1 then s.dismissAll .withdrawn s.entriesByPool else s

/-- The engine state of an image: SERVING, or DRAINING with its hand-off (R166). -/
def State.resumeState (image : List Word) (s : State) : State :=
  if imageWord image 5 = 1 then s.enterDraining else s.setMode .serving

/-- The image has become invalid (R166). -/
def State.dropImage (s : State) : State := s.setRecon { s.recon with image := none }

/-- A valid image applied up to the slots: relocation, pool values, queue action (R165, R166). -/
def State.resumeValues (image : List Word) (s : State) : State :=
  (State.applySummaries image (s.relocate (relocation image)))

/-- The RESUME reply (R166): the entries withdrawn are those that waited before the queue action of FLUSH, the entries handed
on those that waited at the entry into DRAINING. -/
def resumeReply (image : List Word) (valued acted entered : State) (reentry : Bool) (overdue : Nat) : MgmtReply :=
  { kind := .resume, status := .ok,
    body :=
      .resumed (summaryCount image) (decide (relocation image ≠ 0))
        (valued.queues.entries.length - acted.queues.entries.length)
        (acted.queues.entries.length - entered.queues.entries.length) entered.mode reentry overdue }

/-- The re-entry of a RESUME that finds the latch set: a new ENTERING begins under the latched key (R167). -/
def State.reenter (s : State) : State :=
  (s.setRecon
    { s.recon with
      latch := false, latchedKey := none, originKey := s.recon.latchedKey, entryTime := some s.time.now,
      entryDraining := decide (s.mode = .draining), reentry := true }).setMode .entering

/-- A RESUME that finds the image valid (R165 to R168). It is one step, so its FLUSH or drain always finds an entry whose wait
deadline its relocation has passed, where R166 lets either be taken first (log 40); and the EVENT notices of a RESUME that
re-enters stand between its reply and the READY that follows (log 16). -/
def State.resumeValid (k : Key) (image : List Word) (s : State) : State :=
  let valued := s.resumeValues image
  let acted := valued.queueAction image
  let entered := (acted.resumeState image).dropImage
  if s.recon.latch then
    (entered.reenter.answerMgmt k (resumeReply image valued acted entered true 0)).testReconciling
  else
    let ended := entered.endHolds entered.overdue
    let answered := ended.answerMgmt k (resumeReply image valued acted entered false entered.overdue.length)
    answered.askAllOrdered answered.waitingPools

/-- RESUME carried out (R163). -/
def State.resume (k : Key) (s : State) : State :=
  if s.mode ≠ .reconciling then s.answerBare k .resume .badState
  else
    match imageFault s.time.now s.imageWords with
    | some offset => s.resumeFault k offset
    | none => s.resumeValid k s.imageWords

/-- RESUME (R163). -/
def execResume (s : State) : Outcome State Fault Refusal :=
  match s.headRequest with
  | some (f, k, .resume) => .next (s.manage f (State.resume k))
  | _ => .next s

end Sys2Proof.Machine
end

