-- ==== Sys2Proof/Machine/Resets.lean ====
section
/-! DEFINITION. RESTART, POWER_ON_RESET and LINE_RESET. -/

namespace Sys2Proof.Machine

open Host

/-! ### What every reset and restart does -/

/-- The pause frames due once the Farm pause control has been opened by emptying the queue (R174; log 24). -/
def State.pausesAfter (s : State) : List Nat := if s.farm.paused then s.farm.pauseDue ++ [0] else s.farm.pauseDue

/-- The Farm Port emptied: the frame in progress goes on, and pause frames due stay due (R174, R183, R192). -/
def State.emptiedFarm (s : State) : FarmPort :=
  { intake := [], bridge := none, replies := [], paused := false, pauseDue := s.pausesAfter, refreshAt := none, sending := s.farm.sending,
    stats := PortStats.zero }

/-- The Reconciliation Unit after every reset and restart (R154). -/
def Reconciliation.cleared : Reconciliation :=
  { latch := false, latchedKey := none, originKey := none, entryTime := none, image := none, faultOffset := none,
    entryDraining := false, reentry := false }

/-! ### RESTART FULL, POWER_ON_RESET, LINE_RESET (R193, R194) -/

/-- The state a RESTART FULL leaves, with its cause, what stands in the restart reply slot and the pause in force: the values
of a power-on reset, the commands that wait, the clock, the RESET_N level and the frames in progress kept (R183, R193, R194;
log 29). -/
def State.restarted (s : State) (cause : RestartCause) (slot : Option UpEntry) (pause : Option Nat) : State :=
  { State.reset with
    pending := s.pending, clk := s.clk, resetLow := s.resetLow, farm := s.emptiedFarm,
    svc := { State.reset.svc with restartSlot := slot, pauseEnd := pause, sending := s.svc.sending },
    mgmt := { State.reset.mgmt with cause := cause } }

/-! ### RESTART DYNAMIC (R193) -/

/-- The Hold Table emptied, each slot that held a hold one generation on (R79). -/
def HoldTable.raised (t : HoldTable) : HoldTable :=
  { slots := [],
    gens := t.slots.foldl (fun g e => Table.putD g 0 e.1 ((Table.getD g 0 e.1 + 1) % Config.generations)) t.gens }

/-- The state a RESTART DYNAMIC leaves, before RESTARTED is raised (R193 and the rules its table names). -/
def State.dynamicCleared (s : State) (slot : Option UpEntry) : State :=
  { s with
    mode := if s.banks.active.isSome then .serving else .unconfigured,
    banks := { s.banks with pendingSwitch := none }, accounts := [], holds := s.holds.raised,
    queues := { entries := [], marks := [], ordered := [] }, fwd := { entries := [], late := [] }, recon := Reconciliation.cleared,
    farm := s.emptiedFarm,
    svc := { s.svc with intake := [], bridge := none, upstream := [], restartSlot := slot, stats := PortStats.zero },
    mgmt := { s.mgmt with events := 0, stats := EngineStats.zero, cause := .softDynamic } }

/-! ### RESTART (R193) -/

/-- The RESTART reply, formed before the restart takes effect (R193; log 23). -/
def State.restartReply (s : State) (k : Key) (status : MgmtStatus) (body : ReplyBody) : UpEntry :=
  UpEntry.reply s.ownEth k { kind := .restart, status, body }

/-- RESTART carried out: the reply goes to the restart reply slot, and the restart takes effect (R193). -/
def State.restart (k : Key) (scope : Nat) (s : State) : State :=
  if scope = 1 then s.restarted .softFull (some (s.restartReply k .ok (.scope 1))) s.svc.pauseEnd
  else if scope = 2 then (s.dynamicCleared (some (s.restartReply k .ok (.scope 2)))).raise .restarted
  else s.setSvc { s.svc with restartSlot := some (s.restartReply k .badRequest .empty) }

/-- RESTART (R193): taken whatever the Upstream Queue holds (R184). -/
def execRestart (s : State) : Outcome State Fault Refusal :=
  match s.headRequest with
  | some (f, k, .restart scope) => .next ((s.takeMessage .service f).restart k scope)
  | _ => .next s

/-! ### Resets (R194) -/

/-- POWER_ON_RESET (R194): power is applied; the clock starts again and RESET_N is not low. -/
def execPowerOnReset (s : State) : Outcome State Fault Refusal :=
  .next { s.restarted .powerOn none none with clk := 0, resetLow := false }

/-- LINE_RESET (R194): RESET_N goes low, and its rise leaves the engine reset. -/
def execLineReset (low : Bool) (s : State) : Outcome State Fault Refusal :=
  if low then .next (s.setResetLow true)
  else if s.resetLow then .next ((s.restarted .lineReset none none).setResetLow false)
  else .next s

end Sys2Proof.Machine
end

