-- ==== Sys2Proof/Machine/Idle.lean ====
section
/-! DEFINITION. What the block does on an empty command queue (log 4): an event that is due is taken, in a fixed order;
where none is due, the reference clock runs to the next moment at which one falls due or engine time advances. -/

namespace Sys2Proof.Machine

open Host

/-! ### Which event is due (log 4) -/

/-- The command of a management request. -/
def MgmtRequest.command : MgmtRequest → Instr
  | .identify => .identify
  | .readStatus => .readStatus
  | .readPool _ => .readPool
  | .setParameters _ _ => .setParameters
  | .setNotify _ => .setNotify
  | .clearEvents _ => .clearEvents
  | .restart _ => .restart
  | .loadPools _ _ => .loadPools
  | .loadGroups _ _ => .loadGroups
  | .clearShadow => .clearShadow
  | .switch _ => .switch
  | .delegate _ _ _ => .delegate
  | .census _ _ => .census
  | .revoke _ => .revoke
  | .listHolds _ _ => .listHolds
  | .listQueue _ _ => .listQueue
  | .evict _ => .evict
  | .drain => .drain
  | .undrain => .undrain
  | .setTime _ _ => .setTime
  | .injectEchoError => .injectEchoError
  | .reconcile => .reconcile
  | .imageRead _ _ => .imageRead
  | .imageWrite _ _ _ => .imageWrite
  | .resume => .resume

/-- The command that takes a message at a port. -/
def Message.command (port : Port) : Message → Instr
  | .checkout _ => .checkout
  | .checkin _ _ => .checkin
  | .renew _ _ => .renew
  | .cancel _ => .cancel
  | .query _ _ => .query
  | .farmReply => .serviceReplyRelay
  | .probe _ _ => .probe
  | .mgmt r => r.command
  | .outbound => .bridgeFramePass port

/-- A message waits for the opposite bridge slot (R40, R173). -/
def State.bridgesMessage (s : State) : Message → Bool
  | .checkout _ => s.bridging
  | .checkin _ _ => s.bridging
  | .renew _ _ => s.bridging
  | .cancel _ => s.bridging
  | .query _ _ => s.bridging
  | .farmReply => s.bridging
  | .probe _ _ => false
  | .mgmt _ => false
  | .outbound => true

/-- The command that takes the head of a port's intake queue, none where the queue is empty or its head waits for the
opposite bridge slot. -/
def State.headCommand (s : State) (port : Port) : Option Instr :=
  match s.head port with
  | none => none
  | some (_, .bridge) => if (s.oppositeSlot port).isNone then some (.bridgeFramePass port) else none
  | some (_, .badFcs) => some (.seatFrameDrop port)
  | some (_, .badLength) => some (.seatFrameDrop port)
  | some (_, .badCheck) => some (.seatFrameDrop port)
  | some (_, .wrongPort) => some (.seatFrameDrop port)
  | some (_, .badProbe) => some .probe
  | some (_, .protocolError _) => some (.protocolError port)
  | some (_, .message _ m) =>
    if s.bridgesMessage m ∧ (s.oppositeSlot port).isSome then none else some (m.command port)

/-- The command of the hold deadline that is taken next. -/
def State.holdCommand (s : State) : Option Instr :=
  match s.nextDeadline with
  | none => none
  | some (_, h) =>
    match h.state with
    | .active => some .renewDeadlineExpiry
    | .stale => some .graceEndReclaim
    | .lingering => some .lingerEnd

/-- A moment of the reference clock has been reached. -/
def State.reached (s : State) (t : Option Nat) : Bool :=
  match t with
  | none => false
  | some m => decide (m ≤ s.clk)

/-- The Farm Port's transmitter has a frame in progress or one to choose. -/
def State.farmSends (s : State) : Bool :=
  s.farm.sending.isSome || (!s.resetLow && (!s.farm.pauseDue.isEmpty || !s.farm.replies.isEmpty || s.farm.bridge.isSome))

/-- The Service Port's transmitter has a frame in progress or one to choose. -/
def State.serviceSends (s : State) : Bool :=
  s.svc.sending.isSome ||
    (!s.resetLow && s.svc.pauseEnd.isNone && (s.svc.restartSlot.isSome || !s.svc.upstream.isEmpty || s.svc.bridge.isSome))

/-- A command where a condition holds. -/
def offered (b : Bool) (c : Instr) : Option Instr := if b then some c else none

/-- The pool whose pass runs next. -/
def State.readyPass (s : State) : Option Instr := (s.queues.marks.find? s.passReady).map Instr.queueServicePass

/-- The event that is due, in the order of log 4. -/
def State.dueCommand (s : State) : Option Instr :=
  (offered (s.reached s.svc.pauseEnd) .servicePauseExpiry)
    <|> (offered s.windowDue .windowExpiry)
    <|> (offered s.autonomyDue .autonomyLimitReached)
    <|> (offered (s.farm.paused && s.reached s.farm.refreshAt) .farmPauseRefresh)
    <|> (offered (decide (0 < s.time.epochOwed)) .epochBoundary)
    <|> (offered (!s.time.dayOwed.isEmpty) .dayChange)
    <|> s.holdCommand
    <|> (offered s.nextExpiry.isSome .waitDeadlineExpiry)
    <|> (offered s.nextTimeout.isSome .forwardDeadlineExpiry)
    <|> s.readyPass
    <|> s.headCommand .service
    <|> s.headCommand .farm
    <|> (offered s.serviceSends (.frameTransmit .service))
    <|> (offered s.farmSends (.frameTransmit .farm))

/-! ### The passing of the reference clock (R131; log 3, log 4) -/

/-- The next moment at which engine time advances. -/
def State.nextMs (s : State) : Nat := (s.clk / Config.msCycles + 1) * Config.msCycles

/-- The lesser of a moment and one that may be armed and lies ahead. -/
def State.sooner (s : State) (t : Option Nat) (m : Nat) : Nat :=
  match t with
  | none => m
  | some n => if s.clk < n then min n m else m

/-- The moment at which the running autonomy clock reaches the limit (R151). -/
def State.autonomyMoment (s : State) : Option Nat :=
  s.link.autonomyStart.map (fun start => start + s.mgmt.params.autonomyLimit * 1000 * Config.msCycles)

/-- The next moment: engine time's advance, or the end of a window, of a pause or of a refresh interval, or the autonomy
limit, before it. -/
def State.nextMoment (s : State) : Nat :=
  s.sooner s.link.windowExpiry
    (s.sooner s.svc.pauseEnd (s.sooner s.farm.refreshAt (s.sooner s.autonomyMoment s.nextMs)))

/-- Engine time advances by one millisecond, and stays at the top of its range (R131). -/
def State.advance (s : State) : State := if s.time.now < Config.maxTime then s.moveTime (s.time.now + 1) else s

/-- The reference clock runs to the next moment; at a whole millisecond engine time advances (R131). -/
def State.tick (s : State) : State :=
  if s.nextMoment = s.nextMs then (s.setClk s.nextMs).advance else s.setClk s.nextMoment

end Sys2Proof.Machine
end

