-- ==== Sys2Proof/Machine/Dispatch.lean ====
section
/-! DEFINITION. The dispatch: one arm per command, each one call of its meaning. -/

namespace Sys2Proof.Machine

open Host

def exec (i : Instr) (s : State) : Host.Outcome State Fault Refusal :=
  match i with
  | .frameReceive port frame => Sys2Proof.Machine.execFrameReceive port frame s
  | .farmPauseRefresh => Sys2Proof.Machine.execFarmPauseRefresh s
  | .bridgeFramePass port => Sys2Proof.Machine.execBridgeFramePass port s
  | .servicePauseFrame quanta => Sys2Proof.Machine.execServicePauseFrame quanta s
  | .servicePauseExpiry => Sys2Proof.Machine.execServicePauseExpiry s
  | .frameTransmit port => Sys2Proof.Machine.execFrameTransmit port s
  | .protocolError port => Sys2Proof.Machine.execProtocolError port s
  | .checkout => Sys2Proof.Machine.execCheckout s
  | .checkin => Sys2Proof.Machine.execCheckin s
  | .renew => Sys2Proof.Machine.execRenew s
  | .cancel => Sys2Proof.Machine.execCancel s
  | .query => Sys2Proof.Machine.execQuery s
  | .serviceReplyRelay => Sys2Proof.Machine.execServiceReplyRelay s
  | .probe => Sys2Proof.Machine.execProbe s
  | .windowExpiry => Sys2Proof.Machine.execWindowExpiry s
  | .autonomyLimitReached => Sys2Proof.Machine.execAutonomyLimitReached s
  | .renewDeadlineExpiry => Sys2Proof.Machine.execRenewDeadlineExpiry s
  | .graceEndReclaim => Sys2Proof.Machine.execGraceEndReclaim s
  | .lingerEnd => Sys2Proof.Machine.execLingerEnd s
  | .waitDeadlineExpiry => Sys2Proof.Machine.execWaitDeadlineExpiry s
  | .forwardDeadlineExpiry => Sys2Proof.Machine.execForwardDeadlineExpiry s
  | .queueServicePass pool => Sys2Proof.Machine.execQueueServicePass pool s
  | .epochBoundary => Sys2Proof.Machine.execEpochBoundary s
  | .dayChange => Sys2Proof.Machine.execDayChange s
  | .identify => Sys2Proof.Machine.execIdentify s
  | .readStatus => Sys2Proof.Machine.execReadStatus s
  | .readPool => Sys2Proof.Machine.execReadPool s
  | .setParameters => Sys2Proof.Machine.execSetParameters s
  | .setNotify => Sys2Proof.Machine.execSetNotify s
  | .clearEvents => Sys2Proof.Machine.execClearEvents s
  | .restart => Sys2Proof.Machine.execRestart s
  | .powerOnReset => Sys2Proof.Machine.execPowerOnReset s
  | .lineReset low => Sys2Proof.Machine.execLineReset low s
  | .loadPools => Sys2Proof.Machine.execLoadPools s
  | .loadGroups => Sys2Proof.Machine.execLoadGroups s
  | .clearShadow => Sys2Proof.Machine.execClearShadow s
  | .switch => Sys2Proof.Machine.execSwitch s
  | .delegate => Sys2Proof.Machine.execDelegate s
  | .census => Sys2Proof.Machine.execCensus s
  | .revoke => Sys2Proof.Machine.execRevoke s
  | .listHolds => Sys2Proof.Machine.execListHolds s
  | .listQueue => Sys2Proof.Machine.execListQueue s
  | .evict => Sys2Proof.Machine.execEvict s
  | .drain => Sys2Proof.Machine.execDrain s
  | .undrain => Sys2Proof.Machine.execUndrain s
  | .setTime => Sys2Proof.Machine.execSetTime s
  | .injectEchoError => Sys2Proof.Machine.execInjectEchoError s
  | .reconcile => Sys2Proof.Machine.execReconcile s
  | .imageRead => Sys2Proof.Machine.execImageRead s
  | .imageWrite => Sys2Proof.Machine.execImageWrite s
  | .resume => Sys2Proof.Machine.execResume s
  | .seatFrameDrop port => Sys2Proof.Machine.execSeatFrameDrop port s

end Sys2Proof.Machine
end

