-- ==== Sys2Proof/Machine/Step.lean ====
section
/-! DEFINITION. One step: the command at the front of the queue; on an empty queue, an event that is due or the passing of
the clock (log 4). -/

namespace Sys2Proof.Machine

open Host

/-- The step on an empty command queue: an event that is due is taken, else the clock runs (log 4). -/
def State.idle (s : State) : Outcome State Fault Refusal :=
  match s.dueCommand with
  | some c => exec c s
  | none => .next s.tick

/-- One step: the command at the front is executed on the state with the rest of the queue. -/
def step (s : State) : Outcome State Fault Refusal :=
  match s.pending with
  | c :: rest => exec c (s.setPending rest)
  | [] => s.idle

/-- The state with the command a word spells put at the front of its queue; no word spells one. -/
def State.withFetchWord (s : State) (nbits w : Nat) : State :=
  match decodeTableWord nbits w with
  | none => s
  | some c => s.setPending (c :: s.pending)

end Sys2Proof.Machine
end

