-- ==== Sys2Proof/WellFormed.lean ====
section
/-! DEFINITION. What a command's operands must be for the command to be one the spec speaks of. The meanings are
total and do not lean on it. -/

namespace Sys2Proof

/-- The checks on a command's operands: a pool number is at most 1023 (R1), and a pause frame at the Service Port is
the row SERVICE_PAUSE_FRAME, not FRAME_RECEIVE (R170, R175). -/
def Instr.wellFormed : Instr → Bool
  | .queueServicePass pool => decide (pool < Config.pools)
  | .frameReceive .service frame => !frame.isPause
  | _ => true

end Sys2Proof
end

