-- ==== Sys2Proof/Safety.lean ====
section
/-! DEFINITION. What safety means for this block, the invariants that every step keeps, and the vocabulary the statements
are written in. -/

namespace Sys2Proof

open Host Machine

/-- The outcome is a next state. -/
def isNext : Outcome State Fault Refusal → Bool
  | .next _ => true
  | .fault _ => false
  | .refused _ => false

/-- A state is safe when its step answers a next state (INVENTORY.md, Faults). -/
def Safe (s : State) : Prop := isNext (step s) = true

namespace Machine

/-! ### Invariants -/

/-- No request is half carried out: the model's own two fields are at rest (log 16). -/
def Quiet (s : State) : Prop := s.reserved = 0 ∧ s.deferred = none

/-- The Upstream Queue holds at most 992 entries of seat traffic and 1024 in all (R178). -/
def RoomKept (s : State) : Prop :=
  Quiet s ∧ s.seatCount ≤ Config.upstreamSeat ∧ s.svc.upstream.length ≤ Config.upstream

/-- The Feature Index is the one built from the ACTIVE bank, and empty while that bank is absent (R9). -/
def IndexFollows (s : State) : Prop := s.banks.index = (s.banks.active.map Bank.index).getD []

/-- Every hold in ACTIVE or STALE has a use count of 1 to 255, and every LINGERING hold a use count of 0 (R63). -/
def UsesCounted (s : State) : Prop :=
  ∀ e ∈ s.holds.slots, (e.2.state = .lingering → e.2.useCount = 0) ∧ (e.2.state ≠ .lingering → 1 ≤ e.2.useCount ∧ e.2.useCount ≤ 255)

/-- The account table is in its one form: pool numbers strictly rising, and no cleared account listed (R20, R21). -/
def AccountsListed (s : State) : Prop := Table.Rising s.accounts ∧ ∀ e ∈ s.accounts, e.2 ≠ Account.cleared

/-- For every pool the overdraft peak is at least max(0, H − D) (R30). -/
def PeakCovers (s : State) : Prop := ∀ p, (s.acct p).h - (s.acct p).d ≤ (s.acct p).peak

/-- A pool's overcommit flag is set exactly when its H exceeds its effective ceiling (R31). -/
def OvercommitExact (s : State) : Prop := ∀ p, (s.acct p).overcommit = decide (s.effectiveCeiling p < (s.acct p).h)

/-- Slots are listed once each, in slot order, and lie in the table (R63, R65). -/
def SlotsListed (s : State) : Prop := Table.Rising s.holds.slots ∧ ∀ e ∈ s.holds.slots, e.1 < Config.holdSlots

/-- H is the sum of the tokens of the holds naming the pool, and the hold count their number (R20, R22). -/
def TokensHeld (s : State) : Prop :=
  SlotsListed s ∧ ∀ p, (s.acct p).h = ((s.holdsOf p).map (fun e => e.2.tokens)).sum ∧ (s.acct p).holdCount = (s.holdsOf p).length

/-- The Farm pause control is PAUSED from occupancy 448 until it has fallen to 256 (R174). -/
def PauseFollows (s : State) : Prop :=
  (s.farm.paused = false → s.farm.intake.length < Config.pauseAt) ∧ (s.farm.paused = true → Config.openAt < s.farm.intake.length)

/-- Neither intake queue, nor the Farm Reply Queue, holds more frames than it has places (R171, R177). -/
def IntakeKept (s : State) : Prop :=
  s.farm.intake.length ≤ Config.farmIntake ∧ s.svc.intake.length ≤ Config.serviceIntake ∧ s.farm.replies.length ≤ Config.farmReplies

/-- The count of good probes held in ARMING, and of misses held in SUSPECT, is 1 or 2 (R140). -/
def LinkCounts (s : State) : Prop :=
  (∀ o n, s.link.state = .arming o n → n = 1 ∨ n = 2) ∧ ∀ n, s.link.state = .suspect n → n = 1 ∨ n = 2

/-- Each bank lists its filled records once each, in pool-number order (R1). -/
def BanksListed (s : State) : Prop :=
  Table.Rising s.banks.shadow.records ∧ ∀ b, s.banks.active = some b → Table.Rising b.records

/-- A request key stands at most once across the wait queues and the Forwarding Table together (R81, R116). -/
def KeysUnique (s : State) : Prop :=
  ((s.queues.entries.map (fun e => e.key)) ++ (s.fwd.entries.map (fun e => e.key))).Nodup

/-- The store holds at most 2048 entries, and each pool's queue length is the number of its entries (R80, R81). -/
def QueuesCounted (s : State) : Prop :=
  KeysUnique s ∧ s.queues.entries.length ≤ Config.waitPlaces ∧ ∀ p, (s.acct p).queueLength = (s.poolQueue p).length

/-- The commands that set engine time back to 0 or discard the tables: the restarts and resets. -/
def restarts : Instr → Bool
  | .restart => true
  | .powerOnReset => true
  | .lineReset _ => true
  | _ => false

/-! ### Vocabulary of the statements -/

/-- The counters of a port. -/
def State.portStats (s : State) : Port → PortStats
  | .farm => s.farm.stats
  | .service => s.svc.stats

/-- The client with these addresses and this key is answered: the reply stands at the tail of the Farm Reply Queue, or, where
that is full, it is dropped and counted (R45, R176, R177). That its addresses and type are fixed here, when it is formed, is the
model's choice (log 15). -/
def Answers (s t : State) (a : Addrs) (k : Key) (b : FarmBody) : Prop :=
  t.farm.replies =
      (if s.farm.replies.length < Config.farmReplies then
        s.farm.replies ++ [FarmEntry.reply { dst := a.src, src := a.dst, etype := s.mgmt.params.seatType } k b]
      else s.farm.replies) ∧
    t.farm.stats.droppedReplies =
      (if s.farm.replies.length < Config.farmReplies then s.farm.stats.droppedReplies else bump s.farm.stats.droppedReplies)

/-- A count after `k` more, which stays at its top (R36, R192). -/
def counted (n k : Nat) : Nat := max n (min Config.maxCount (n + k))

/-- These clients are answered in this order, each as `Answers` says of one: the replies stand at the tail of the Farm Reply Queue
as far as it has places, and the others are dropped and counted (R45, R176, R177; log 15). -/
def AnswersAll (s t : State) (answers : List (WaitEntry × FarmBody)) : Prop :=
  s.farm.replies.length ≤ Config.farmReplies →
    t.farm.replies =
        (s.farm.replies ++
          answers.map
            (fun x =>
              FarmEntry.reply { dst := x.1.addrs.src, src := x.1.addrs.dst, etype := s.mgmt.params.seatType } x.1.key x.2)).take
          Config.farmReplies ∧
      t.farm.stats.droppedReplies =
        counted s.farm.stats.droppedReplies (s.farm.replies.length + answers.length - Config.farmReplies)

/-- The pools with a waiting queue, in pool-number order (R43, R94, R95). -/
def PoolOrder (s : State) (pools : List Nat) : Prop := pools.Pairwise (· < ·) ∧ ∀ p, p ∈ pools ↔ s.poolQueue p ≠ []

/-- The head has left the Farm intake queue, and the pause control follows the fall of its occupancy (R171, R174). -/
def FarmHeadLeft (s t : State) : Prop :=
  t.farm.intake = s.farm.intake.tail ∧ t.farm.bridge = s.farm.bridge ∧ t.farm.sending = s.farm.sending ∧
    (s.farm.paused = true → s.farm.intake.length ≤ 257 →
      t.farm.paused = false ∧ t.farm.pauseDue = s.farm.pauseDue ++ [0] ∧ t.farm.refreshAt = none) ∧
    (s.farm.paused = false ∨ 257 < s.farm.intake.length →
      t.farm.paused = s.farm.paused ∧ t.farm.pauseDue = s.farm.pauseDue ∧ t.farm.refreshAt = s.farm.refreshAt)

/-- The Farm Port emptied by a restart or reset: a frame in progress goes on, and a pause frame of 0 is due where the pause control
was closed (R174, R183, R193, R194; that those pause frames stay due is the model's choice, log 24). -/
def FarmEmptied (s t : State) : Prop :=
  t.farm =
    { s.farm with
      intake := [], bridge := none, replies := [], paused := false,
      pauseDue := if s.farm.paused = true then s.farm.pauseDue ++ [0] else s.farm.pauseDue, refreshAt := none,
      stats := PortStats.zero }

/-- A seat message has been taken from the head of the Farm intake queue (R170, R171). -/
def TakenFromFarm (s t : State) : Prop :=
  t.farm.intake = s.farm.intake.tail ∧ t.farm.stats.seatMessages = bump s.farm.stats.seatMessages ∧ t.farm.bridge = s.farm.bridge ∧
    t.farm.sending = s.farm.sending

/-- Nothing but the Farm Port and the engine's counters has changed. -/
def OnlyFarmPort (s t : State) : Prop := t = { s with farm := t.farm, mgmt := { s.mgmt with stats := t.mgmt.stats } }

/-- A farm message has been taken and answered, and nothing else has changed. -/
def AnsweredOnly (s t : State) (a : Addrs) (k : Key) (b : FarmBody) : Prop :=
  TakenFromFarm s t ∧ Answers s t a k b ∧ OnlyFarmPort s t ∧ t.mgmt.stats = s.mgmt.stats.countReply b

/-- The parts of the machine that no farm request touches (R61): the banks, engine time, the link, reconciliation, the engine
state, the parameters and notify set, the commands that wait. -/
def FarmRequestFrame (s t : State) : Prop :=
  t.banks = s.banks ∧ t.time = s.time ∧ t.link = s.link ∧ t.recon = s.recon ∧ t.mode = s.mode ∧ t.mgmt.params = s.mgmt.params ∧
    t.mgmt.notify = s.mgmt.notify ∧ t.pending = s.pending ∧ t.svc.intake = s.svc.intake ∧ t.svc.bridge = s.svc.bridge

/-- The accounts of every other pool are as they were. -/
def OtherAccounts (s t : State) (p : Nat) : Prop := ∀ q, q ≠ p → t.acct q = s.acct q

/-- The holds of every other slot, and every generation, are as they were. -/
def OtherSlots (s t : State) (slot : Nat) : Prop :=
  (∀ n, n ≠ slot → Table.get? t.holds.slots n = Table.get? s.holds.slots n) ∧ ∀ n, n ≠ slot → t.generation n = s.generation n

/-- The Hold Table, the accounts, the queues and the forwards are as they were. -/
def TablesKept (s t : State) : Prop := t.holds = s.holds ∧ t.accounts = s.accounts ∧ t.queues = s.queues ∧ t.fwd = s.fwd

/-- A CHECKOUT stands at the head of the Farm intake queue, it passes the duplicate-key test, and it
meets no autonomy condition (R47, R48). -/
def State.TakesCheckout (s : State) (c : CheckoutRequest) : Prop :=
  s.headMessage .farm = some (c.frame, c.key, .checkout c.body) ∧ s.keyStands c.key = false ∧
    (s.link.autonomyPassed = false ∨ s.mode = .entering ∨ s.mode = .reconciling)

/-- The candidates of a CHECKOUT (R11). -/
def State.candidatesOf (s : State) (c : CheckoutRequest) : List Nat := s.candidates c.body.feature c.body.version c.key.node

/-- The trial of a delegated candidate leaves it and goes on to the next (R49, R52). -/
def State.passesOver (s : State) (c : CheckoutRequest) (p : Nat) : Bool :=
  match s.joinTarget p c.key.node c.key.process with
  | some (_, h) =>
    decide (h.useCount ≠ 255 ∧ h.tokens < s.demandOf c p) &&
      (decide (s.mode = .draining) || !s.admits p (s.demandOf c p - h.tokens))
  | none => decide (s.mode = .draining) || !s.admits p (s.demandOf c p)

/-- The trial comes to this delegated candidate, having passed over those before it (R49). -/
def State.TrialReaches (s : State) (c : CheckoutRequest) (p : Nat) : Prop :=
  ∃ before after, (s.candidatesOf c).filter (fun q => s.delegated q) = before ++ p :: after ∧ ∀ q ∈ before, s.passesOver c q = true

/-- An EVENT notice (R189). -/
def UpEntry.isNotice : UpEntry → Bool
  | .event _ _ _ _ => true
  | _ => false

/-- A charge of tokens to a pool by a GRANT, with its report where the pool is SHARED; `base` is the pool's account but for the
figures the charge moves (R22, R24, R30, R33, R36, R107). -/
def ChargedBy (s t : State) (base : Account) (p tokens newHolds : Nat) (change : ChangeKind) (hold : Hold) (handle : Handle) : Prop :=
  t.acct p =
      { base with
        h := (s.acct p).h + tokens, holdCount := (s.acct p).holdCount + newHolds, state := (s.acct p).state.moved,
        peak := max (s.acct p).peak ((s.acct p).h + tokens - (s.acct p).d), peakThis := max (s.acct p).peakThis ((s.acct p).h + tokens),
        grantsThis := bump (s.acct p).grantsThis,
        reported := if (s.acct p).state = .shared then (s.acct p).h + tokens else (s.acct p).reported,
        gap := if (s.acct p).state = .shared then false else (s.acct p).gap } ∧
    OtherAccounts s t p ∧
    (∃ notices : List UpEntry, (∀ e ∈ notices, e.isNotice = true) ∧
      t.svc.upstream =
        s.svc.upstream ++ notices ++
          (if (s.acct p).state = .shared then
            [UpEntry.report s.ownEth { node := hold.node, process := hold.process, tag := hold.tag }
              { pool := p, change, gap := (s.acct p).gap, handle, delta := tokens, resultingH := (s.acct p).h + tokens }]
          else [])) ∧
    ((s.acct p).h ≤ (s.acct p).d ∧ (s.acct p).d < (s.acct p).h + tokens → t.eventPending .poolOverdraft = true) ∧
    (¬((s.acct p).h ≤ (s.acct p).d ∧ (s.acct p).d < (s.acct p).h + tokens) → t.mgmt.events = s.mgmt.events)

/-- A removal of a hold: its slot is free and one generation on, its tokens have left H, its pool's peak H this epoch is at least the
new H and its overcommit flag is exact, and passes are asked for (R22, R24, R31, R32, R36, R64, R67). -/
def Removed (s t : State) (slot : Nat) (h : Hold) : Prop :=
  Table.get? t.holds.slots slot = none ∧ t.generation slot = (s.generation slot + 1) % 32768 ∧ OtherSlots s t slot ∧
    (∃ reported gap, t.acct h.pool =
      { s.acct h.pool with
        h := (s.acct h.pool).h - h.tokens, holdCount := (s.acct h.pool).holdCount - 1, state := (s.acct h.pool).state.moved,
        peakThis := max (s.acct h.pool).peakThis ((s.acct h.pool).h - h.tokens),
        overcommit := decide (s.effectiveCeiling h.pool < (s.acct h.pool).h - h.tokens), reported, gap } ∧
      ((s.acct h.pool).state ≠ .shared → reported = (s.acct h.pool).reported ∧ gap = (s.acct h.pool).gap)) ∧
    OtherAccounts s t h.pool ∧ t.queues.entries = s.queues.entries ∧ t.fwd = s.fwd ∧
    (∀ p, p ∈ s.queues.marks ∨ (s.acct p).stalled = true ∨ (s.tableFull = true ∧ p ∈ s.waitingPools) → p ∈ t.queues.marks) ∧
    (0 < h.tokens → s.delegated h.pool = true → h.pool ∈ t.queues.marks)

/-- The usage report of a removal in a SHARED pool (R107, R109). -/
def releaseReport (eth : EthHeader) (s : State) (slot : Nat) (h : Hold) (change : ChangeKind) : UpEntry :=
  UpEntry.report eth { node := h.node, process := h.process, tag := h.tag }
    { pool := h.pool, change, gap := (s.acct h.pool).gap, handle := { service := false, gen := s.generation slot, slot },
      delta := -(Int.ofNat h.tokens), resultingH := (s.acct h.pool).h - h.tokens }

/-- The report of a removal outside a management request: queued where report room exists, reported H and the gap flag following
it; without room the gap flag is set; none for a pool that is not SHARED (R33, R109). -/
def ReportsRemoval (s t : State) (slot : Nat) (h : Hold) (change : ChangeKind) : Prop :=
  ((s.acct h.pool).state = .shared → s.seatRoom = true →
      t.svc.upstream = s.svc.upstream ++ [releaseReport s.ownEth s slot h change] ∧
        (t.acct h.pool).reported = (s.acct h.pool).h - h.tokens ∧ (t.acct h.pool).gap = false) ∧
    ((s.acct h.pool).state = .shared → s.seatRoom = false →
      (t.acct h.pool).reported = (s.acct h.pool).reported ∧ (t.acct h.pool).gap = true ∧
        ((s.acct h.pool).gap = false → t.eventPending .reportGap = true)) ∧
    ((s.acct h.pool).state ≠ .shared → t.svc.upstream = s.svc.upstream)

/-- What the forwarding of a farm request comes to (R46). -/
def Forwards (s t : State) (f : Frame) (k : Key) (kind : RequestKind) (feature : Nat) : Prop :=
  (s.link.state = .lost → AnsweredOnly s t (addrsOf f) k .unreachable) ∧
    (s.link.state ≠ .lost → s.keyStands k = true → AnsweredOnly s t (addrsOf f) k (.retry .duplicateTag s.mgmt.params.retryHint)) ∧
    (s.link.state ≠ .lost → s.keyStands k = false → s.fwd.entries.length = 256 ∨ s.seatRoom = false → s.fwd.entries.length ≤ 256 →
      AnsweredOnly s t (addrsOf f) k (.retry .noRoom s.mgmt.params.retryHint)) ∧
    (s.link.state ≠ .lost → s.keyStands k = false → s.fwd.entries.length < 256 → s.seatRoom = true →
      TakenFromFarm s t ∧ t.farm.replies = s.farm.replies ∧
        t =
          { s with
            farm := t.farm, svc := { s.svc with upstream := s.svc.upstream ++ [UpEntry.forward f] },
            fwd :=
              { s.fwd with
                entries :=
                  s.fwd.entries ++
                    [{ key := k, kind, feature, deadline := min (s.time.now + s.mgmt.params.forwardTimeout) (2 ^ 48 - 1),
                       addrs := addrsOf f }] },
            mgmt := { s.mgmt with stats := { s.mgmt.stats with forwards := bump s.mgmt.stats.forwards } } })

/-- A failure to hear the service: a window expiry whose moment has come, or a PROBE that fails the message check (R143). -/
def State.FailureTaken (s : State) : Instr → Prop
  | .windowExpiry => ∃ m, s.link.windowExpiry = some m ∧ m ≤ s.clk
  | .probe => ∃ f, s.head .service = some (f, .badProbe)
  | _ => False

/-- The expiry of a probe window started now: 1.5 × P milliseconds on (R141). -/
def State.windowFromNow (s : State) : Nat := s.clk + s.mgmt.params.probeInterval * 234375

/-- The parts that raising an event may touch: the pending flags, and the notice's place in the Upstream Queue or its drop (R189). -/
def OnlyRaised (s t : State) : Prop :=
  t =
    { s with
      mgmt := { s.mgmt with events := t.mgmt.events }, deferred := t.deferred,
      svc := { s.svc with upstream := t.svc.upstream, stats := { s.svc.stats with droppedReplies := t.svc.stats.droppedReplies } } }

/-- A management request stands at the head of the Service intake queue and its reply finds room (R184). -/
def Manages (s : State) (f : Frame) (k : Key) (r : MgmtRequest) : Prop :=
  s.headRequest = some (f, k, r) ∧ Quiet s ∧ s.svc.upstream.length < Config.upstream

/-- The reply to a request taken as the frame `f`: to the frame's sender, under its key (R176, R184; that `f` is the last seat frame
taken, and that the addresses and type are fixed here, when the reply is formed, are the model's choices, logs 14 and 15). -/
def replyTo (f : Frame) (seatType : Half) (k : Key) (r : MgmtReply) : UpEntry :=
  UpEntry.reply { dst := f.src, src := f.dst, etype := seatType } k r

/-- The Service Port after the request `f` has been taken, which sets the addresses of what the engine originates (R176; log 14), and
these entries have joined the Upstream Queue. -/
def ServicePort.took (p : ServicePort) (f : Frame) (sent : List UpEntry) : ServicePort :=
  { p with
    intake := p.intake.tail, peer := addrsOf f, upstream := p.upstream ++ sent,
    stats := { p.stats with seatMessages := bump p.stats.seatMessages } }

/-- The request `f` has been taken and answered, and only EVENT notices may follow its reply (R184). -/
def Answered (s t : State) (f : Frame) (k : Key) (r : MgmtReply) : Prop :=
  (s.svc.upstream ++ [replyTo f s.mgmt.params.seatType k r]) <+: t.svc.upstream ∧ t.svc.intake = s.svc.intake.tail ∧
    t.svc.peer = addrsOf f ∧ Quiet t

/-- The Ethernet header of what the engine forms once the frame `f` has been taken (R176; logs 14 and 15, as for `replyTo`). -/
def ethTo (f : Frame) (s : State) : EthHeader := { dst := f.src, src := f.dst, etype := s.mgmt.params.seatType }

/-- A rebuilt CHECKOUT (R96). -/
def UpEntry.isRebuilt : UpEntry → Bool
  | .rebuilt _ _ _ => true
  | _ => false

/-- Every stored time moved on by a rebase of `d`: of the hold in every slot, of every queue entry and forward, and of the
reconciliation, with words 1 and 2 of a valid image (R72, R93, R119, R132, R160; that an entry time is kept, and so moved, after its
reconciliation has ended is the model's choice, log 21, and that a deadline so held at engine time itself counts as reached is log 45's).
-/
def RebasedBy (s t : State) (d : Nat) : Prop :=
  (∀ slot, Table.get? t.holds.slots slot =
      (Table.get? s.holds.slots slot).map
        (fun h => { h with deadline := min (h.deadline + d) (2 ^ 48 - 1), granted := min (h.granted + d) (2 ^ 48 - 1) })) ∧
    t.fwd.entries = s.fwd.entries.map (fun e => { e with deadline := min (e.deadline + d) (2 ^ 48 - 1) }) ∧
    t.queues.entries =
      s.queues.entries.map
        (fun e => { e with enqueued := min (e.enqueued + d) (2 ^ 48 - 1), deadline := min (e.deadline + d) (2 ^ 48 - 1) }) ∧
    (s.recon.entryTime = none → t.recon = s.recon) ∧
    ∀ entry, s.recon.entryTime = some entry →
      t.recon = { s.recon with entryTime := some (min (entry + d) (2 ^ 48 - 1)), image := t.recon.image } ∧
        (s.recon.image = none → t.recon.image = none) ∧
        ∀ image, s.recon.image = some image → 3 ≤ image.length →
          ∃ image', t.recon.image = some image' ∧ image'.length = image.length ∧
            imageWord image' 1 = min (entry + d) (2 ^ 48 - 1) / 2 ^ 32 ∧
            imageWord image' 2 = min (entry + d) (2 ^ 48 - 1) % 2 ^ 32 ∧ ∀ o, o ≠ 1 → o ≠ 2 → image'[o]? = image[o]?

/-- The boundaries owed once engine time has become `new`: one more where the epoch number changes (R137; that a boundary is owed,
and taken by a command of its own, is the model's choice, log 5). -/
def State.boundariesOwed (s : State) (new : Nat) : Nat :=
  if epochNumber s.time.now s.mgmt.params.epochPeriod = epochNumber new s.mgmt.params.epochPeriod then s.time.epochOwed
  else s.time.epochOwed + 1

/-- The day changes owed once engine time has become `new`: one more where the day number changes while the time source is set
(R138; log 5, as for `boundariesOwed`). -/
def State.daysOwed (s : State) (new : Nat) : List DayOwed :=
  if s.time.source = .unset ∨ s.time.now / 86400000 = new / 86400000 then s.time.dayOwed
  else s.time.dayOwed ++ [{ old := some (s.time.now / 86400000), new := new / 86400000 }]

/-- The state once the request `f` has been taken (log 14), before its reply. -/
def State.tookRequest (s : State) (f : Frame) : State := s.setSvc (s.svc.took f [])

/-- The request `f` has been answered `r` and nothing else has changed. -/
def onlyAnswered (s : State) (f : Frame) (k : Key) (r : MgmtReply) : State :=
  s.setSvc (s.svc.took f [replyTo f s.mgmt.params.seatType k r])

/-- The command that takes a message of this kind at a port (R170, R173, R181). -/
def commandOfKind (port : Port) (kind : Nat) : Option Instr :=
  if 0x81 ≤ kind ∧ kind ≤ 0x8E then some .serviceReplyRelay
  else
    match kind with
    | 0x01 => some .checkout
    | 0x02 => some .checkin
    | 0x03 => some .renew
    | 0x04 => some .cancel
    | 0x05 => some .query
    | 0x20 => some .identify
    | 0x21 => some .readStatus
    | 0x22 => some .readPool
    | 0x23 => some .setParameters
    | 0x24 => some .setNotify
    | 0x25 => some .clearEvents
    | 0x26 => some .restart
    | 0x27 => some .loadPools
    | 0x28 => some .loadGroups
    | 0x29 => some .clearShadow
    | 0x2A => some .switch
    | 0x2B => some .delegate
    | 0x2C => some .census
    | 0x2D => some .revoke
    | 0x2E => some .listHolds
    | 0x2F => some .listQueue
    | 0x30 => some .evict
    | 0x31 => some .drain
    | 0x32 => some .undrain
    | 0x33 => some .setTime
    | 0x34 => some .injectEchoError
    | 0x35 => some .reconcile
    | 0x36 => some .imageRead
    | 0x37 => some .imageWrite
    | 0x38 => some .resume
    | 0x40 => some .probe
    | 0xA0 => some (.bridgeFramePass port)
    | 0xC0 => some (.bridgeFramePass port)
    | 0xC1 => some (.bridgeFramePass port)
    | 0xC2 => some (.bridgeFramePass port)
    | 0xC3 => some (.bridgeFramePass port)
    | 0xC4 => some (.bridgeFramePass port)
    | _ => none

/-! ### Matching in the spec's terms -/

/-- A node lies in a range (R10). -/
def NodeRange.Has (r : NodeRange) (node : Word) : Prop := r.low.toNat ≤ node.toNat ∧ node.toNat ≤ r.high.toNat

/-- A bank puts a node in a group: the group of the range that contains it, the first loaded where there were several, or group 0
(R10). -/
def Bank.PutsIn (b : Bank) (node : Word) (group : Nat) : Prop :=
  (∃ before r after, b.ranges = before ++ r :: after ∧ (∀ x ∈ before, ¬x.Has node) ∧ r.Has node ∧ group = r.group) ∨
    ((∀ x ∈ b.ranges, ¬x.Has node) ∧ group = 0)

/-- A record passes the validity test as engine time stands (R7). -/
def State.InWindow (s : State) (r : PoolRecord) : Prop :=
  if s.time.source = .unset then r.startDay = 0 ∧ r.endDay = 65535
  else
    (r.startDay = 0 ∨ r.startDay ≤ s.time.now / 86400000) ∧ (r.endDay = 65535 ∨ s.time.now / 86400000 ≤ r.endDay)

/-- A pool's ACTIVE record carries the feature and serves the version (R4, R9). -/
def State.Serves (s : State) (feature version p : Nat) (b : Bank) (r : PoolRecord) : Prop :=
  s.banks.active = some b ∧ Table.get? b.records p = some r ∧ r.feature = feature ∧ r.versionFloor ≤ version ∧
    version ≤ r.versionCeiling

/-- A hold is one that a requester may join in a pool (R49). -/
def State.MayJoin (s : State) (p : Nat) (node process : Word) (slot : Nat) (h : Hold) : Prop :=
  Table.get? s.holds.slots slot = some h ∧ h.pool = p ∧ h.node = node ∧
    ((s.record p).sharing = .perNode ∨ ((s.record p).sharing = .perProcess ∧ h.state = .lingering ∧ h.process = process))

/-- A hold's deadline has been reached and is one that the Hold Table takes in the present state: none in UNCONFIGURED and
FAULT_HOLD, and only an ACTIVE hold's in ENTERING and RECONCILING (R41, R68, R74). -/
def State.DeadlineReached (s : State) (slot : Nat) (h : Hold) : Prop :=
  Table.get? s.holds.slots slot = some h ∧ h.deadline ≤ s.time.now ∧
    (s.mode = .serving ∨ s.mode = .draining ∨ ((s.mode = .entering ∨ s.mode = .reconciling) ∧ h.state = .active))

/-! ### Switches in the spec's terms -/

/-- A pool's feature code in a bank, 0 where its record is empty, changes between ACTIVE and SHADOW (R125). -/
def State.FeatureChanges (s : State) (p : Nat) : Prop :=
  (((s.banks.active.bind (fun b => Table.get? b.records p)).map (fun r => r.feature)).getD 0) ≠
    (((Table.get? s.banks.shadow.records p).map (fun r => r.feature)).getD 0)

/-- The pool at which some feature code first reaches its ninth record (R125). -/
def NinthAt (records : Table PoolRecord) (p : Nat) : Prop :=
  ∃ before r after, records = before ++ (p, r) :: after ∧
    (before.filter (fun e => decide (e.2.feature = r.feature))).length = 8 ∧
    ∀ before' q x after', before = before' ++ (q, x) :: after' →
      (before'.filter (fun e => decide (e.2.feature = x.feature))).length < 8

/-- The position, from 1 in load order, of the first range that shares a node with one loaded before it (R125; that it counts
from 1 is the model's choice, log 12). -/
def OverlapAt (ranges : List NodeRange) (n : Nat) : Prop :=
  ∃ before r after, ranges = before ++ r :: after ∧ n = before.length + 1 ∧ (∃ x ∈ before, ∃ node, x.Has node ∧ r.Has node) ∧
    ∀ before' y after', before = before' ++ y :: after' → ∀ x ∈ before', ∀ node, ¬(x.Has node ∧ y.Has node)

/-- A pool whose feature changes and which is not ABSENT with no holds and no queue, the lowest of those (R125). -/
def State.ReassignedAt (s : State) (p : Nat) : Prop :=
  s.FeatureChanges p ∧ ¬((s.acct p).state = .absent ∧ (s.acct p).holdCount = 0 ∧ (s.acct p).queueLength = 0) ∧
    ∀ q, q < p → s.FeatureChanges q →
      (s.acct q).state = .absent ∧ (s.acct q).holdCount = 0 ∧ (s.acct q).queueLength = 0

/-! ### The image in the spec's terms -/

/-- The image as built from a state: the header, and eight words for each delegated pool in pool-number order (R158, R159). -/
def BuiltImage (s : State) (entry : Nat) (draining : Bool) (image : List Word) : Prop :=
  ∃ pools : List Nat, pools.Pairwise (· < ·) ∧ (∀ p, p ∈ pools ↔ (s.acct p).state ≠ .absent) ∧
    image.length = 16 + 8 * pools.length ∧ imageWord image 0 = 0x0701 ∧ imageWord image 1 = entry / 2 ^ 32 % 2 ^ 32 ∧
    imageWord image 2 = entry % 2 ^ 32 ∧ imageWord image 3 = epochNumber s.time.now s.mgmt.params.epochPeriod ∧
    imageWord image 4 = (if draining = true then 2 else 1) ∧ imageWord image 5 = (if draining = true then 1 else 0) ∧
    imageWord image 6 = 0 ∧ imageWord image 7 = 0 ∧ imageWord image 8 = 0 ∧ imageWord image 9 = pools.length % 2 ^ 32 ∧
    (∀ o, 10 ≤ o → o < 16 → imageWord image o = 0) ∧
    ∀ i p, pools[i]? = some p →
      imageWord image (16 + 8 * i) = p % 2 ^ 32 ∧
        imageWord image (16 + 8 * i + 1) =
          (if (s.acct p).state = .shared then 1 else if (s.acct p).state = .sole then 2 else 3) ∧
        imageWord image (16 + 8 * i + 2) = (s.acct p).d % 2 ^ 32 ∧
        imageWord image (16 + 8 * i + 3) = (if (s.acct p).state = .shared then 1 else 2) ∧
        imageWord image (16 + 8 * i + 4) = (s.acct p).h % 2 ^ 32 ∧
        imageWord image (16 + 8 * i + 5) = (s.acct p).holdCount % 2 ^ 32 ∧
        imageWord image (16 + 8 * i + 6) = (s.acct p).queueLength % 2 ^ 32 ∧
        imageWord image (16 + 8 * i + 7) = (s.acct p).peak % 2 ^ 32

/-- The word at an offset fails the test that RESUME makes of it (R163). -/
def WordFails (now : Nat) (image : List Word) (o : Nat) : Prop :=
  (o = 5 ∧ 1 < imageWord image 5) ∨ (o = 6 ∧ 1 < imageWord image 6) ∨
    (o = 7 ∧ imageWord image 7 * 2 ^ 32 + imageWord image 8 ≠ 0 ∧
      (imageWord image 7 * 2 ^ 32 + imageWord image 8 < now ∨ 2 ^ 48 ≤ imageWord image 7 * 2 ^ 32 + imageWord image 8)) ∨
    ∃ i, i < imageWord image 9 ∧
      ((o = 16 + 8 * i + 2 ∧ 65535 < imageWord image o) ∨
        (o = 16 + 8 * i + 3 ∧ imageWord image o ≠ 1 ∧ imageWord image o ≠ 2))

/-! ### Entries handed on and entries granted -/

/-- The rebuilt CHECKOUT as which a waiting entry is handed on (R96). -/
def State.handedOn (s : State) (eth : EthHeader) (e : WaitEntry) : UpEntry :=
  UpEntry.rebuilt eth e.key
    { feature := (s.record e.pool).feature, flags := e.flags, version := e.version, seats := e.seats, cores := e.cores,
      waitLimit := (e.deadline - s.time.now) / 1000, interval := e.interval }

/-- The Forwarding Table entry of a waiting entry handed on (R96, R116). -/
def State.handedForward (s : State) (e : WaitEntry) : Forward :=
  { key := e.key, kind := .checkout, feature := (s.record e.pool).feature,
    deadline := min (s.time.now + s.mgmt.params.forwardTimeout) (2 ^ 48 - 1), addrs := e.addrs }

/-- The full demand of a waiting entry against its pool's record as it stands (R26, R87). -/
def State.fullDemand (s : State) (e : WaitEntry) : Nat := demand (s.record e.pool) e.seats e.cores

/-- The present hold that an entry's join target names (R87). -/
def State.targetOf (s : State) (e : WaitEntry) : Option (Nat × Hold) :=
  e.target.bind (fun handle => (s.namedHold handle).map (fun h => (handle.slot, h)))

/-- The grant demand of an entry that a pass tests: the stored demand where it has no join target, the full demand where the target
is gone, and what the target's tokens lack of it else (R85, R87). -/
def State.grantDemand (s : State) (e : WaitEntry) : Nat :=
  match e.target, s.targetOf e with
  | none, _ => e.demand
  | some _, none => s.fullDemand e
  | some _, some (_, h) => s.fullDemand e - h.tokens

/-- The pool that a grant of the entry charges: its own, or, for an upgrade, the hold's. The two differ only where 32768 removals have
brought a slot's generation round; that the hold's pool is tested and charged then is the model's choice (R22, R87, log 41). -/
def State.chargedPool (s : State) (e : WaitEntry) : Nat :=
  match s.targetOf e with
  | none => e.pool
  | some (_, h) => h.pool

/-- The entry keeps its place: it does not fit, and is neither a plain join nor denied USE_LIMIT; or a forward step has reached its
wait deadline, which a pass takes as an entry that does not fit (R85, R87, R93; the last is deduced, log 20). -/
def State.Unfit (s : State) (e : WaitEntry) : Prop :=
  e.stepPassed = true ∨
    ((∀ slot h, s.targetOf e = some (slot, h) → h.useCount ≠ 255 ∧ h.tokens < s.fullDemand e) ∧
      s.effectiveCeiling (s.chargedPool e) < s.grantDemand e + (s.acct (s.chargedPool e)).h)

/-- The grant of an entry that fits lacks a Hold Table slot (R86, R89). -/
def State.LacksSlot (s : State) (e : WaitEntry) : Prop := s.targetOf e = none ∧ s.tableFull = true

/-- The grant of an entry that fits lacks report room: a new hold or an upgrade in a SHARED pool (R86, R87, R89). -/
def State.LacksReport (s : State) (e : WaitEntry) : Prop :=
  (∀ slot h, s.targetOf e = some (slot, h) → h.useCount ≠ 255 ∧ h.tokens < s.fullDemand e) ∧
    (s.acct (s.chargedPool e)).state = .shared ∧ s.seatRoom = false

/-! ### A RESUME in the spec's terms -/

/-- A hold as the relocation of an image leaves it: an ACTIVE one whose renew deadline it reaches goes STALE, its deadline the grace
end (R68, R74, R165). -/
def State.relocatedHold (s : State) (image : List Word) (h : Hold) : Hold :=
  if relocation image ≠ 0 ∧ h.state = .active ∧ h.deadline ≤ relocation image then
    { h with state := .stale, deadline := min (h.deadline + (s.record h.pool).grace * 1000) (2 ^ 48 - 1) }
  else h

/-- A pool's account as the relocation of an image leaves it: its statistics rolled where the epoch number changes (R36, R137, R165;
that the boundary is taken within the RESUME is deduced, log 22). -/
def State.relocatedAcct (s : State) (image : List Word) (p : Nat) : Account :=
  if relocation image ≠ 0 ∧
      epochNumber s.time.now s.mgmt.params.epochPeriod ≠ epochNumber (relocation image) s.mgmt.params.epochPeriod then
    { s.acct p with grantsLast := (s.acct p).grantsThis, peakLast := (s.acct p).peakThis, grantsThis := 0, peakThis := 0 }
  else s.acct p

/-- Engine time as the relocation of an image leaves it, as a SET_TIME in STEP mode would (R135, R165; what is owed for a day change
is as in log 5). -/
def State.relocatedTime (s : State) (image : List Word) : Timebase :=
  if relocation image = 0 then s.time
  else
    { now := relocation image,
      source := if s.time.source ≠ .unset then s.time.source else if s.link.state = .lost then .holdover else .tracking,
      epochOwed := s.time.epochOwed,
      dayOwed :=
        if s.time.source = .unset then s.time.dayOwed ++ [{ old := none, new := relocation image / 86400000 }]
        else s.daysOwed (relocation image) }

/-- The relocation and the pool values of an image have been applied: the holds, engine time, and each pool's account, settled under
its summary's D and mode where it has one, the last of those that name it (R100, R104, R165). -/
def ImageValues (s a : State) (image : List Word) : Prop :=
  a.time = s.relocatedTime image ∧
    a.holds = { s.holds with slots := s.holds.slots.map (fun e => (e.1, s.relocatedHold image e.2)) } ∧
    (∀ p, (∀ i, i < summaryCount image → imageWord image (16 + 8 * i) ≠ p) →
      a.acct p = { s.relocatedAcct image p with queueLength := (a.poolQueue p).length }) ∧
    (∀ p i, i < summaryCount image → imageWord image (16 + 8 * i) = p →
      (∀ j, i < j → j < summaryCount image → imageWord image (16 + 8 * j) ≠ p) →
      a.acct p =
        { s.relocatedAcct image p with
          d := imageWord image (16 + 8 * i + 2), state := if imageWord image (16 + 8 * i + 3) = 1 then .shared else .sole,
          reported := (s.acct p).h, gap := false, peak := (s.acct p).h - imageWord image (16 + 8 * i + 2),
          overcommit := decide (a.effectiveCeiling p < (s.acct p).h), queueLength := (a.poolQueue p).length }) ∧
    (∀ p, (s.acct p).overcommit = false → (a.acct p).overcommit = true → a.eventPending .poolOvercommit = true) ∧
    (∀ p, s.ceiling p < a.ceiling p ∨ s.effectiveCeiling p < a.effectiveCeiling p ∨
        ((s.acct p).overcommit = true ∧ (a.acct p).overcommit = false) → p ∈ a.queues.marks) ∧
    (∀ p, p ∈ s.queues.marks → p ∈ a.queues.marks) ∧
    (relocation image ≠ 0 → s.time.source = .unset → a.eventPending .timeSet = true)

/-- The queue action and the engine state of an image have been applied to the waiting entries `es`, given in pool-number order and
queue order: FLUSH withdraws them all; a drain hands on, as rebuilt CHECKOUTs with their forwards, as many as find room, none while the
link is LOST, and answers the others (R43, R95, R166). The image is then invalid, and the request `f` has been taken. -/
def ImageActions (s a : State) (f : Frame) (image : List Word) (es : List WaitEntry) : Prop :=
  a.mode = (if imageWord image 5 = 1 then .draining else .serving) ∧ a.recon = { s.recon with image := none } ∧
    (imageWord image 6 = 1 →
      a.queues.entries = [] ∧ AnswersAll s a (es.map (fun e => (e, FarmBody.withdrawn))) ∧ a.fwd = s.fwd ∧ a.svc = s.svc.took f [] ∧
        a.mgmt.stats = s.mgmt.stats) ∧
    (imageWord image 6 ≠ 1 → imageWord image 5 ≠ 1 →
      a.queues.entries =
          s.queues.entries.map
            (fun e =>
              { e with
                stepPassed := e.stepPassed || decide (s.time.now < relocation image ∧ e.deadline ≤ relocation image) }) ∧
        a.farm = s.farm ∧ a.fwd = s.fwd ∧ a.svc = s.svc.took f [] ∧ a.mgmt.stats = s.mgmt.stats) ∧
    (imageWord image 6 ≠ 1 → imageWord image 5 = 1 →
      ∃ n, n =
          (if s.link.state = .lost then 0
          else min es.length (min (256 - s.fwd.entries.length) (min (992 - s.seatCount) (1023 - s.svc.upstream.length)))) ∧
        a.queues.entries = [] ∧
        AnswersAll s a
          ((es.drop n).map
            (fun e => (e, if s.link.state = .lost then FarmBody.unreachable else FarmBody.retry .noRoom s.mgmt.params.retryHint))) ∧
        a.fwd = { s.fwd with entries := s.fwd.entries ++ (es.take n).map a.handedForward } ∧
        a.svc = s.svc.took f ((es.take n).map (a.handedOn (ethTo f s))) ∧
        a.mgmt.stats = { s.mgmt.stats with forwards := counted s.mgmt.stats.forwards n })

/-- A valid image has been applied up to the slots, the place of the reply kept back and nothing else changed (R165, R166; that place
is log 16's). -/
def ImageApplied (s a : State) (f : Frame) (image : List Word) (es : List WaitEntry) : Prop :=
  ImageValues s a image ∧ ImageActions s a f image es ∧ a.reserved = 1 ∧ a.banks = s.banks ∧ a.link = s.link ∧
    a.farm.intake = s.farm.intake ∧ a.farm.bridge = s.farm.bridge ∧ a.mgmt.params = s.mgmt.params ∧ a.mgmt.notify = s.mgmt.notify ∧
    a.pending = s.pending ∧ a.clk = s.clk

/-- The overdue holds, in the order of their processing: ascending deadline, equal deadlines by lower slot (R75). -/
def State.Overdue (s : State) (holds : List (Nat × Hold)) : Prop :=
  (∀ e, e ∈ holds ↔ Table.get? s.holds.slots e.1 = some e.2 ∧ e.2.state ≠ .active ∧ e.2.deadline ≤ s.time.now) ∧
    holds.Pairwise (fun x y => x.2.deadline < y.2.deadline ∨ (x.2.deadline = y.2.deadline ∧ x.1 < y.1))

/-- Overdue holds have been processed one after another: a STALE one reclaimed, a LINGERING one at its linger end (R69, R70, R75). -/
def HoldsEnded : List (Nat × Hold) → State → State → Prop
  | [], u, t => t = u
  | e :: rest, u, t =>
    ∃ v, Removed u v e.1 e.2 ∧ ReportsRemoval u v e.1 e.2 (if e.2.state = .stale then .reclaim else .lingerEnd) ∧
      v.mgmt.stats.reclaims = (if e.2.state = .stale then bump u.mgmt.stats.reclaims else u.mgmt.stats.reclaims) ∧
      v.farm = u.farm ∧ v.banks = u.banks ∧ v.time = u.time ∧ v.link = u.link ∧ v.recon = u.recon ∧ v.mode = u.mode ∧
      v.reserved = u.reserved ∧ HoldsEnded rest v t

/-- The reply of a valid RESUME: the summaries applied, whether time was relocated, the entries withdrawn and handed on, the state
R166 set, whether the latch causes a re-entry, and the overdue holds processed (R166; that entries handed on without a forward count,
and that the state is the one R166 set, are deduced, log 22). -/
def State.resumeAnswer (s : State) (image : List Word) (overdue : Nat) : MgmtReply :=
  { kind := .resume, status := .ok,
    body :=
      .resumed (imageWord image 9) (decide (relocation image ≠ 0))
        (if imageWord image 6 = 1 then s.queues.entries.length else 0)
        (if imageWord image 6 ≠ 1 ∧ imageWord image 5 = 1 then s.queues.entries.length else 0)
        (if imageWord image 5 = 1 then .draining else .serving) s.recon.latch overdue }

/-! ### A pass in the spec's terms -/

/-- The pass on pool `p` has stalled (R66, R89). -/
def StalledAt (u t : State) (p : Nat) (e : WaitEntry) : Prop :=
  t.acct p = { u.acct p with stalled := true } ∧ OtherAccounts u t p ∧ OnlyRaised (u.setAccounts t.accounts) t ∧
    (u.LacksSlot e → t.eventPending .holdTableFull = true) ∧ (¬u.LacksSlot e → t = u.setAccounts t.accounts)

/-- An entry has been granted or denied by a pass: it is the one that left the store, and its client has been answered (R82, R86,
R87). -/
def EntryAnswered (u v : State) (e : WaitEntry) (b : FarmBody) : Prop :=
  Answers u v e.addrs e.key b ∧ v.queues = { u.queues with entries := u.queues.entries.eraseP (fun x => x.key = e.key) } ∧
    v.fwd = u.fwd ∧ v.farm.intake = u.farm.intake ∧ FarmRequestFrame u v

/-- What a pass does with an entry that it grants, or denies USE_LIMIT (R86, R87). An upgrade charges and a join counts the hold's pool,
and the queue length that falls is that of the entry's pool; the two are one pool, but for log 41. -/
def EntryServed (u v : State) (e : WaitEntry) : Prop :=
  ∃ i deadline, i = clampInterval (u.record e.pool) e.interval ∧ deadline = min (u.time.now + i * 1000) (2 ^ 48 - 1) ∧
    (u.targetOf e = none →
      ∃ hold handle,
        hold =
          { pool := e.pool, node := e.key.node, process := e.key.process, tokens := u.grantDemand e, useCount := 1, state := .active,
            interval := i, deadline, granted := u.time.now, tag := e.key.tag } ∧
        handle = { service := false, gen := u.generation u.lowestSlot, slot := u.lowestSlot } ∧
        EntryAnswered u v e (.grant handle (u.grantDemand e) i deadline) ∧
        Table.get? v.holds.slots u.lowestSlot = some hold ∧ OtherSlots u v u.lowestSlot ∧
        v.generation u.lowestSlot = u.generation u.lowestSlot ∧
        ChargedBy u v { u.acct e.pool with queueLength := (u.acct e.pool).queueLength - 1 } e.pool (u.grantDemand e) 1 .grant hold
          handle ∧
        v.mgmt.stats = { u.mgmt.stats with grants := bump u.mgmt.stats.grants }) ∧
    ∀ slot h, u.targetOf e = some (slot, h) →
      (h.useCount = 255 →
        EntryAnswered u v e (.deny .useLimit) ∧ v.holds = u.holds ∧ v.svc = u.svc ∧
          v.acct e.pool = { u.acct e.pool with queueLength := (u.acct e.pool).queueLength - 1 } ∧ OtherAccounts u v e.pool ∧
          v.mgmt = { u.mgmt with stats := { u.mgmt.stats with denials := bump u.mgmt.stats.denials } }) ∧
        (h.useCount ≠ 255 → h.tokens < u.fullDemand e →
          EntryAnswered u v e (.grant { service := false, gen := u.generation slot, slot } (u.fullDemand e) i deadline) ∧
            Table.get? v.holds.slots slot =
              some { h with tokens := u.fullDemand e, useCount := h.useCount + 1, state := .active, interval := i, deadline } ∧
            OtherSlots u v slot ∧ v.generation slot = u.generation slot ∧
            (∃ w, ChargedBy u w (u.acct h.pool) h.pool (u.grantDemand e) 0 .upgrade h
                { service := false, gen := u.generation slot, slot } ∧
              v.svc.upstream = w.svc.upstream ∧ v.mgmt.events = w.mgmt.events ∧
              ∀ p, v.acct p = if p = e.pool then { w.acct p with queueLength := (w.acct p).queueLength - 1 } else w.acct p) ∧
            v.mgmt.stats = { u.mgmt.stats with grants := bump u.mgmt.stats.grants }) ∧
        (h.useCount ≠ 255 → u.fullDemand e ≤ h.tokens →
          EntryAnswered u v e (.grant { service := false, gen := u.generation slot, slot } h.tokens i deadline) ∧
            Table.get? v.holds.slots slot =
              some { h with useCount := h.useCount + 1, state := .active, interval := i, deadline } ∧
            OtherSlots u v slot ∧ v.generation slot = u.generation slot ∧ v.svc = u.svc ∧
            (∀ p, v.acct p =
              { u.acct p with
                queueLength := if p = e.pool then (u.acct p).queueLength - 1 else (u.acct p).queueLength,
                grantsThis := if p = h.pool then bump (u.acct p).grantsThis else (u.acct p).grantsThis }) ∧
            v.mgmt = { u.mgmt with stats := { u.mgmt.stats with grants := bump u.mgmt.stats.grants } })

/-- The head of a queue may be passed by the entries behind it: BACKFILL, and younger than the protect age (R29, R85). -/
def State.HeadYields (s : State) (p : Nat) (head : WaitEntry) : Prop :=
  (s.record p).policy = .backfill ∧ s.time.now - head.enqueued < (s.record p).protectAge * 1000

/-- A pass on pool `p` goes through these entries from the state `u` to the state `t`. An entry that lacks what its grant needs stalls
it; one that fits is granted and the pass goes on; a head that does not fit ends it, unless the head yields, when the entries behind
it are scanned (R85 to R89). -/
def PassWalk (p : Nat) (scanning : Bool) : List WaitEntry → State → State → Prop
  | [], u, t => t = u
  | e :: rest, u, t =>
    (u.Unfit e →
      (scanning = true ∨ u.HeadYields p e → PassWalk p true rest u t) ∧
        (scanning = false → ¬u.HeadYields p e → t = u)) ∧
      (¬u.Unfit e → u.LacksSlot e ∨ u.LacksReport e → StalledAt u t p e) ∧
      (¬u.Unfit e → ¬u.LacksSlot e → ¬u.LacksReport e → ∃ v, EntryServed u v e ∧ PassWalk p scanning rest v t)

end Machine

end Sys2Proof
end

