-- ==== Sys2Proof/Certificates/Slice0/Obligations.lean ====
section
/-! DEFINITION. The statements for the provers. Each is a closed proposition about Sys2Proof.Machine.exec and step. -/

open Sys2Proof Sys2Proof.Machine Host

/-! ### The step, the reset and the invariants -/

/-- A step with a command at the front of the queue is that command on the state with the rest of the queue. -/
def Obligations.StepRunsFrontCommand : Prop :=
  ∀ (c : Instr) (s : State), step (s.setPending (c :: s.pending)) = exec c s

/-- No step faults or refuses: the spec describes nothing that stops the part, and a command whose condition does not hold changes
nothing (the model's choice, log 1). -/
def Obligations.EveryStepAnswersNext : Prop := ∀ s : State, Safe s

/-- On an empty queue with nothing due the clock runs, at most to the next whole millisecond, where engine time advances by one
unless it stands at its top; a change of epoch number is then owed as a boundary, and one of day number as a day change, and nothing
else changes (R131, R137, R138; the use of the empty queue for this is the model's choice, log 4, and so is what is owed, log 5). -/
def Obligations.ClockRunsOnEmptyQueue : Prop :=
  ∀ s : State, s.pending = [] → s.dueCommand = none →
    ∃ t, step s = .next t ∧ s.clk < t.clk ∧ t.clk ≤ s.nextMs ∧ t = { s with clk := t.clk, time := t.time } ∧
      (t.clk < s.nextMs → t.time = s.time) ∧
      (t.clk = s.nextMs → s.time.now < 2 ^ 48 - 1 →
        t.time =
          { now := s.time.now + 1, source := s.time.source, epochOwed := s.boundariesOwed (s.time.now + 1),
            dayOwed := s.daysOwed (s.time.now + 1) }) ∧
      (t.clk = s.nextMs → 2 ^ 48 - 1 ≤ s.time.now → t.time = s.time)

/-- What a power-on reset leaves (R194): the banks, accounts, tables and queues empty, time UNSET at 0, the link
DOWN, no reconciliation, UNCONFIGURED, default parameters, RESTARTED alone pending, every counter 0, the addresses cleared, the cause
POWER_ON. That cleared addresses (R176) read as 0 is the model's choice (log 6). -/
def Obligations.ResetLeavesTheTableOfR194 : Prop :=
  State.reset.banks = { active := none, shadow := { records := [], ranges := [] }, index := [], pendingSwitch := none } ∧
    (∀ p, State.reset.acct p = Account.cleared) ∧ State.reset.holds = { slots := [], gens := [] } ∧
    State.reset.queues.entries = [] ∧ State.reset.queues.marks = [] ∧ State.reset.fwd = { entries := [], late := [] } ∧
    State.reset.farm.intake = [] ∧ State.reset.svc.intake = [] ∧ State.reset.farm.bridge = none ∧ State.reset.svc.bridge = none ∧
    State.reset.farm.replies = [] ∧ State.reset.svc.upstream = [] ∧ State.reset.svc.restartSlot = none ∧
    State.reset.farm.paused = false ∧ State.reset.svc.pauseEnd = none ∧ State.reset.time.now = 0 ∧ State.reset.time.source = .unset ∧
    State.reset.link.state = .down ∧ State.reset.link.windowExpiry = none ∧ State.reset.link.autonomyStart = none ∧
    State.reset.link.autonomyPassed = false ∧ State.reset.link.echoError = false ∧ State.reset.link.lastSequence = 0 ∧
    State.reset.recon.latch = false ∧ State.reset.recon.image = none ∧ State.reset.recon.faultOffset = none ∧
    State.reset.mode = .unconfigured ∧ State.reset.mgmt.params = Params.default ∧ State.reset.mgmt.notify = 0 ∧
    (∀ e : Event, State.reset.eventPending e = decide (e = .restarted)) ∧ State.reset.farm.stats = PortStats.zero ∧
    State.reset.svc.stats = PortStats.zero ∧ State.reset.svc.peer = { src := 0, dst := 0 } ∧ State.reset.mgmt.stats = EngineStats.zero ∧ State.reset.mgmt.cause = .powerOn

/-- The invariants below hold after a power-on reset. -/
def Obligations.InvariantsHoldAtReset : Prop :=
  AccountsListed State.reset ∧ RoomKept State.reset ∧ IndexFollows State.reset ∧ UsesCounted State.reset ∧ PeakCovers State.reset ∧ OvercommitExact State.reset ∧
    TokensHeld State.reset ∧ PauseFollows State.reset ∧ IntakeKept State.reset ∧ QueuesCounted State.reset ∧ LinkCounts State.reset ∧
    BanksListed State.reset

/-- The Upstream Queue never holds more than 992 entries of seat traffic nor more than 1024 in all: every step keeps it (R178). -/
def Obligations.UpstreamRoomIsKept : Prop := ∀ s t : State, RoomKept s → step s = .next t → RoomKept t

/-- The Feature Index follows the ACTIVE bank through every step, and each bank keeps its records listed once each in pool-number
order (R1, R9). -/
def Obligations.FeatureIndexIsKept : Prop :=
  ∀ s t : State, step s = .next t → (IndexFollows s → IndexFollows t) ∧ (BanksListed s → BanksListed t)

/-- Use counts agree with hold states through every step, and the count of good probes in ARMING, and of misses in SUSPECT, stays 1 or
2 (R63, R140). -/
def Obligations.UseCountsAreKept : Prop :=
  ∀ s t : State, step s = .next t → (UsesCounted s → UsesCounted t) ∧ (LinkCounts s → LinkCounts t)

/-- The account table keeps its one form through every step: no two accounts of one pool, and no cleared account listed (R20). -/
def Obligations.AccountTableIsKept : Prop := ∀ s t : State, AccountsListed s → step s = .next t → AccountsListed t

/-- The overdraft peak covers the overdraft in use, and the overcommit flag is exact, through every step (R30, R31). -/
def Obligations.PeakAndOvercommitAreKept : Prop :=
  ∀ s t : State, AccountsListed s → PeakCovers s ∧ OvercommitExact s → step s = .next t → PeakCovers t ∧ OvercommitExact t

/-- H is the sum of the tokens of the pool's holds, and the hold count their number, through every step (R22). -/
def Obligations.HeldTokensAreKept : Prop := ∀ s t : State, AccountsListed s → TokensHeld s → step s = .next t → TokensHeld t

/-- The Farm pause control follows the occupancy of the Farm intake queue through every step, and neither intake queue nor the Farm
Reply Queue ever holds more than its places (R171, R174, R177). -/
def Obligations.PauseControlIsKept : Prop :=
  ∀ s t : State, PauseFollows s ∧ IntakeKept s → step s = .next t → PauseFollows t ∧ IntakeKept t

/-- A request key stands at most once in the wait queues and the Forwarding Table, and queue lengths count the entries, through
every step (R81). -/
def Obligations.QueuesAreKept : Prop := ∀ s t : State, AccountsListed s → QueuesCounted s → step s = .next t → QueuesCounted t

/-- Engine time never decreases, except at a reset or restart (R131). -/
def Obligations.EngineTimeNeverDecreases : Prop :=
  ∀ (c : Instr) (s t : State), restarts c = false → exec c s = .next t → s.time.now ≤ t.time.now

/-- In ENTERING and RECONCILING no command but RESUME, the restarts and the resets changes any pool's D, H or delegation state
(R156). -/
def Obligations.NoTokensMoveInReconciliation : Prop :=
  ∀ (c : Instr) (s t : State), AccountsListed s → s.mode = .entering ∨ s.mode = .reconciling → restarts c = false → c ≠ .resume → exec c s = .next t →
    ∀ p, (t.acct p).d = (s.acct p).d ∧ (t.acct p).h = (s.acct p).h ∧ (t.acct p).state = (s.acct p).state

/-! ### Frames -/

/-- The checks of a received seat frame, in their order, and what passes them all: the message of its kind and body, which the command
of that kind takes (R170, R172, R173). -/
def Obligations.SeatFrameChecksInOrder : Prop :=
  ∀ (port : Port) (seatType : Half) (f : Frame),
    (f.etype ≠ seatType → classify port seatType f = .bridge) ∧
      (f.etype = seatType → f.fcsGood = false → classify port seatType f = .badFcs) ∧
      (f.etype = seatType → f.fcsGood = true → lengthGood f = false → classify port seatType f = .badLength) ∧
      (f.etype = seatType → f.fcsGood = true → lengthGood f = true → checkGood f = false →
        classify port seatType f = if port = .service ∧ kindOf f = 0x40 then .badProbe else .badCheck) ∧
      (f.etype = seatType → f.fcsGood = true → lengthGood f = true → checkGood f = true →
        wrongPort port (kindGroup (kindOf f)) = true → classify port seatType f = .wrongPort) ∧
      (f.etype = seatType → f.fcsGood = true → lengthGood f = true → checkGood f = true →
        wrongPort port (kindGroup (kindOf f)) = false →
        field f.payload 0 1 ≠ 1 ∨ kindGroup (kindOf f) = .unknown ∨ (bodyOf f).length < bodyNeeds (kindOf f) →
        classify port seatType f = .protocolError (keyOf f)) ∧
      (f.etype = seatType → f.fcsGood = true → lengthGood f = true → checkGood f = true →
        wrongPort port (kindGroup (kindOf f)) = false → field f.payload 0 1 = 1 → kindGroup (kindOf f) ≠ .unknown →
        bodyNeeds (kindOf f) ≤ (bodyOf f).length →
        ∃ m, classify port seatType f = .message (keyOf f) m ∧ messageOf (kindOf f) (bodyOf f) = some m ∧
          commandOfKind port (kindOf f) = some (m.command port))

/-- Every message the engine originates carries its correct check and frame check sequence, and its header and body read back as
they were written; the spoiled ECHO alone fails its check (R153, R172, R180, R182). -/
def Obligations.OwnFramesPassTheirChecks : Prop :=
  ∀ (eth : EthHeader) (k : Key) (kind status : Nat) (body : List Byte), kind < 256 → status < 65536 → body.length ≤ 1024 →
    (ownFrame eth k kind status body false).fcsGood = true ∧ lengthGood (ownFrame eth k kind status body false) = true ∧
      checkGood (ownFrame eth k kind status body false) = true ∧ kindOf (ownFrame eth k kind status body false) = kind ∧
      keyOf (ownFrame eth k kind status body false) = k ∧ bodyOf (ownFrame eth k kind status body false) = body ∧
      checkGood (ownFrame eth k kind status body true) = false

/-- A rebuilt CHECKOUT reads back, at a port that takes it, with every field at every value the encoding admits (R96, R181). -/
def Obligations.RebuiltCheckoutReadsBack : Prop :=
  ∀ (eth : EthHeader) (k : Key) (b : CheckoutBody), b.feature < 2 ^ 24 → b.version < 65536 → b.seats < 65536 → b.cores < 65536 →
    b.waitLimit < 65536 → b.interval < 65536 →
    classify .farm eth.etype (UpEntry.rebuilt eth k b).frame = .message k (.checkout b)

/-! ### Ports -/

/-- FRAME_RECEIVE: a frame joins its intake queue, a frame at a full queue is dropped as an overrun and raises INTAKE_OVERRUN, a pause
frame is consumed; the frames count rises, and nothing is received while RESET_N is low (R170, R171, R194). The other port is left alone,
but for the place that an INTAKE_OVERRUN notice takes in the Upstream Queue, or its drop there (R171, R189). That a pause frame is
recognised when it is received, before its type is compared and before a full queue, its FCS untested, is the model's choice (log 7), and
so is that a pause is counted from the receipt of its frame (log 42). -/
def Obligations.FrameReceiveQueuesOrOverruns : Prop :=
  ∀ (port : Port) (f : Frame) (s : State),
    (s.resetLow = true → exec (.frameReceive port f) s = .next s) ∧
      (s.resetLow = false → f.isPause = false → (s.intake port).length < intakeCapacity port →
        ∃ t, exec (.frameReceive port f) s = .next t ∧ t.intake port = s.intake port ++ [f] ∧
          (t.portStats port).frames = bump (s.portStats port).frames ∧ t = { s with farm := t.farm, svc := t.svc } ∧
          (port = .farm →
            t.svc = s.svc ∧
              t.farm =
                { s.farm with
                  intake := s.farm.intake ++ [f], paused := t.farm.paused, pauseDue := t.farm.pauseDue, refreshAt := t.farm.refreshAt,
                  stats := { s.farm.stats with frames := bump s.farm.stats.frames } }) ∧
          (port = .service →
            t.farm = s.farm ∧
              t.svc =
                { s.svc with
                  intake := s.svc.intake ++ [f], stats := { s.svc.stats with frames := bump s.svc.stats.frames } })) ∧
      (s.resetLow = false → f.isPause = false → intakeCapacity port ≤ (s.intake port).length →
        ∃ t, exec (.frameReceive port f) s = .next t ∧ t.intake port = s.intake port ∧
          (t.portStats port).frames = bump (s.portStats port).frames ∧ (t.portStats port).overruns = bump (s.portStats port).overruns ∧
          t.eventPending .intakeOverrun = true ∧
          (port = .farm →
            OnlyRaised
              (s.setFarm
                { s.farm with
                  stats :=
                    { s.farm.stats with frames := bump s.farm.stats.frames, overruns := bump s.farm.stats.overruns } })
              t) ∧
          (port = .service →
            OnlyRaised
              (s.setSvc
                { s.svc with
                  stats := { s.svc.stats with frames := bump s.svc.stats.frames, overruns := bump s.svc.stats.overruns } })
              t)) ∧
      (s.resetLow = false → f.isPause = true →
        ∃ t, exec (.frameReceive port f) s = .next t ∧ t.intake port = s.intake port ∧
          (t.portStats port).frames = bump (s.portStats port).frames ∧
          t.svc.pauseEnd =
            (if port = .farm then s.svc.pauseEnd
            else if f.pauseTime = 0 then none
            else some (s.clk + f.pauseTime.toNat * 8)) ∧
          (port = .farm →
            t = s.setFarm { s.farm with stats := { s.farm.stats with frames := bump s.farm.stats.frames } }) ∧
          (port = .service →
            t =
              s.setSvc
                { s.svc with
                  pauseEnd := t.svc.pauseEnd, stats := { s.svc.stats with frames := bump s.svc.stats.frames } }))

/-- The Farm pause control: occupancy reaching 448 closes it with a pause frame of 65535 quanta, the pause frame is due again each
2 ms, and occupancy falling to 256 opens it with a pause frame of 0 (R174; a refresh before its moment changes nothing, log 1, and
pause frames due wait in order, the next refresh counted from the last moment due, log 25, the model's choices). -/
def Obligations.FarmPauseControlCloses : Prop :=
  (∀ (f : Frame) (s : State), s.resetLow = false → f.isPause = false → s.farm.paused = false → s.farm.intake.length = 447 →
      ∃ t, exec (.frameReceive .farm f) s = .next t ∧ t.farm.paused = true ∧ t.farm.pauseDue = s.farm.pauseDue ++ [65535] ∧
        t.farm.refreshAt = some (s.clk + 312500)) ∧
    (∀ (f : Frame) (s : State), s.resetLow = false → f.isPause = false → s.farm.paused = false → s.farm.intake.length < 447 →
      ∃ t, exec (.frameReceive .farm f) s = .next t ∧ t.farm.paused = false ∧ t.farm.pauseDue = s.farm.pauseDue) ∧
    (∀ (s : State) (m : Nat), s.farm.paused = true → s.farm.refreshAt = some m →
      (m ≤ s.clk →
        exec .farmPauseRefresh s =
          .next (s.setFarm { s.farm with pauseDue := s.farm.pauseDue ++ [65535], refreshAt := some (m + 312500) })) ∧
        (s.clk < m → exec .farmPauseRefresh s = .next s)) ∧
    (∀ (f : Frame) (s : State), s.head .farm = some (f, .bridge) → s.svc.bridge = none → s.farm.paused = true →
      ∃ t, exec (.bridgeFramePass .farm) s = .next t ∧
        (s.farm.intake.length = 257 → t.farm.paused = false ∧ t.farm.pauseDue = s.farm.pauseDue ++ [0] ∧ t.farm.refreshAt = none) ∧
        (257 < s.farm.intake.length → t.farm.paused = true ∧ t.farm.pauseDue = s.farm.pauseDue))

/-- A pause frame at the Service Port sets the pause time afresh, 0 resuming at once, and the pause runs out at its time; while it
is in force nothing leaves the port (R175; that an expiry before its moment changes nothing, log 1, and that the time is counted from
the receipt of the frame, log 42, are the model's choices). -/
def Obligations.ServicePauseStopsTheTransmitter : Prop :=
  (∀ (q : Half) (s : State), s.resetLow = false →
      exec (.servicePauseFrame q) s =
        .next
          (s.setSvc
            { s.svc with
              pauseEnd := if q = 0 then none else some (s.clk + q.toNat * 8),
              stats := { s.svc.stats with frames := bump s.svc.stats.frames } })) ∧
    (∀ (s : State) (m : Nat), s.svc.pauseEnd = some m →
      (m ≤ s.clk → exec .servicePauseExpiry s = .next (s.setSvc { s.svc with pauseEnd := none })) ∧
        (s.clk < m → exec .servicePauseExpiry s = .next s) ∧
        exec (.frameTransmit .service) s = .next (s.setSvc { s.svc with sending := none }))

/-- BRIDGE_FRAME_PASS: a bridge frame, or an engine's outbound kind, at the head of an intake queue passes unchanged into the
opposite bridge slot once that slot is free, and until then stays at the head (R170, R173). That a bridge frame's FCS is part of what
stays unchanged, right or wrong, is the model's choice (log 44). -/
def Obligations.BridgeFramePasses : Prop :=
  ∀ (port : Port) (f : Frame) (s : State),
    s.head port = some (f, .bridge) ∨ (∃ k, s.head port = some (f, .message k .outbound)) →
    (s.oppositeSlot port = none →
      ∃ t, exec (.bridgeFramePass port) s = .next t ∧ t.oppositeSlot port = some f ∧ t.intake port = (s.intake port).tail ∧
        t = { s with farm := t.farm, svc := t.svc } ∧ t.farm.replies = s.farm.replies ∧ t.svc.upstream = s.svc.upstream ∧
        (t.portStats port).seatMessages =
          if s.head port = some (f, .bridge) then (s.portStats port).seatMessages else bump (s.portStats port).seatMessages) ∧
      (∀ g, s.oppositeSlot port = some g → exec (.bridgeFramePass port) s = .next s)

/-- FRAME_TRANSMIT at the Farm Port: a due pause frame first, then the head of the Farm Reply Queue, then the bridge slot (R176).
That of several due pause frames the oldest is sent and the others stay due is the model's choice (log 25), and so is that a bridge
frame is sent with the FCS that it was received with (log 44). -/
def Obligations.FarmPortSendsInOrder : Prop :=
  ∀ s : State, s.resetLow = false →
    (∀ q due, s.farm.pauseDue = q :: due →
      exec (.frameTransmit .farm) s = .next (s.setFarm { s.farm with pauseDue := due, sending := some (pauseFrame q) })) ∧
      (∀ e rest, s.farm.pauseDue = [] → s.farm.replies = e :: rest →
        exec (.frameTransmit .farm) s = .next (s.setFarm { s.farm with replies := rest, sending := some e.frame })) ∧
      (s.farm.pauseDue = [] → s.farm.replies = [] →
        exec (.frameTransmit .farm) s = .next (s.setFarm { s.farm with bridge := none, sending := s.farm.bridge }))

/-- FRAME_TRANSMIT at the Service Port: the restart reply slot first, then the head of the Upstream Queue, then the bridge slot; a
departure from the Upstream Queue asks for a pass on every stalled pool (R89, R176, R179). That a bridge frame is sent with the FCS that
it was received with is the model's choice (log 44). -/
def Obligations.ServicePortSendsInOrder : Prop :=
  ∀ s : State, s.resetLow = false → s.svc.pauseEnd = none →
    (∀ e, s.svc.restartSlot = some e →
      exec (.frameTransmit .service) s = .next (s.setSvc { s.svc with restartSlot := none, sending := some e.frame })) ∧
      (∀ e rest, s.svc.restartSlot = none → s.svc.upstream = e :: rest →
        ∃ t, exec (.frameTransmit .service) s = .next t ∧ t.svc.sending = some e.frame ∧ rest <+: t.svc.upstream ∧
          (∀ p, (s.acct p).stalled = true → p ∈ t.queues.marks) ∧
          (∀ p, p ∈ s.queues.marks → p ∈ t.queues.marks) ∧
          (e.isReport = false ∨ s.mode ≠ .entering →
            t.svc.upstream = rest ∧ t = { s with svc := t.svc, queues := { s.queues with marks := t.queues.marks } })) ∧
      (s.svc.restartSlot = none → s.svc.upstream = [] →
        exec (.frameTransmit .service) s = .next (s.setSvc { s.svc with bridge := none, sending := s.svc.bridge }))

/-- The departure of the last REPORT entry while ENTERING builds the image from the figures as they stand, makes the state RECONCILING
and queues READY (R157 to R159, R179). -/
def Obligations.LastReportBuildsTheImage : Prop :=
  ∀ (s : State) (e : UpEntry) (rest : List UpEntry) (k : Key) (entry : Nat), s.resetLow = false → s.svc.pauseEnd = none → Quiet s →
    s.svc.restartSlot = none → s.svc.upstream = e :: rest → e.isReport = true → (∀ x ∈ rest, x.isReport = false) →
    rest.length < Config.upstream → s.mode = .entering → s.recon.originKey = some k → s.recon.entryTime = some entry →
    AccountsListed s →
    ∃ t image, exec (.frameTransmit .service) s = .next t ∧ t.mode = .reconciling ∧ t.recon.image = some image ∧
      image.length = 16 + 8 * s.delegatedPools.length ∧ BuiltImage s entry s.recon.entryDraining image ∧
      t.svc.upstream =
        rest ++
          [UpEntry.ready s.ownEth k
            { length := image.length, summaries := s.delegatedPools.length, entryTime := entry, buildTime := s.time.now,
              reentry := s.recon.reentry }]

/-- PROTOCOL_ERROR: the faulty message is answered into the queue of the port it arrived at under its own key. SEAT_FRAME_DROP: a
frame that fails the FCS or message check adds a check error, one that fails the length or direction check a framing error, and is
dropped. The frame leaves its queue, the Farm pause control following, and no other state changes (R172 to R174). That the Service
Port's PROTOCOL_ERROR goes to the faulty frame's sender (log 35), and that these frames do not set the addresses of what the engine
originates (log 14), are the model's choices. -/
def Obligations.FaultyFramesAreAnsweredOrDropped : Prop :=
  (∀ (f : Frame) (k : Key) (s : State),
    (s.head .farm = some (f, .protocolError k) →
      ∃ t, exec (.protocolError .farm) s = .next t ∧ Answers s t (addrsOf f) k .protocolError ∧ FarmHeadLeft s t ∧
        t.farm.stats = { s.farm.stats with droppedReplies := t.farm.stats.droppedReplies } ∧ t = { s with farm := t.farm }) ∧
      (s.head .service = some (f, .protocolError k) → Quiet s →
        exec (.protocolError .service) s =
          .next
            (s.setSvc
              (if s.svc.upstream.length < Config.upstream then
                { s.svc with
                  intake := s.svc.intake.tail,
                  upstream :=
                    s.svc.upstream ++ [UpEntry.protocolError { dst := f.src, src := f.dst, etype := s.mgmt.params.seatType } k] }
              else
                { s.svc with
                  intake := s.svc.intake.tail,
                  stats := { s.svc.stats with droppedReplies := bump s.svc.stats.droppedReplies } })))) ∧
    ∀ (f : Frame) (c : HeadClass) (s : State), c = .badFcs ∨ c = .badCheck ∨ c = .badLength ∨ c = .wrongPort →
      (s.head .farm = some (f, c) →
        ∃ t, exec (.seatFrameDrop .farm) s = .next t ∧ FarmHeadLeft s t ∧ t.farm.replies = s.farm.replies ∧
          t.farm.stats =
            (if c = .badFcs ∨ c = .badCheck then { s.farm.stats with checkErrors := bump s.farm.stats.checkErrors }
            else { s.farm.stats with framingErrors := bump s.farm.stats.framingErrors }) ∧
          t = { s with farm := t.farm }) ∧
        (s.head .service = some (f, c) →
          exec (.seatFrameDrop .service) s =
            .next
              (s.setSvc
                { s.svc with
                  intake := s.svc.intake.tail,
                  stats :=
                    if c = .badFcs ∨ c = .badCheck then { s.svc.stats with checkErrors := bump s.svc.stats.checkErrors }
                    else { s.svc.stats with framingErrors := bump s.svc.stats.framingErrors } }))

/-! ### Farm requests -/

/-- A CHECKOUT's refusals before the trial, in their order: a key that stands is a duplicate, an empty candidate list is denied with
the reason of the stage that emptied it, ENTERING and RECONCILING turn a delegated candidate away, and a passed autonomy limit turns
everything away (R12, R47, R48). The three lists of the stages are the pools that carry the feature and serve the version, those of
them whose mask holds the node's group, and those of them in their window, in pool-number order (R4, R7, R9, R10, R11). -/
def Obligations.CheckoutIsRefusedInOrder : Prop :=
  (∀ (feature version : Nat) (node : Word) (s : State), IndexFollows s → BanksListed s →
    (s.candidates feature version node).Pairwise (· < ·) ∧
      ∀ p,
        (p ∈ s.versionMatched feature version ↔ ∃ b r, s.Serves feature version p b r) ∧
          (p ∈ s.eligible feature version node ↔
            ∃ b r g, s.Serves feature version p b r ∧ b.PutsIn node g ∧ r.groupMask.getLsbD g = true) ∧
          (p ∈ s.candidates feature version node ↔
            ∃ b r g, s.Serves feature version p b r ∧ b.PutsIn node g ∧ r.groupMask.getLsbD g = true ∧ s.InWindow r)) ∧
  ∀ (f : Frame) (k : Key) (b : CheckoutBody) (s : State), s.headMessage .farm = some (f, k, .checkout b) →
    s.mode ≠ .unconfigured → s.mode ≠ .faultHold →
    (s.keyStands k = true →
      ∃ t, exec .checkout s = .next t ∧ AnsweredOnly s t (addrsOf f) k (.retry .duplicateTag s.mgmt.params.retryHint)) ∧
      (s.keyStands k = false → s.candidates b.feature b.version k.node = [] →
        ∃ t reason, exec .checkout s = .next t ∧ AnsweredOnly s t (addrsOf f) k (.deny reason) ∧
          (s.versionMatched b.feature b.version = [] → reason = .noEntitlement) ∧
          (s.versionMatched b.feature b.version ≠ [] → s.eligible b.feature b.version k.node = [] → reason = .notEligible) ∧
          (s.eligible b.feature b.version k.node ≠ [] → reason = .outOfWindow)) ∧
      (s.keyStands k = false → s.mode = .entering ∨ s.mode = .reconciling →
        (∃ p, p ∈ s.candidates b.feature b.version k.node ∧ (s.acct p).state ≠ .absent) →
        ∃ t, exec .checkout s = .next t ∧ AnsweredOnly s t (addrsOf f) k (.retry .reconciling s.mgmt.params.retryHint)) ∧
      (s.keyStands k = false → s.mode = .serving ∨ s.mode = .draining → s.candidates b.feature b.version k.node ≠ [] →
        s.link.autonomyPassed = true →
        ∃ t, exec .checkout s = .next t ∧ AnsweredOnly s t (addrsOf f) k (.retry .autonomyExpired s.mgmt.params.retryHint))

/-- A fresh grant: without a slot HOLDS_FULL, without report room in a SHARED pool NO_ROOM; else the hold is created in the lowest
free slot, T is charged, a SHARED pool's GRANT report is queued, and the client is answered GRANT (R50). The lowest free slot is the
first that holds nothing, and the join target, which a fresh grant has none of, is the lowest-slot hold the requester may join (R49,
R65). -/
def Obligations.CheckoutGrantsANewHold : Prop :=
  (∀ s : State, SlotsListed s →
    Table.get? s.holds.slots s.lowestSlot = none ∧ (∀ n, n < s.lowestSlot → Table.get? s.holds.slots n ≠ none) ∧
      (s.tableFull = false → s.lowestSlot < 16384) ∧
      ∀ (p : Nat) (node process : Word),
        (∀ slot h, s.joinTarget p node process = some (slot, h) ↔
          s.MayJoin p node process slot h ∧ ∀ n x, n < slot → ¬s.MayJoin p node process n x) ∧
          (s.joinTarget p node process = none ↔ ∀ n x, ¬s.MayJoin p node process n x)) ∧
  ∀ (c : CheckoutRequest) (p : Nat) (s : State), s.TakesCheckout c → OvercommitExact s → s.mode = .serving → s.TrialReaches c p →
    s.joinTarget p c.key.node c.key.process = none → s.admits p (s.demandOf c p) = true →
    (s.tableFull = true →
      ∃ t, exec .checkout s = .next t ∧ TakenFromFarm s t ∧
        Answers s t (addrsOf c.frame) c.key (.retry .holdsFull s.mgmt.params.retryHint) ∧ t.eventPending .holdTableFull = true ∧
        TablesKept s t ∧ FarmRequestFrame s t) ∧
      (s.tableFull = false → (s.acct p).state = .shared → s.seatRoom = false →
        ∃ t, exec .checkout s = .next t ∧
          AnsweredOnly s t (addrsOf c.frame) c.key (.retry .noRoom s.mgmt.params.retryHint)) ∧
      (s.tableFull = false → ((s.acct p).state = .shared → s.seatRoom = true) →
        ∃ t hold handle, exec .checkout s = .next t ∧
          hold =
            { pool := p, node := c.key.node, process := c.key.process, tokens := s.demandOf c p, useCount := 1, state := .active,
              interval := s.intervalOf c p, deadline := min (s.time.now + s.intervalOf c p * 1000) (2 ^ 48 - 1),
              granted := s.time.now, tag := c.key.tag } ∧
          handle = { service := false, gen := s.generation s.lowestSlot, slot := s.lowestSlot } ∧ TakenFromFarm s t ∧
          Answers s t (addrsOf c.frame) c.key (.grant handle (s.demandOf c p) (s.intervalOf c p) hold.deadline) ∧
          Table.get? t.holds.slots s.lowestSlot = some hold ∧ OtherSlots s t s.lowestSlot ∧
          t.generation s.lowestSlot = s.generation s.lowestSlot ∧ ChargedBy s t (s.acct p) p (s.demandOf c p) 1 .grant hold handle ∧
          t.mgmt.stats.grants = bump s.mgmt.stats.grants ∧ t.queues = s.queues ∧ t.fwd = s.fwd ∧ FarmRequestFrame s t)

/-- A join target: use count 255 is denied USE_LIMIT; a demand within its tokens joins it, moving no tokens; in SERVING an admitted
delta upgrades it, charged and reported, or NO_ROOM where a SHARED pool's report finds none (R49, R51, R52). -/
def Obligations.CheckoutJoinsOrUpgrades : Prop :=
  ∀ (c : CheckoutRequest) (p slot : Nat) (h : Hold) (s : State), s.TakesCheckout c → OvercommitExact s →
    s.mode = .serving ∨ s.mode = .draining → s.TrialReaches c p → s.joinTarget p c.key.node c.key.process = some (slot, h) →
    (h.useCount = 255 →
      ∃ t, exec .checkout s = .next t ∧ AnsweredOnly s t (addrsOf c.frame) c.key (.deny .useLimit)) ∧
      (h.useCount ≠ 255 → s.demandOf c p ≤ h.tokens →
        ∃ t deadline, exec .checkout s = .next t ∧ deadline = min (s.time.now + s.intervalOf c p * 1000) (2 ^ 48 - 1) ∧
          TakenFromFarm s t ∧
          Answers s t (addrsOf c.frame) c.key
            (.grant { service := false, gen := s.generation slot, slot } h.tokens (s.intervalOf c p) deadline) ∧
          Table.get? t.holds.slots slot =
            some { h with useCount := h.useCount + 1, state := .active, interval := s.intervalOf c p, deadline } ∧
          OtherSlots s t slot ∧ t.generation slot = s.generation slot ∧
          t.acct p = { s.acct p with grantsThis := bump (s.acct p).grantsThis } ∧ OtherAccounts s t p ∧ t.svc = s.svc ∧
          t.mgmt.stats.grants = bump s.mgmt.stats.grants ∧ t.mgmt.events = s.mgmt.events ∧ t.queues = s.queues ∧ t.fwd = s.fwd ∧
          FarmRequestFrame s t) ∧
      (s.mode = .serving → h.useCount ≠ 255 → h.tokens < s.demandOf c p → s.admits p (s.demandOf c p - h.tokens) = true →
        ((s.acct p).state = .shared → s.seatRoom = false →
          ∃ t, exec .checkout s = .next t ∧
            AnsweredOnly s t (addrsOf c.frame) c.key (.retry .noRoom s.mgmt.params.retryHint)) ∧
        (((s.acct p).state = .shared → s.seatRoom = true) →
          ∃ t deadline handle, exec .checkout s = .next t ∧
            deadline = min (s.time.now + s.intervalOf c p * 1000) (2 ^ 48 - 1) ∧
            handle = { service := false, gen := s.generation slot, slot } ∧ TakenFromFarm s t ∧
            Answers s t (addrsOf c.frame) c.key (.grant handle (s.demandOf c p) (s.intervalOf c p) deadline) ∧
            Table.get? t.holds.slots slot =
              some
                { h with
                  tokens := s.demandOf c p, useCount := h.useCount + 1, state := .active, interval := s.intervalOf c p, deadline } ∧
            OtherSlots s t slot ∧ t.generation slot = s.generation slot ∧
            ChargedBy s t (s.acct p) p (s.demandOf c p - h.tokens) 0 .upgrade h handle ∧
            t.mgmt.stats.grants = bump s.mgmt.stats.grants ∧ t.queues = s.queues ∧ t.fwd = s.fwd ∧ FarmRequestFrame s t))

/-- A CHECKOUT in SERVING that no candidate admits, every candidate being delegated: DENY TOO_LARGE, NO_WAIT or QUEUE_FULL, or QUEUED
at the tail of the first queue that takes it (R53, R54), with the delta and the target's handle in a PER_NODE pool that has a join
target, and the full demand else (R49). -/
def Obligations.CheckoutQueuesOrIsDenied : Prop :=
  (∀ (c : CheckoutRequest) (p : Nat) (s : State),
    (s.queuesOn c p = true ↔
      s.demandOf c p ≤ s.ceiling p ∧ 0 < min (s.record p).maxWait c.body.waitLimit ∧
        (s.acct p).queueLength < (s.record p).queueLimit) ∧
      (∀ slot h, (s.record p).sharing = .perNode → s.joinTarget p c.key.node c.key.process = some (slot, h) →
        s.rememberedDemand c p =
          (s.demandOf c p - h.tokens, some { service := false, gen := s.generation slot, slot })) ∧
      ((s.record p).sharing = .perProcess ∨ s.joinTarget p c.key.node c.key.process = none →
        s.rememberedDemand c p = (s.demandOf c p, none))) ∧
  ∀ (c : CheckoutRequest) (s : State), s.TakesCheckout c → s.mode = .serving → s.candidatesOf c ≠ [] →
    (∀ p ∈ s.candidatesOf c, (s.acct p).state ≠ .absent ∧ s.passesOver c p = true) →
    ((∀ p ∈ s.candidatesOf c, s.ceiling p < s.demandOf c p) →
      ∃ t, exec .checkout s = .next t ∧ AnsweredOnly s t (addrsOf c.frame) c.key (.deny .tooLarge)) ∧
      ((∃ p, p ∈ s.candidatesOf c ∧ s.demandOf c p ≤ s.ceiling p) →
        c.body.flags.getLsbD 0 = true ∨
            (∀ p ∈ s.candidatesOf c, s.demandOf c p ≤ s.ceiling p → min (s.record p).maxWait c.body.waitLimit = 0) →
        ∃ t, exec .checkout s = .next t ∧ AnsweredOnly s t (addrsOf c.frame) c.key (.deny .noWait)) ∧
      (c.body.flags.getLsbD 0 = false →
        (∃ p, p ∈ s.candidatesOf c ∧ s.demandOf c p ≤ s.ceiling p ∧ 0 < min (s.record p).maxWait c.body.waitLimit) →
        (2048 ≤ s.queues.entries.length →
          ∃ t, exec .checkout s = .next t ∧ TakenFromFarm s t ∧ Answers s t (addrsOf c.frame) c.key (.deny .queueFull) ∧
            t.eventPending .queueStoreFull = true ∧ TablesKept s t ∧ FarmRequestFrame s t) ∧
          (s.queues.entries.length < 2048 → (∀ p ∈ s.candidatesOf c, s.queuesOn c p = false) →
            ∃ t, exec .checkout s = .next t ∧ AnsweredOnly s t (addrsOf c.frame) c.key (.deny .queueFull)) ∧
          (∀ before p after, s.queues.entries.length < 2048 → s.candidatesOf c = before ++ p :: after →
            (∀ q ∈ before, s.queuesOn c q = false) → s.queuesOn c p = true →
            ∃ t, exec .checkout s = .next t ∧ TakenFromFarm s t ∧
              Answers s t (addrsOf c.frame) c.key (.queued ((s.acct p).queueLength + 1) (s.rememberedDemand c p).1) ∧
              t.queues =
                { s.queues with
                  entries :=
                    s.queues.entries ++
                      [{ key := c.key, pool := p, seats := clampSeats c.body.seats, cores := clampCores c.body.cores,
                         demand := (s.rememberedDemand c p).1, target := (s.rememberedDemand c p).2, version := c.body.version,
                         interval := c.body.interval, flags := c.body.flags, enqueued := s.time.now,
                         deadline :=
                          min (s.time.now + min (s.record p).maxWait c.body.waitLimit * 1000) (2 ^ 48 - 1),
                         addrs := addrsOf c.frame, stepPassed := false }] } ∧
              t.acct p = { s.acct p with queueLength := (s.acct p).queueLength + 1 } ∧ OtherAccounts s t p ∧ t.holds = s.holds ∧
              t.fwd = s.fwd ∧ t.svc = s.svc ∧ t.mgmt.events = s.mgmt.events ∧
              t.mgmt.stats.queued = bump s.mgmt.stats.queued ∧ FarmRequestFrame s t))

/-- The farm requests that go upstream: a CHECKOUT with an ABSENT candidate that nothing admits, or none delegated while
reconciling, or none joined while DRAINING; a CHECKIN or RENEW of no present hold; a CANCEL of a forward; a QUERY without a delegated
candidate. Each is answered UNREACHABLE, DUPLICATE_TAG or NO_ROOM, or forwarded unchanged (R46). -/
def Obligations.RequestsAreForwarded : Prop :=
  ∀ s : State, s.mode ≠ .unconfigured → s.mode ≠ .faultHold →
    (∀ c : CheckoutRequest, s.TakesCheckout c → s.candidatesOf c ≠ [] →
      (∀ p ∈ s.candidatesOf c, (s.acct p).state ≠ .absent → s.passesOver c p = true ∧ s.mode ≠ .entering ∧ s.mode ≠ .reconciling) →
      (s.mode = .serving → ∃ p, p ∈ s.candidatesOf c ∧ (s.acct p).state = .absent) →
      ∃ t, exec .checkout s = .next t ∧ Forwards s t c.frame c.key .checkout c.body.feature) ∧
      (∀ f k handle noLinger, s.headMessage .farm = some (f, k, .checkin handle noLinger) → s.namedHold handle = none →
        ∃ t, exec .checkin s = .next t ∧ Forwards s t f k .checkin 0) ∧
      (∀ f k handle interval, s.headMessage .farm = some (f, k, .renew handle interval) → s.namedHold handle = none →
        ∃ t, exec .renew s = .next t ∧ Forwards s t f k .renew 0) ∧
      (∀ f (k : Key) tag, s.headMessage .farm = some (f, k, .cancel tag) →
        (∀ e ∈ s.queues.entries, e.key ≠ { k with tag }) → (∃ e, e ∈ s.fwd.entries ∧ e.key = { k with tag }) →
        ∃ t, exec .cancel s = .next t ∧ Forwards s t f k .cancel 0) ∧
      (∀ f (k : Key) feature version, s.headMessage .farm = some (f, k, .query feature version) →
        (∀ p ∈ s.candidates feature version k.node, (s.acct p).state = .absent) →
        ∃ t, exec .query s = .next t ∧ Forwards s t f k .query feature)

/-- A CHECKIN or RENEW of a present hold: by the hold's state, holder and use count the use count falls, the hold lingers, or it is
removed; RECONCILING turns a CHECKIN away; a RENEW makes the hold ACTIVE with a new deadline (R56, R57, R58). A handle names a present
hold by its issuer mark, slot and generation, and the hold matches its holder's node, and in a PER_PROCESS pool its process (R55). -/
def Obligations.CheckinAndRenewServeTheHold : Prop :=
  (∀ (handle : Handle) (h : Hold) (k : Key) (s : State),
    (s.namedHold handle = some h ↔
      handle.service = false ∧ s.generation handle.slot = handle.gen ∧ Table.get? s.holds.slots handle.slot = some h) ∧
      (s.matches h k = true ↔
        h.node = k.node ∧ ((s.record h.pool).sharing = .perProcess → h.process = k.process))) ∧
  ∀ (f : Frame) (k : Key) (handle : Handle) (h : Hold) (s : State), s.namedHold handle = some h → s.mode ≠ .unconfigured →
    s.mode ≠ .faultHold → OvercommitExact s →
    (∀ noLinger, s.headMessage .farm = some (f, k, .checkin handle noLinger) →
      (s.mode = .entering ∨ s.mode = .reconciling →
        ∃ t, exec .checkin s = .next t ∧ AnsweredOnly s t (addrsOf f) k (.retry .reconciling s.mgmt.params.retryHint)) ∧
      (s.mode = .serving ∨ s.mode = .draining → h.state = .lingering ∨ s.matches h k = false →
        ∃ t, exec .checkin s = .next t ∧ AnsweredOnly s t (addrsOf f) k .unknownHold) ∧
      (s.mode = .serving ∨ s.mode = .draining → h.state ≠ .lingering → s.matches h k = true →
        ∃ t, exec .checkin s = .next t ∧ TakenFromFarm s t ∧ Answers s t (addrsOf f) k .released ∧ FarmRequestFrame s t ∧
          (1 < h.useCount →
            Table.get? t.holds.slots handle.slot = some { h with useCount := h.useCount - 1 } ∧ OtherSlots s t handle.slot ∧
              t = { s with farm := t.farm, holds := { s.holds with slots := t.holds.slots } }) ∧
          (h.useCount = 1 → 0 < (s.record h.pool).linger → noLinger = false →
            Table.get? t.holds.slots handle.slot =
                some
                  { h with
                    useCount := 0, state := .lingering,
                    deadline := min (s.time.now + (s.record h.pool).linger * 1000) (2 ^ 48 - 1) } ∧
              OtherSlots s t handle.slot ∧ t = { s with farm := t.farm, holds := { s.holds with slots := t.holds.slots } }) ∧
          (h.useCount = 1 → (s.record h.pool).linger = 0 ∨ noLinger = true →
            Removed s t handle.slot h ∧ ReportsRemoval s t handle.slot h .release))) ∧
      (∀ interval, s.headMessage .farm = some (f, k, .renew handle interval) →
        (h.state = .lingering ∨ s.matches h k = false →
          ∃ t, exec .renew s = .next t ∧ AnsweredOnly s t (addrsOf f) k .unknownHold) ∧
        (h.state ≠ .lingering → s.matches h k = true →
          ∃ t i deadline, exec .renew s = .next t ∧ TakenFromFarm s t ∧ Answers s t (addrsOf f) k (.renewed deadline) ∧
            deadline = min (s.time.now + i * 1000) (2 ^ 48 - 1) ∧ (interval = none → i = h.interval) ∧
            (interval = some 0 → i = (s.record h.pool).renewMin) ∧
            (∀ n, interval = some n → n ≠ 0 → i = min (s.record h.pool).renewMax (max (s.record h.pool).renewMin n)) ∧
            Table.get? t.holds.slots handle.slot = some { h with state := .active, interval := i, deadline } ∧
            OtherSlots s t handle.slot ∧ t = { s with farm := t.farm, holds := { s.holds with slots := t.holds.slots } }))

/-- A CANCEL removes the waiting entry of the key it names, asking for a pass where it was the head, and finds nothing otherwise; a
QUERY reports the first delegated candidate and changes nothing (R59, R60, R82). -/
def Obligations.CancelAndQueryAnswer : Prop :=
  ∀ (f : Frame) (k : Key) (s : State), s.mode ≠ .unconfigured → s.mode ≠ .faultHold →
    (∀ tag e, s.headMessage .farm = some (f, k, .cancel tag) → s.waiting? { k with tag } = some e →
      ∃ t, exec .cancel s = .next t ∧ TakenFromFarm s t ∧ Answers s t (addrsOf f) k (.cancelled tag) ∧
        t.queues.entries = s.queues.entries.eraseP (fun x => x.key = e.key) ∧
        t.acct e.pool = { s.acct e.pool with queueLength := (s.acct e.pool).queueLength - 1 } ∧ OtherAccounts s t e.pool ∧
        (s.isHead e = true → e.pool ∈ t.queues.marks) ∧ (s.isHead e = false → t.queues.marks = s.queues.marks) ∧
        t.holds = s.holds ∧ t.fwd = s.fwd ∧ t.svc = s.svc ∧ t.mgmt = s.mgmt ∧ FarmRequestFrame s t) ∧
      (∀ tag, s.headMessage .farm = some (f, k, .cancel tag) → s.keyStands { k with tag } = false →
        ∃ t, exec .cancel s = .next t ∧ AnsweredOnly s t (addrsOf f) k (.notWaiting tag)) ∧
      (∀ feature version p, s.headMessage .farm = some (f, k, .query feature version) →
        (s.candidates feature version k.node).find? (fun q => (s.acct q).state ≠ .absent) = some p →
        ∃ t, exec .query s = .next t ∧
          AnsweredOnly s t (addrsOf f) k
            (.poolStatus p (s.effectiveCeiling p - (s.acct p).h) (s.acct p).queueLength (s.acct p).state))

/-- In UNCONFIGURED and FAULT_HOLD the farm request kinds at the Farm Port and the farm reply kinds at the Service Port pass
unchanged to the opposite bridge slot, and stay at the head while it is full; nothing else changes (R40). -/
def Obligations.FarmKindsAreBridged : Prop :=
  ∀ (f : Frame) (k : Key) (s : State), s.mode = .unconfigured ∨ s.mode = .faultHold →
    (∀ (c : Instr) (m : Message), s.headMessage .farm = some (f, k, m) → m.command .farm = c →
      c = .checkout ∨ c = .checkin ∨ c = .renew ∨ c = .cancel ∨ c = .query →
      (s.svc.bridge = none →
        ∃ t, exec c s = .next t ∧ t.svc = { s.svc with bridge := some f } ∧ t.farm.intake = s.farm.intake.tail ∧
          t.farm.replies = s.farm.replies ∧ t.farm.stats.seatMessages = bump s.farm.stats.seatMessages ∧
          t = { s with farm := t.farm, svc := t.svc }) ∧
        (s.svc.bridge ≠ none → exec c s = .next s)) ∧
      (s.headMessage .service = some (f, k, .farmReply) →
        (s.farm.bridge = none →
          ∃ t, exec .serviceReplyRelay s = .next t ∧ t.farm = { s.farm with bridge := some f } ∧ t.svc.intake = s.svc.intake.tail ∧
            t.svc.upstream = s.svc.upstream ∧ t.svc.stats.seatMessages = bump s.svc.stats.seatMessages ∧
            t = { s with farm := t.farm, svc := t.svc }) ∧
          (s.farm.bridge ≠ none → exec .serviceReplyRelay s = .next s))

/-- SERVICE_REPLY_RELAY: the reply joins the Farm Reply Queue unchanged, or is dropped and counted where it is full; the forward of
its key is removed, or, where none stands and the late-key record holds the key, a late reply is counted (R117). -/
def Obligations.ServiceReplyIsRelayed : Prop :=
  ∀ (f : Frame) (k : Key) (s : State), s.headMessage .service = some (f, k, .farmReply) → s.mode ≠ .unconfigured →
    s.mode ≠ .faultHold →
    ∃ t, exec .serviceReplyRelay s = .next t ∧
      t.farm =
        (if s.farm.replies.length < 1024 then { s.farm with replies := s.farm.replies ++ [FarmEntry.relay f] }
        else { s.farm with stats := { s.farm.stats with droppedReplies := bump s.farm.stats.droppedReplies } }) ∧
      t.fwd.entries = s.fwd.entries.eraseP (fun e => e.key = k) ∧ t.fwd.late = s.fwd.late ∧
      t.mgmt.stats.lateReplies =
        (if (∀ e ∈ s.fwd.entries, e.key ≠ k) ∧ k ∈ s.fwd.late then bump s.mgmt.stats.lateReplies else s.mgmt.stats.lateReplies) ∧
      t.svc = s.svc.took f [] ∧
      t =
        { s with
          farm := t.farm, svc := t.svc, fwd := t.fwd,
          mgmt := { s.mgmt with stats := { s.mgmt.stats with lateReplies := t.mgmt.stats.lateReplies } } }

/-- The figures of a request and of a pool: the clamped seats and cores, the multiplier and demand, the allowance and ceiling with
their ranges, the effective ceiling, the free tokens, the fit test and the admission test with its queue test, and the epoch number
(R25 to R29, R38). -/
def Obligations.FiguresFollowTheirRules : Prop :=
  (∀ (r : PoolRecord) (seats cores : Nat),
      demand r (clampSeats seats) (clampCores cores) =
        min 16 (max 1 seats) * r.tokensPerSeat *
          (if r.coreStep = 0 then 1 else min r.coreCap ((min 1024 (max 1 cores) + r.coreStep - 1) / r.coreStep))) ∧
    ∀ (s : State) (p : Nat),
      s.allowance p = (s.acct p).d * (s.record p).overdraft / 1000 ∧ s.ceiling p = (s.acct p).d + s.allowance p ∧
        ((s.acct p).d ≤ 65535 → (s.record p).overdraft ≤ 500 → s.allowance p ≤ 32767 ∧ s.ceiling p ≤ 98302) ∧
        ((s.acct p).state = .absent → s.effectiveCeiling p = 0) ∧
        ((s.acct p).state = .sole ∨ (s.acct p).state = .soleChanged → s.effectiveCeiling p = s.ceiling p) ∧
        ((s.acct p).state = .shared →
          s.effectiveCeiling p = if s.link.state = .lost then (s.acct p).d else s.ceiling p) ∧
        (s.free p : Int) = max 0 ((s.effectiveCeiling p : Int) - (s.acct p).h) ∧
        (∀ T, s.fits p T = true ↔ (T : Int) ≤ (s.effectiveCeiling p : Int) - (s.acct p).h) ∧
        (∀ T, s.admits p T = true ↔
          (T : Int) ≤ (s.effectiveCeiling p : Int) - (s.acct p).h ∧
            ∀ head, (s.poolQueue p).head? = some head → s.HeadYields p head) ∧
        (s.poolQueue p = [] → s.queueOpen p = true) ∧
        (∀ head, (s.headYoung p head = true ↔ s.HeadYields p head)) ∧
        ∀ now period, epochNumber now period = now / (period * 1000) % 2 ^ 32

/-! ### The service link and the time marks -/

/-- A good PROBE moves the link, restarts the window, records the sequence number and is answered with an ECHO of the digest as it
then stands, spoiled where the echo error flag was set, which the ECHO clears; without room the ECHO is dropped and counted and the
flag stays (R141, R142, R144, R148, R153). -/
def Obligations.GoodProbeMovesTheLinkAndIsEchoed : Prop :=
  ∀ (f : Frame) (k : Key) (sequence : Word) (mark : Nat) (s : State), LinkCounts s →
    s.head .service = some (f, .message k (.probe sequence mark)) →
    ∃ t notices, exec .probe s = .next t ∧
      (s.link.state = .down → t.link.state = .arming .down 1) ∧ (s.link.state = .lost → t.link.state = .arming .lost 1) ∧
      (∀ o, s.link.state = .arming o 1 → t.link.state = .arming o 2) ∧ (∀ o, s.link.state = .arming o 2 → t.link.state = .up) ∧
      (s.link.state = .up → t.link.state = .up) ∧ (∀ m, s.link.state = .suspect m → t.link.state = .up) ∧
      t.link.windowExpiry = some s.windowFromNow ∧ t.link.lastSequence = sequence ∧ t.link.lastBad = s.link.lastBad ∧
      (∀ e ∈ notices, UpEntry.isNotice e = true) ∧
      (s.svc.upstream.length + notices.length + s.reserved < 1024 →
        t.svc.upstream =
            s.svc.upstream ++ notices ++
              [UpEntry.echo { dst := f.src, src := f.dst, etype := s.mgmt.params.seatType } k
                { sequence, mark, solicited := true, digest := t.digest } s.link.echoError] ∧
          t.link.echoError = false) ∧
      (1024 ≤ s.svc.upstream.length + notices.length + s.reserved →
        t.svc.upstream = s.svc.upstream ++ notices ∧ t.link.echoError = s.link.echoError ∧
          (s.svc.stats.droppedReplies < 4294967295 → s.svc.stats.droppedReplies < t.svc.stats.droppedReplies)) ∧
      t.svc.intake = s.svc.intake.tail ∧ t.svc.peer = addrsOf f ∧ t.svc.stats.seatMessages = bump s.svc.stats.seatMessages ∧
      (s.link.state ≠ .lost → s.link.state ≠ .arming .lost 2 → t.accounts = s.accounts ∧ t.queues.marks = s.queues.marks) ∧
      t.farm = s.farm ∧ t.banks = s.banks ∧ t.mode = s.mode ∧ t.pending = s.pending ∧ t.clk = s.clk ∧
      t.mgmt = { s.mgmt with events := t.mgmt.events }

/-- The time mark of a good PROBE: while UNSET a mark not below engine time rebases every stored time and gives TRACKING, a lower one
conflicts; afterwards a mark within the step limit steps engine time forward, moving no stored time, or agrees, HOLDOVER returning to
TRACKING where the link is UP, and another conflicts (R132, R133, R134, R136, R160). What a change of the epoch number or of the day
owes (R137, R138) is the model's choice (log 5). -/
def Obligations.TimeMarksAreTaken : Prop :=
  ∀ (f : Frame) (k : Key) (sequence : Word) (mark : Nat) (s : State),
    s.head .service = some (f, .message k (.probe sequence mark)) →
    ∃ t, exec .probe s = .next t ∧
      (s.time.source = .unset → s.time.now ≤ mark →
        t.time =
          { now := mark, source := .tracking, epochOwed := s.boundariesOwed mark,
            dayOwed := s.time.dayOwed ++ [{ old := none, new := mark / 86400000 }] } ∧
          t.eventPending .timeSet = true ∧ RebasedBy s t (mark - s.time.now)) ∧
      (s.time.source = .unset → mark < s.time.now → t.time = s.time ∧ t.holds = s.holds ∧ t.eventPending .timeConflict = true) ∧
      (s.time.source ≠ .unset → mark ≤ s.time.now + s.mgmt.params.stepLimit → s.time.now ≤ mark + s.mgmt.params.stepLimit →
        t.time =
          { now := max s.time.now mark,
            source := if s.time.source = .holdover ∧ t.link.state = .up then .tracking else s.time.source,
            epochOwed := s.boundariesOwed (max s.time.now mark), dayOwed := s.daysOwed (max s.time.now mark) } ∧
          t.holds = s.holds ∧ t.fwd = s.fwd ∧ t.recon = s.recon ∧
          t.queues.entries =
            s.queues.entries.map
              (fun e => { e with stepPassed := e.stepPassed || decide (s.time.now < mark ∧ e.deadline ≤ mark) })) ∧
      (s.time.source ≠ .unset →
        s.time.now + s.mgmt.params.stepLimit < mark ∨ mark + s.mgmt.params.stepLimit < s.time.now →
        t.time = s.time ∧ t.holds = s.holds ∧ t.queues.entries = s.queues.entries ∧ t.eventPending .timeConflict = true)

/-- A window expiry and a bad PROBE are each a failure to hear the service, and move the link alike; the window is restarted, none
running in DOWN; a bad PROBE is dropped, counted and recorded, and an expiry in LOST sends an unsolicited ECHO (R141, R143, R149). That
a bad PROBE does not set the addresses of what the engine originates is the model's choice (log 14). -/
def Obligations.FailureMovesTheLink : Prop :=
  ∀ (c : Instr) (s : State), s.FailureTaken c →
    ∃ t, exec c s = .next t ∧ (s.link.state = .down → t.link.state = .down) ∧
      (∀ n, s.link.state = .arming .down n → t.link.state = .down) ∧ (∀ n, s.link.state = .arming .lost n → t.link.state = .lost) ∧
      (s.link.state = .up → t.link.state = .suspect 1) ∧ (s.link.state = .suspect 1 → t.link.state = .suspect 2) ∧
      (s.link.state = .suspect 2 → t.link.state = .lost) ∧ (s.link.state = .lost → t.link.state = .lost) ∧
      t.link.windowExpiry = (if t.link.state = .down then none else some s.windowFromNow) ∧
      t.link.lastBad = (if c = .probe then some s.clk else s.link.lastBad) ∧ t.link.lastSequence = s.link.lastSequence ∧
      (c = .probe →
        t.svc.intake = s.svc.intake.tail ∧ t.svc.stats.checkErrors = bump s.svc.stats.checkErrors ∧
          t.svc.stats.seatMessages = s.svc.stats.seatMessages) ∧
      (c = .windowExpiry → t.svc.intake = s.svc.intake) ∧ t.svc.peer = s.svc.peer ∧
      (t.link.state ≠ .lost ∨ s.link.state = .lost → t = { s with link := t.link, svc := t.svc }) ∧
      (t.link.state ≠ .lost ∨ (s.link.state = .lost ∧ c = .probe) → t.svc.upstream = s.svc.upstream) ∧
      (s.link.state = .lost → c = .windowExpiry → s.svc.upstream.length + s.reserved < 1024 →
        t.svc.upstream =
            s.svc.upstream ++
              [UpEntry.echo s.ownEth { node := 0, process := 0, tag := 0 }
                { sequence := s.link.lastSequence, mark := 0, solicited := false, digest := t.digest } s.link.echoError] ∧
          t.link.echoError = false)

/-- The entry into LOST: LINK_LOST is raised, the autonomy clock starts where it was stopped, a limit of 0 being reached at once,
every forward is answered UNREACHABLE in order, SHARED pools answer to D alone, and TRACKING gives HOLDOVER; holds are not touched
(R31, R120, R134, R145, R151). Where a window expiry made the entry, an unsolicited ECHO of the digest is sent, dropped and counted
where it finds no room; a bad PROBE sends none (R145, R148, R149). That this ECHO is formed behind LINK_LOST and the start of the
autonomy clock and before the other effects is the model's choice (log 17). -/
def Obligations.EntryIntoLostIsTaken : Prop :=
  ∀ (c : Instr) (s : State), s.FailureTaken c → AccountsListed s → OvercommitExact s → s.farm.replies.length ≤ 1024 →
    s.link.state = .suspect 2 ∨ (∃ n, s.link.state = .arming .lost n) →
    ∃ t, exec c s = .next t ∧ t.link.state = .lost ∧ t.eventPending .linkLost = true ∧
      t.link.autonomyStart = some (s.link.autonomyStart.getD s.clk) ∧
      t.link.autonomyPassed =
        (s.link.autonomyPassed || decide (s.link.autonomyStart = none ∧ s.mgmt.params.autonomyLimit = 0)) ∧
      (s.link.autonomyPassed = false → t.link.autonomyPassed = true → t.eventPending .autonomyExpired = true) ∧
      t.fwd = { s.fwd with entries := [] } ∧
      t.farm.replies =
        (s.farm.replies ++
          s.fwd.entries.map
            (fun e =>
              FarmEntry.reply { dst := e.addrs.src, src := e.addrs.dst, etype := s.mgmt.params.seatType } e.key .unreachable)).take
          1024 ∧
      (∀ p, t.acct p =
        { s.acct p with
          overcommit :=
            if (s.acct p).state = .shared then decide ((s.acct p).d < (s.acct p).h) else (s.acct p).overcommit }) ∧
      (∀ p, (s.acct p).overcommit = false → (t.acct p).overcommit = true → t.eventPending .poolOvercommit = true) ∧
      t.time = { s.time with source := if s.time.source = .tracking then .holdover else s.time.source } ∧
      (s.time.source = .tracking → t.eventPending .holdover = true) ∧ t.holds = s.holds ∧ t.queues = s.queues ∧ t.banks = s.banks ∧
      t.mode = s.mode ∧ t.recon = s.recon ∧ t.mgmt.params = s.mgmt.params ∧ t.farm.intake = s.farm.intake ∧
      ∃ before after digest, (∀ e ∈ before, UpEntry.isNotice e = true) ∧ (∀ e ∈ after, UpEntry.isNotice e = true) ∧
        digest =
          { s.digest with
            farEndDefect := true, autonomyRunning := true, autonomyPassed := t.link.autonomyPassed, link := .lost,
            autonomySeconds := (s.clk - s.link.autonomyStart.getD s.clk) / 156250 / 1000,
            pending :=
              s.mgmt.events ||| Event.linkLost.mask |||
                (if s.link.autonomyPassed = false ∧ t.link.autonomyPassed = true then Event.autonomyExpired.mask else 0) } ∧
        (c = .probe → t.svc.upstream = s.svc.upstream ++ before ++ after ∧ t.link.echoError = s.link.echoError) ∧
        (c = .windowExpiry → s.svc.upstream.length + before.length + s.reserved < 1024 →
          t.svc.upstream =
              s.svc.upstream ++ before ++
                [UpEntry.echo s.ownEth { node := 0, process := 0, tag := 0 }
                  { sequence := s.link.lastSequence, mark := 0, solicited := false, digest } s.link.echoError] ++ after ∧
            t.link.echoError = false) ∧
        (c = .windowExpiry → 1024 ≤ s.svc.upstream.length + before.length + s.reserved →
          t.svc.upstream = s.svc.upstream ++ before ++ after ∧ t.link.echoError = s.link.echoError ∧
            (s.svc.stats.droppedReplies < 4294967295 → s.svc.stats.droppedReplies < t.svc.stats.droppedReplies))

/-- A good PROBE in LOST lets SHARED pools answer to their ceilings again and asks for their passes; the third in ARMING from LOST
restores the link: LINK_RESTORED, the gap flag of every SHARED pool, the autonomy clock stopped, and, where autonomy passed was set,
a pass on every waiting pool (R146, R147). -/
def Obligations.LinkIsRegained : Prop :=
  ∀ (f : Frame) (k : Key) (sequence : Word) (mark : Nat) (s : State),
    s.head .service = some (f, .message k (.probe sequence mark)) → AccountsListed s →
    (s.link.state = .lost →
      ∃ t, exec .probe s = .next t ∧ t.link.state = .arming .lost 1 ∧ t.link.autonomyStart = s.link.autonomyStart ∧
        t.link.autonomyPassed = s.link.autonomyPassed ∧
        (∀ p, t.acct p =
          { s.acct p with
            overcommit :=
              if (s.acct p).state = .shared then decide (s.ceiling p < (s.acct p).h) else (s.acct p).overcommit }) ∧
        (∀ p, (s.acct p).state = .shared → (s.acct p).d < s.ceiling p → p ∈ t.queues.marks) ∧ t.farm = s.farm) ∧
      (s.link.state = .arming .lost 2 →
        ∃ t, exec .probe s = .next t ∧ t.link.state = .up ∧ t.eventPending .linkRestored = true ∧
          t.link.autonomyStart = none ∧ t.link.autonomyPassed = false ∧
          (∀ p, t.acct p = { s.acct p with gap := if (s.acct p).state = .shared then true else (s.acct p).gap }) ∧
          (∀ p, (s.acct p).state = .shared → (s.acct p).gap = false → t.eventPending .reportGap = true) ∧
          (s.link.autonomyPassed = true → ∀ e ∈ s.queues.entries, e.pool ∈ t.queues.marks) ∧
          (s.link.autonomyPassed = false → t.queues.marks = s.queues.marks) ∧ t.farm = s.farm)

/-- AUTONOMY_LIMIT_REACHED: the running clock at the limit sets autonomy passed and raises AUTONOMY_EXPIRED, once for each run; before
the limit, or where it is set already, nothing happens (R151; this last clause is the model's choice, log 1). -/
def Obligations.AutonomyLimitIsTakenOnce : Prop :=
  ∀ (s : State) (start : Nat), s.link.autonomyStart = some start →
    (s.mgmt.params.autonomyLimit * 1000 ≤ (s.clk - start) / 156250 → s.link.autonomyPassed = false →
      ∃ t, exec .autonomyLimitReached s = .next t ∧ t.link = { s.link with autonomyPassed := true } ∧
        t.eventPending .autonomyExpired = true ∧ OnlyRaised (s.setLink t.link) t) ∧
      (s.link.autonomyPassed = true ∨ (s.clk - start) / 156250 < s.mgmt.params.autonomyLimit * 1000 →
        exec .autonomyLimitReached s = .next s)

/-! ### Deadlines, passes, boundaries and day changes -/

/-- The hold deadlines: an ACTIVE hold goes STALE with its grace end as deadline, or is reclaimed at once where its grace is 0 and no
reconciliation runs; a STALE hold is reclaimed; a LINGERING hold ends (R68, R69, R70, R74). The deadline taken next is the least of
those reached that the present state lets be taken, the lowest slot where several are equal (R41, R72, R74). That a deadline which a rebase
to 2^48 − 1 has held at engine time counts as reached is the model's choice (log 45). -/
def Obligations.HoldDeadlinesAreTaken : Prop :=
  (∀ (slot : Nat) (h : Hold) (s : State), SlotsListed s →
    (s.nextDeadline = some (slot, h) ↔
      s.DeadlineReached slot h ∧
        ∀ n x, s.DeadlineReached n x → h.deadline < x.deadline ∨ (h.deadline = x.deadline ∧ slot ≤ n))) ∧
  ∀ (slot : Nat) (h : Hold) (s : State), s.nextDeadline = some (slot, h) → OvercommitExact s →
    (h.state = .active → (s.record h.pool).grace ≠ 0 ∨ s.mode = .entering ∨ s.mode = .reconciling →
      ∃ t, exec .renewDeadlineExpiry s = .next t ∧
        Table.get? t.holds.slots slot =
          some { h with state := .stale, deadline := min (h.deadline + (s.record h.pool).grace * 1000) (2 ^ 48 - 1) } ∧
        OtherSlots s t slot ∧ t = s.setHolds { s.holds with slots := t.holds.slots }) ∧
      (∀ c change, (h.state = .active ∧ (s.record h.pool).grace = 0 ∧ s.mode ≠ .entering ∧ s.mode ≠ .reconciling ∧
            c = Instr.renewDeadlineExpiry ∧ change = .reclaim) ∨
          (h.state = .stale ∧ c = Instr.graceEndReclaim ∧ change = .reclaim) ∨
          (h.state = .lingering ∧ c = Instr.lingerEnd ∧ change = .lingerEnd) →
        ∃ t, exec c s = .next t ∧ Removed s t slot h ∧ ReportsRemoval s t slot h change ∧
          t.mgmt.stats.reclaims = (if change = .reclaim then bump s.mgmt.stats.reclaims else s.mgmt.stats.reclaims) ∧
          t.farm = s.farm ∧ t.banks = s.banks ∧ t.time = s.time ∧ t.link = s.link ∧ t.recon = s.recon ∧ t.mode = s.mode)

/-- A wait deadline removes its entry, answered WAIT_EXPIRED, with a pass asked for where it was the head; a forward deadline removes
its forward, answered RETRY SERVICE_SLOW, and its key joins the late-key record (R92, R118). The one taken next is the least of those
reached, the first enqueued or created where several are equal (R93, R119). That a deadline which a rebase to 2^48 − 1 has held at engine
time counts as reached is the model's choice (log 45). -/
def Obligations.WaitAndForwardDeadlinesAreTaken : Prop :=
  (∀ (e : WaitEntry) (s : State), s.nextExpiry = some e ↔
    ∃ before after, s.queues.entries = before ++ e :: after ∧ e.deadline ≤ s.time.now ∧
      (∀ x ∈ before, e.deadline < x.deadline) ∧ ∀ x ∈ after, e.deadline ≤ x.deadline) ∧
  (∀ (e : Forward) (s : State), s.nextTimeout = some e ↔
    ∃ before after, s.fwd.entries = before ++ e :: after ∧ e.deadline ≤ s.time.now ∧
      (∀ x ∈ before, e.deadline < x.deadline) ∧ ∀ x ∈ after, e.deadline ≤ x.deadline) ∧
  (∀ (e : WaitEntry) (s : State), s.nextExpiry = some e →
      ∃ t, exec .waitDeadlineExpiry s = .next t ∧ Answers s t e.addrs e.key .waitExpired ∧
        t.queues.entries = s.queues.entries.eraseP (fun x => x.key = e.key) ∧
        t.acct e.pool = { s.acct e.pool with queueLength := (s.acct e.pool).queueLength - 1 } ∧ OtherAccounts s t e.pool ∧
        (s.isHead e = true → e.pool ∈ t.queues.marks) ∧ (s.isHead e = false → t.queues.marks = s.queues.marks) ∧
        t = { s with farm := t.farm, queues := t.queues, accounts := t.accounts } ∧ t.farm.intake = s.farm.intake) ∧
    (∀ (e : Forward) (s : State), s.nextTimeout = some e →
      ∃ t, exec .forwardDeadlineExpiry s = .next t ∧
        Answers s t e.addrs e.key (.retry .serviceSlow s.mgmt.params.retryHint) ∧
        t.fwd.entries = s.fwd.entries.eraseP (fun x => x.key = e.key) ∧
        (s.fwd.late.length < 64 → t.fwd.late = s.fwd.late ++ [e.key]) ∧
        (s.fwd.late.length = 64 → t.fwd.late = s.fwd.late.tail ++ [e.key]) ∧
        t.mgmt.stats = { s.mgmt.stats with forwardTimeouts := bump s.mgmt.stats.forwardTimeouts } ∧
        t = { s with farm := t.farm, fwd := t.fwd, mgmt := { s.mgmt with stats := t.mgmt.stats } } ∧
        t.farm.intake = s.farm.intake)

/-- QUEUE_SERVICE_PASS: blocked, it clears the marks and grants nothing; a head that does not fit under FIFO ends it; a grant that
lacks a slot stalls the pool; and the one entry that it reaches and that fits, the head or one that BACKFILL lets pass, is granted
(R83, R84, R85, R86, R88, R89). Unblocked, it clears the marks and the stalled flag and goes through the whole queue from the head as
R85 to R89 say, join targets priced afresh, several grants one after another; that an entry whose wait deadline a forward step has
reached counts as one that does not fit is deduced (R93, log 20); that where a wrapped generation makes its target a hold of another
pool, that pool is tested for fit and report room and charged, is the model's choice (log 41). -/
def Obligations.PassServesTheQueue : Prop :=
  ∀ (p : Nat) (s : State), p ∈ s.queues.marks → p ∉ s.queues.ordered ∨ s.queues.ordered.head? = some p →
    (s.mode = .draining ∨ s.mode = .entering ∨ s.mode = .reconciling ∨ s.mode = .faultHold ∨ s.link.autonomyPassed = true ∨
        (s.record p).validOn s.today = false →
      ∃ t, exec (.queueServicePass p) s = .next t ∧ p ∉ t.queues.marks ∧ p ∉ t.queues.ordered ∧
        (∀ q, q ≠ p → (q ∈ t.queues.marks ↔ q ∈ s.queues.marks)) ∧ t.queues.entries = s.queues.entries ∧
        t = { s with queues := t.queues }) ∧
      (s.mode = .serving ∨ s.mode = .unconfigured → s.link.autonomyPassed = false → (s.record p).validOn s.today = true →
        OvercommitExact s →
        ∃ t begun, exec (.queueServicePass p) s = .next t ∧
          begun =
            { s with
              accounts := begun.accounts,
              queues :=
                { s.queues with
                  marks := s.queues.marks.filter (fun q => decide (q ≠ p)),
                  ordered := s.queues.ordered.filter (fun q => decide (q ≠ p)) } } ∧
          begun.acct p = { s.acct p with stalled := false } ∧ OtherAccounts s begun p ∧
          PassWalk p false (s.poolQueue p) begun t) ∧
      (s.mode = .serving → s.link.autonomyPassed = false → (s.record p).validOn s.today = true →
        (∀ e rest, s.poolQueue p = e :: rest → (s.record p).policy = .fifo → e.target = none → s.fits p e.demand = false →
          ∃ t, exec (.queueServicePass p) s = .next t ∧ p ∉ t.queues.marks ∧ t.queues.entries = s.queues.entries ∧
            t.acct p = { s.acct p with stalled := false } ∧ t = { s with queues := t.queues, accounts := t.accounts }) ∧
        (∀ e rest, s.poolQueue p = e :: rest → e.target = none → e.stepPassed = false → s.fits p e.demand = true →
          s.tableFull = true →
          ∃ t, exec (.queueServicePass p) s = .next t ∧ (t.acct p).stalled = true ∧ t.eventPending .holdTableFull = true ∧
            t.queues.entries = s.queues.entries ∧ t.holds = s.holds ∧ t.farm = s.farm) ∧
        (∀ skipped e, s.poolQueue p = skipped ++ [e] → OvercommitExact s →
          (∀ x ∈ skipped, x.target = none ∧ s.fits p x.demand = false) →
          (∀ x, skipped.head? = some x →
            (s.record p).policy = .backfill ∧ s.time.now - x.enqueued < (s.record p).protectAge * 1000) →
          e.target = none → e.stepPassed = false → s.fits p e.demand = true → s.tableFull = false →
          ((s.acct p).state = .shared → s.seatRoom = true) →
          ∃ t i hold handle, exec (.queueServicePass p) s = .next t ∧ i = clampInterval (s.record p) e.interval ∧
            hold =
              { pool := p, node := e.key.node, process := e.key.process, tokens := e.demand, useCount := 1, state := .active,
                interval := i, deadline := min (s.time.now + i * 1000) (2 ^ 48 - 1), granted := s.time.now, tag := e.key.tag } ∧
            handle = { service := false, gen := s.generation s.lowestSlot, slot := s.lowestSlot } ∧
            Answers s t e.addrs e.key (.grant handle e.demand i hold.deadline) ∧
            Table.get? t.holds.slots s.lowestSlot = some hold ∧ OtherSlots s t s.lowestSlot ∧
            ChargedBy s t { s.acct p with stalled := false, queueLength := (s.acct p).queueLength - 1 } p e.demand 1 .grant hold
              handle ∧
            t.queues.entries = s.queues.entries.eraseP (fun x => x.key = e.key) ∧ p ∉ t.queues.marks ∧ t.fwd = s.fwd ∧
            FarmRequestFrame s t ∧ t.farm.intake = s.farm.intake))

/-- An EPOCH_BOUNDARY that has come about rolls every account's statistics and attempts the pending switch: held with the failing
test, or applied to the banks, the index, every account and every queue, with the answers WITHDRAWN and OUT_OF_WINDOW in pool-number
order and the passes the accounts ask for; none is attempted in reconciliation (R31, R32, R36, R94, R95, R128, R129, R137). That the
boundary is one that is owed, and leaves one fewer, is the model's choice (log 5). -/
def Obligations.EpochBoundaryRollsAndSwitches : Prop :=
  ∀ s : State, AccountsListed s → QueuesCounted s → 0 < s.time.epochOwed →
    ∃ t, exec .epochBoundary s = .next t ∧
      (∀ p, (t.acct p).grantsLast = (s.acct p).grantsThis ∧ (t.acct p).peakLast = (s.acct p).peakThis ∧ (t.acct p).grantsThis = 0 ∧
        (t.acct p).peakThis = 0) ∧
      t.time = { s.time with epochOwed := s.time.epochOwed - 1 } ∧ t.holds = s.holds ∧ t.fwd = s.fwd ∧ t.mode = s.mode ∧
      t.link = s.link ∧ t.recon = s.recon ∧ t.farm.intake = s.farm.intake ∧ t.svc.intake = s.svc.intake ∧
      (s.banks.pendingSwitch = none ∨ s.mode = .entering ∨ s.mode = .reconciling →
        (∀ p, t.acct p =
          { s.acct p with
            grantsLast := (s.acct p).grantsThis, peakLast := (s.acct p).peakThis, grantsThis := 0, peakThis := 0 }) ∧
          t = { s with accounts := t.accounts, time := t.time }) ∧
      (∀ pending failure, s.banks.pendingSwitch = some pending → s.mode ≠ .entering → s.mode ≠ .reconciling →
        s.switchFailure pending.expected = some failure →
        t.banks = { s.banks with pendingSwitch := some { pending with held := some failure } } ∧
          (∀ p, t.acct p =
            { s.acct p with
              grantsLast := (s.acct p).grantsThis, peakLast := (s.acct p).peakThis, grantsThis := 0, peakThis := 0 }) ∧
          t = { s with accounts := t.accounts, banks := t.banks, time := t.time }) ∧
      (∀ pending, s.banks.pendingSwitch = some pending → s.mode ≠ .entering → s.mode ≠ .reconciling →
        s.switchFailure pending.expected = none →
        t.banks =
            { active := some s.banks.shadow, shadow := s.banks.shadow, index := s.banks.shadow.index, pendingSwitch := none } ∧
          t.eventPending .bankSwitched = true ∧
          (∀ p, t.acct p =
            { s.acct p with
              grantsLast := (s.acct p).grantsThis, peakLast := (s.acct p).peakThis, grantsThis := 0, peakThis := 0, reassign := false,
              overcommit := decide (t.effectiveCeiling p < (s.acct p).h), queueLength := (t.poolQueue p).length }) ∧
          (∀ p, t.poolQueue p =
            (if s.time.source ≠ .unset ∧ (t.record p).endDay ≠ 65535 ∧ (t.record p).endDay < s.time.now / 86400000 then []
            else (s.poolQueue p).take (t.record p).queueLimit)) ∧
          (∀ p, (s.acct p).overcommit = false → (t.acct p).overcommit = true → t.eventPending .poolOvercommit = true) ∧
          (∀ p, p ∈ t.queues.marks ↔
            p ∈ s.queues.marks ∨
              ((s.acct p).state ≠ .absent ∧
                (s.ceiling p < t.ceiling p ∨ s.effectiveCeiling p < t.effectiveCeiling p ∨
                  ((s.acct p).overcommit = true ∧ (t.acct p).overcommit = false)))) ∧
          ∀ pools, PoolOrder s pools →
            AnswersAll s t
              (pools.flatMap
                (fun p =>
                  ((s.poolQueue p).drop (t.record p).queueLimit).map (fun e => (e, FarmBody.withdrawn)) ++
                    (if s.time.source ≠ .unset ∧ (t.record p).endDay ≠ 65535 ∧ (t.record p).endDay < s.time.now / 86400000 then
                      ((s.poolQueue p).take (t.record p).queueLimit).map (fun e => (e, FarmBody.deny .outOfWindow))
                    else []))))

/-- A DAY_CHANGE that has come about denies OUT_OF_WINDOW every entry of the pools whose bounded end day lies below the new day, and
asks for a pass on the pools that come into their window; holds are untouched (R94, R138). That day changes are owed, and the oldest
alone is taken, the rest staying owed, is the model's choice (log 5). -/
def Obligations.DayChangeClosesAndOpensPools : Prop :=
  ∀ (d : DayOwed) (rest : List DayOwed) (s : State), QueuesCounted s → s.time.dayOwed = d :: rest →
    ∃ t, exec .dayChange s = .next t ∧ t.time = { s.time with dayOwed := rest } ∧
      (∀ p, t.poolQueue p =
        if (s.record p).endDay ≠ 65535 ∧ (s.record p).endDay < d.new then [] else s.poolQueue p) ∧
      (∀ e ∈ s.queues.entries, (s.record e.pool).endDay ≠ 65535 → (s.record e.pool).endDay < d.new →
        s.farm.replies.length + s.queues.entries.length ≤ 1024 →
        FarmEntry.reply { dst := e.addrs.src, src := e.addrs.dst, etype := s.mgmt.params.seatType } e.key (.deny .outOfWindow) ∈
          t.farm.replies) ∧
      (∀ p r, s.record? p = some r → r.validOn d.old = false → r.validOn (some d.new) = true → p ∈ t.queues.marks) ∧
      (∀ p, p ∈ s.queues.marks → p ∈ t.queues.marks) ∧ t.holds = s.holds ∧ t.fwd = s.fwd ∧ t.banks = s.banks ∧ t.mode = s.mode ∧
      t.link = s.link

/-! ### Management requests -/

/-- The reading requests answer with what they read and change nothing else: IDENTIFY, READ_STATUS, READ_POOL, LIST_HOLDS,
LIST_QUEUE and IMAGE_READ (R78, R97, R161, R185, R186, R187). READ_STATUS reads the ports as they stand once it has been taken
itself. It shows the autonomy clock in the milliseconds that the clock counts (R140, R151); that it shows none while the clock is stopped is
deduced (log 30). -/
def Obligations.ReadingRequestsAnswer : Prop :=
  ∀ (f : Frame) (k : Key) (s : State),
    (Manages s f k .identify →
      exec .identify s = .next (onlyAnswered s f k { kind := .identify, status := .ok, body := .identity s.mgmt.cause })) ∧
      (Manages s f k .readStatus →
        exec .readStatus s =
          .next
            (onlyAnswered s f k
              { kind := .readStatus, status := .ok,
                body :=
                  .status
                    { engine := s.mode, cause := s.mgmt.cause, faultOffset := s.recon.faultOffset,
                      activePresent := decide (s.banks.active ≠ none),
                      activeFilled := (s.banks.active.map (fun b => b.records.length)).getD 0,
                      shadowFilled := s.banks.shadow.records.length,
                      activeRanges := (s.banks.active.map (fun b => b.ranges.length)).getD 0,
                      shadowRanges := s.banks.shadow.ranges.length, pendingSwitch := decide (s.banks.pendingSwitch ≠ none),
                      heldSwitch := s.banks.pendingSwitch.bind (fun x => x.held), source := s.time.source, now := s.time.now,
                      epoch := epochNumber s.time.now s.mgmt.params.epochPeriod, day := s.time.now / 86400000, link := s.link.state,
                      lastSequence := s.link.lastSequence,
                      autonomyMs := s.link.autonomyStart.map (fun start => (s.clk - start) / 156250),
                      autonomyPassed := s.link.autonomyPassed, echoError := s.link.echoError, latch := s.recon.latch,
                      entryTime := s.recon.entryTime, imageLength := s.recon.image.map (fun i => i.length),
                      occupied := s.holds.slots.length, waiting := s.queues.entries.length, forwarding := s.fwd.entries.length,
                      farmIntake := s.farm.intake.length, serviceIntake := s.svc.intake.length - 1,
                      farmReplies := s.farm.replies.length,
                      upstreamSeat := (s.svc.upstream.filter UpEntry.seatTraffic).length, upstreamAll := s.svc.upstream.length,
                      farmPaused := s.farm.paused, servicePaused := decide (s.svc.pauseEnd ≠ none), pending := s.mgmt.events,
                      notify := s.mgmt.notify, params := s.mgmt.params, farmStats := s.farm.stats,
                      serviceStats := { s.svc.stats with seatMessages := bump s.svc.stats.seatMessages },
                      stats := s.mgmt.stats } })) ∧
      (∀ p, Manages s f k (.readPool p) →
        (p < 1024 →
          exec .readPool s =
            .next
              (onlyAnswered s f k
                { kind := .readPool, status := .ok,
                  body :=
                    .pool
                      { feature := ((s.record? p).map (fun r => r.feature)).getD 0, account := s.acct p, allowance := s.allowance p,
                        ceiling := s.ceiling p, effectiveCeiling := s.effectiveCeiling p,
                        free := s.effectiveCeiling p - (s.acct p).h, overdraftInUse := (s.acct p).h - (s.acct p).d,
                        forwards :=
                          if ((s.record? p).map (fun r => r.feature)).getD 0 = 0 then 0
                          else
                            (s.fwd.entries.filter
                              (fun e => decide (e.kind = .checkout ∧ e.feature = ((s.record? p).map (fun r => r.feature)).getD 0))).length } })) ∧
          (1024 ≤ p → exec .readPool s = .next (onlyAnswered s f k { kind := .readPool, status := .badRequest, body := .empty }))) ∧
      (∀ p page, Manages s f k (.listHolds p page) →
        (p < 1024 →
          exec .listHolds s =
            .next
              (onlyAnswered s f k
                { kind := .listHolds, status := .ok,
                  body :=
                    .holds p page (s.acct p).holdCount ((((s.holdsOf p).drop (28 * page)).take 28).map s.holdLine) })) ∧
          (1024 ≤ p →
            exec .listHolds s = .next (onlyAnswered s f k { kind := .listHolds, status := .badRequest, body := .empty }))) ∧
      (∀ p page, Manages s f k (.listQueue p page) →
        (p < 1024 →
          exec .listQueue s =
            .next
              (onlyAnswered s f k
                { kind := .listQueue, status := .ok,
                  body :=
                    .queue p page (s.acct p).queueLength (s.acct p).stalled
                      ((((s.poolQueue p).drop (24 * page)).take 24).mapIdx (fun i e => queueLine (24 * page + i + 1) e)) })) ∧
          (1024 ≤ p →
            exec .listQueue s = .next (onlyAnswered s f k { kind := .listQueue, status := .badRequest, body := .empty }))) ∧
      (∀ offset count, Manages s f k (.imageRead offset count) →
        (s.mode ≠ .reconciling →
          exec .imageRead s = .next (onlyAnswered s f k { kind := .imageRead, status := .badState, body := .empty })) ∧
          (∀ image, s.mode = .reconciling → s.recon.image = some image →
            (1 ≤ count → count ≤ 255 → offset + count ≤ image.length →
              exec .imageRead s =
                .next
                  (onlyAnswered s f k
                    { kind := .imageRead, status := .ok, body := .words ((image.drop offset).take count) })) ∧
              (count = 0 ∨ 255 < count ∨ image.length < offset + count →
                exec .imageRead s =
                  .next (onlyAnswered s f k { kind := .imageRead, status := .badRequest, body := .empty }))))

/-- A management request other than RESTART that finds no place for its reply is dropped unanswered, counted, and not carried out
(R184). -/
def Obligations.RequestWithoutRoomIsDropped : Prop :=
  ∀ (f : Frame) (k : Key) (r : MgmtRequest) (s : State), s.headRequest = some (f, k, r) → r.command ≠ .restart →
    1024 ≤ s.svc.upstream.length + s.reserved →
    exec r.command s =
      .next
        { s with
          svc := s.svc.took f [],
          mgmt := { s.mgmt with stats := { s.mgmt.stats with droppedManagement := bump s.mgmt.stats.droppedManagement } } }

/-- SET_PARAMETERS clamps what is present, counts the values clamped and keeps the rest, gives a boundary where the epoch number changes,
and holds the limit against the running autonomy clock; SET_NOTIFY, CLEAR_EVENTS and INJECT_ECHO_ERROR write their one item (R137,
R151, R153, R188, R190, R191). That the boundary is owed, and taken by a command of its own, is the model's choice (log 5). -/
def Obligations.SettingRequestsWrite : Prop :=
  ∀ (f : Frame) (k : Key) (s : State),
    (∀ present v, Manages s f k (.setParameters present v) →
      ∃ t n, exec .setParameters s = .next t ∧
        t.mgmt.params =
          { seatType := if present.testBit 0 then v.seatType else s.mgmt.params.seatType,
            probeInterval := if present.testBit 1 then min 10000 (max 100 v.probeInterval) else s.mgmt.params.probeInterval,
            forwardTimeout := if present.testBit 2 then min 5000 (max 50 v.forwardTimeout) else s.mgmt.params.forwardTimeout,
            epochPeriod := if present.testBit 3 then min 60 (max 1 v.epochPeriod) else s.mgmt.params.epochPeriod,
            autonomyLimit := if present.testBit 4 then min 259200 v.autonomyLimit else s.mgmt.params.autonomyLimit,
            stepLimit := if present.testBit 5 then min 60000 (max 100 v.stepLimit) else s.mgmt.params.stepLimit,
            retryHint := if present.testBit 6 then min 10000 (max 10 v.retryHint) else s.mgmt.params.retryHint } ∧
        n =
            (if present.testBit 1 = true ∧ (v.probeInterval < 100 ∨ 10000 < v.probeInterval) then 1 else 0) +
              (if present.testBit 2 = true ∧ (v.forwardTimeout < 50 ∨ 5000 < v.forwardTimeout) then 1 else 0) +
              (if present.testBit 3 = true ∧ (v.epochPeriod < 1 ∨ 60 < v.epochPeriod) then 1 else 0) +
              (if present.testBit 4 = true ∧ 259200 < v.autonomyLimit then 1 else 0) +
              (if present.testBit 5 = true ∧ (v.stepLimit < 100 ∨ 60000 < v.stepLimit) then 1 else 0) +
              (if present.testBit 6 = true ∧ (v.retryHint < 10 ∨ 10000 < v.retryHint) then 1 else 0) ∧
        (s.svc.upstream ++
            [UpEntry.reply (ethTo f t) k
              { kind := .setParameters, status := if n = 0 then .ok else .okClamped,
                body := .parameters n t.mgmt.params }]) <+:
          t.svc.upstream ∧
        t.time =
          { s.time with
            epochOwed :=
              if epochNumber s.time.now s.mgmt.params.epochPeriod = epochNumber s.time.now t.mgmt.params.epochPeriod then
                s.time.epochOwed
              else s.time.epochOwed + 1 } ∧
        (∀ start, s.link.autonomyStart = some start →
          t.mgmt.params.autonomyLimit * 1000 ≤ (s.clk - start) / 156250 → s.link.autonomyPassed = false →
          t.link.autonomyPassed = true ∧ t.eventPending .autonomyExpired = true) ∧
        (s.link.autonomyStart = none → t.link = s.link) ∧ t.link = { s.link with autonomyPassed := t.link.autonomyPassed } ∧
        t.mgmt.notify = s.mgmt.notify ∧ t.mgmt.stats = s.mgmt.stats ∧
        t = { s with svc := t.svc, mgmt := t.mgmt, link := t.link, time := t.time }) ∧
      (∀ set, Manages s f k (.setNotify set) →
        exec .setNotify s =
          .next
            ((onlyAnswered s f k { kind := .setNotify, status := .ok, body := .notify set s.mgmt.events }).setMgmt
              { s.mgmt with notify := set })) ∧
      (∀ set, Manages s f k (.clearEvents set) →
        exec .clearEvents s =
          .next
            ((onlyAnswered s f k { kind := .clearEvents, status := .ok, body := .events (s.mgmt.events &&& ~~~set) }).setMgmt
              { s.mgmt with events := s.mgmt.events &&& ~~~set })) ∧
      (Manages s f k .injectEchoError →
        exec .injectEchoError s =
          .next
            ((onlyAnswered s f k { kind := .injectEchoError, status := .ok, body := .empty }).setLink
              { s.link with echoError := true }))

/-- LOAD_POOLS and LOAD_GROUPS refuse a message with its first fault and write nothing, or write every record and range into SHADOW;
CLEAR_SHADOW empties SHADOW; the ACTIVE bank, its index and a pending switch stay (R15, R16, R17, R123, R124, R128). That an empty
record is never at fault, whatever its pool number, is the model's reading of R17 (log 33); that a LOAD_GROUPS body too short for its
ranges names position 0 is the model's choice (log 12). The fields are read from the message's bytes (R181), clamped to their ranges, each
clamp counted (R2, R16), and the faults of a filled record are those of R17. That the replies of LOAD_POOLS and CLEAR_SHADOW carry no count
of SHADOW, for all that R122 may be read to ask, is the model's choice (log 47). -/
def Obligations.LoadingRequestsWriteShadow : Prop :=
  (∀ (count i : Nat) (items : List Byte), i < count →
    (carriedRecords count items)[i]? =
        some
          { pool := field items (44 * i) 2, feature := field items (44 * i + 2) 3, versionFloor := field items (44 * i + 6) 2,
            versionCeiling := field items (44 * i + 8) 2, tokensPerSeat := field items (44 * i + 10) 2,
            coreStep := field items (44 * i + 12) 2, coreCap := field items (44 * i + 14) 2,
            overdraft := field items (44 * i + 16) 2, groupMask := wordAt items (44 * i + 18), sharing := field items (44 * i + 22) 1,
            policy := field items (44 * i + 23) 1, renewMin := field items (44 * i + 24) 2, renewMax := field items (44 * i + 26) 2,
            grace := field items (44 * i + 28) 2, linger := field items (44 * i + 30) 4, queueLimit := field items (44 * i + 34) 2,
            maxWait := field items (44 * i + 36) 2, protectAge := field items (44 * i + 38) 2, startDay := field items (44 * i + 40) 2,
            endDay := field items (44 * i + 42) 2 } ∧
      (carriedRanges count items)[i]? =
        some { low := wordAt items (10 * i), high := wordAt items (10 * i + 4), group := field items (10 * i + 8) 1 }) ∧
  (∀ r : CarriedRecord,
    (r.atFault = true ↔
      r.feature ≠ 0 ∧
        (1023 < r.pool ∨ (r.sharing ≠ 1 ∧ r.sharing ≠ 2) ∨ (r.policy ≠ 1 ∧ r.policy ≠ 2) ∨ r.versionCeiling < r.versionFloor ∨
          min 3600 (max 10 r.renewMax) < min 3600 (max 10 r.renewMin))) ∧
      (r.feature ≠ 0 → r.atFault = false →
        r.taken =
          some
            { feature := r.feature, versionFloor := r.versionFloor, versionCeiling := r.versionCeiling,
              tokensPerSeat := min 64 (max 1 r.tokensPerSeat), coreStep := min 256 r.coreStep, coreCap := min 64 (max 1 r.coreCap),
              overdraft := min 500 r.overdraft, groupMask := r.groupMask, sharing := if r.sharing = 1 then .perProcess else .perNode,
              renewMin := min 3600 (max 10 r.renewMin), renewMax := min 3600 (max 10 r.renewMax), grace := min 600 r.grace,
              linger := min 86400 r.linger, queueLimit := min 255 r.queueLimit, maxWait := min 3600 r.maxWait,
              policy := if r.policy = 1 then .fifo else .backfill, protectAge := min 600 r.protectAge, startDay := r.startDay,
              endDay := r.endDay }) ∧
      r.clamps =
        (if r.tokensPerSeat < 1 ∨ 64 < r.tokensPerSeat then 1 else 0) + (if 256 < r.coreStep then 1 else 0) +
          (if r.coreCap < 1 ∨ 64 < r.coreCap then 1 else 0) + (if 500 < r.overdraft then 1 else 0) +
          (if r.renewMin < 10 ∨ 3600 < r.renewMin then 1 else 0) + (if r.renewMax < 10 ∨ 3600 < r.renewMax then 1 else 0) +
          (if 600 < r.grace then 1 else 0) + (if 86400 < r.linger then 1 else 0) + (if 255 < r.queueLimit then 1 else 0) +
          (if 3600 < r.maxWait then 1 else 0) + (if 600 < r.protectAge then 1 else 0)) ∧
  ∀ (f : Frame) (k : Key) (s : State),
    (∀ count items, Manages s f k (.loadPools count items) →
      (count = 0 ∨ 8 < count ∨ items.length < 44 * count →
        exec .loadPools s =
          .next (onlyAnswered s f k { kind := .loadPools, status := .badRequest, body := .position 0 })) ∧
        (∀ before r after, 1 ≤ count → count ≤ 8 → 44 * count ≤ items.length →
          carriedRecords count items = before ++ r :: after → (∀ x ∈ before, x.atFault = false) → r.atFault = true →
          exec .loadPools s =
            .next
              (onlyAnswered s f k { kind := .loadPools, status := .badRequest, body := .position (before.length + 1) })) ∧
        (1 ≤ count → count ≤ 8 → 44 * count ≤ items.length → (∀ x ∈ carriedRecords count items, x.atFault = false) →
          ∃ t n, exec .loadPools s = .next t ∧
            t =
              { onlyAnswered s f k
                  { kind := .loadPools, status := if n = 0 then .ok else .okClamped, body := .clampedCount n } with
                banks := { s.banks with shadow := { s.banks.shadow with records := t.banks.shadow.records } } } ∧
            n = ((carriedRecords count items).map (fun r => if r.feature = 0 then 0 else r.clamps)).sum ∧
            (∀ before r after, carriedRecords count items = before ++ r :: after → (∀ x ∈ after, x.pool ≠ r.pool) →
              Table.get? t.banks.shadow.records r.pool = if r.feature = 0 then none else r.taken) ∧
            (∀ p, (∀ x ∈ carriedRecords count items, x.pool ≠ p) →
              Table.get? t.banks.shadow.records p = Table.get? s.banks.shadow.records p))) ∧
      (∀ count items, Manages s f k (.loadGroups count items) →
        (count = 0 ∨ 32 < count ∨ items.length < 10 * count →
          exec .loadGroups s =
            .next (onlyAnswered s f k { kind := .loadGroups, status := .badRequest, body := .position 0 })) ∧
          (∀ before r after, 1 ≤ count → count ≤ 32 → 10 * count ≤ items.length →
            carriedRanges count items = before ++ r :: after → (∀ x ∈ before, x.group ≤ 31) → 31 < r.group →
            exec .loadGroups s =
              .next
                (onlyAnswered s f k { kind := .loadGroups, status := .badRequest, body := .position (before.length + 1) })) ∧
          (1 ≤ count → count ≤ 32 → 10 * count ≤ items.length → (∀ x ∈ carriedRanges count items, x.group ≤ 31) →
            (512 < s.banks.shadow.ranges.length + count →
              exec .loadGroups s =
                .next
                  (onlyAnswered s f k
                    { kind := .loadGroups, status := .noRoom, body := .rangeCount s.banks.shadow.ranges.length })) ∧
            (s.banks.shadow.ranges.length + count ≤ 512 →
              exec .loadGroups s =
                .next
                  ((onlyAnswered s f k
                      { kind := .loadGroups, status := .ok,
                        body := .rangeCount (s.banks.shadow.ranges.length + count) }).setBanks
                    { s.banks with
                      shadow :=
                        { s.banks.shadow with ranges := s.banks.shadow.ranges ++ carriedRanges count items } })))) ∧
      (Manages s f k .clearShadow →
        exec .clearShadow s =
          .next
            ((onlyAnswered s f k { kind := .clearShadow, status := .ok, body := .empty }).setBanks
              { s.banks with shadow := { records := [], ranges := [] } }))

/-- A SWITCH that fails a test is refused with the test and the item and changes nothing; one that passes is applied at once where no
ACTIVE bank is present, the engine then SERVING, else becomes pending with the reassign-pending flags of the pools whose feature
changes, in place of an earlier one's (R125, R126, R127, R129). The tests are made in R125's order, each naming the item it says
(that ranges count from 1 is the model's choice, log 12, and that a reply carries no count beside what R125 to R127 list is log 47's). -/
def Obligations.SwitchIsRefusedAppliedOrPending : Prop :=
  ∀ (f : Frame) (k : Key) (expected : Nat) (s : State), Manages s f k (.switch expected) → AccountsListed s →
    (s.banks.shadow.records.length ≠ expected →
      s.switchFailure expected = some { test := .recordCount, item := s.banks.shadow.records.length }) ∧
      (s.banks.shadow.records.length = expected →
        (∀ p, NinthAt s.banks.shadow.records p → s.switchFailure expected = some { test := .matchSetSize, item := p }) ∧
          ((∀ p, ¬NinthAt s.banks.shadow.records p) →
            (∀ n, OverlapAt s.banks.shadow.ranges n →
              s.switchFailure expected = some { test := .rangeOverlap, item := n }) ∧
              ((∀ n, ¬OverlapAt s.banks.shadow.ranges n) →
                (∀ p, s.ReassignedAt p → s.switchFailure expected = some { test := .reassignment, item := p }) ∧
                  ((∀ p, ¬s.ReassignedAt p) → s.switchFailure expected = none)))) ∧
      s.changedPools.Pairwise (· < ·) ∧ (∀ p, p ∈ s.changedPools ↔ s.FeatureChanges p) ∧
      (∀ failure, s.switchFailure expected = some failure →
        exec .switch s =
          .next (onlyAnswered s f k { kind := .switch, status := .conflict, body := .switchRefused failure })) ∧
      (s.switchFailure expected = none → s.banks.active = none →
        ∃ t, exec .switch s = .next t ∧ Answered s t f k { kind := .switch, status := .ok, body := .switchApplied } ∧
          t.mode = .serving ∧
          t.banks =
            { active := some s.banks.shadow, shadow := s.banks.shadow, index := s.banks.shadow.index, pendingSwitch := none } ∧
          t.eventPending .bankSwitched = true ∧ t.holds = s.holds ∧ t.fwd = s.fwd ∧ t.time = s.time ∧ t.link = s.link ∧
          (s.accounts = [] → s.queues.entries = [] → t.accounts = [] ∧ t.queues = s.queues ∧ t.farm = s.farm)) ∧
      (∀ active, s.switchFailure expected = none → s.banks.active = some active →
        ∃ t, exec .switch s = .next t ∧
          t =
            { onlyAnswered s f k
                { kind := .switch, status := .ok, body := .switchPending s.changedPools.length } with
              banks := { s.banks with pendingSwitch := some { expected, held := none } }, accounts := t.accounts } ∧
          ∀ p, t.acct p = { s.acct p with reassign := decide (p ∈ s.changedPools) })

/-- DELEGATE is refused by the first test that fails, else sets D and the mode, settles the pool and lets the account respond; CENSUS
summarises its run of pools and, in SERVING, DRAINING and FAULT_HOLD, settles them (R100 to R106). That a CENSUS from a pool above 1023
is refused for its number before the state is tested (log 38), and that the DELEGATE reply carries what R104 lists and not the
delegation state that R99 sees in it (log 12), are the model's choices. -/
def Obligations.DelegateAndCensusSettle : Prop :=
  ∀ (f : Frame) (k : Key) (s : State),
    (∀ p d mode, Manages s f k (.delegate p d mode) →
      ((mode ≠ 1 ∧ mode ≠ 2) ∨ 1024 ≤ p →
        exec .delegate s = .next (onlyAnswered s f k { kind := .delegate, status := .badRequest, body := .empty })) ∧
        (mode = 1 ∨ mode = 2 → p < 1024 → s.mode ≠ .serving → s.mode ≠ .draining →
          exec .delegate s = .next (onlyAnswered s f k { kind := .delegate, status := .badState, body := .empty })) ∧
        (mode = 1 ∨ mode = 2 → p < 1024 → s.mode = .serving ∨ s.mode = .draining →
          (s.record? p = none →
            exec .delegate s = .next (onlyAnswered s f k { kind := .delegate, status := .notFound, body := .empty })) ∧
          (s.record? p ≠ none → (s.acct p).reassign = true →
            exec .delegate s = .next (onlyAnswered s f k { kind := .delegate, status := .conflict, body := .empty })) ∧
          (s.record? p ≠ none → (s.acct p).reassign = false →
            ∃ t, exec .delegate s = .next t ∧
              Answered s t f k
                { kind := .delegate, status := .ok,
                  body := .delegated d (s.acct p).h (s.acct p).holdCount (s.acct p).queueLength } ∧
              t.acct p =
                { s.acct p with
                  state := if mode = 1 then .shared else .sole, d, reported := (s.acct p).h, gap := false,
                  peak := (s.acct p).h - d, overcommit := decide (t.effectiveCeiling p < (s.acct p).h) } ∧
              OtherAccounts s t p ∧
              ((s.acct p).overcommit = false → t.effectiveCeiling p < (s.acct p).h → t.eventPending .poolOvercommit = true) ∧
              (s.ceiling p < t.ceiling p ∨ s.effectiveCeiling p < t.effectiveCeiling p → p ∈ t.queues.marks) ∧
              t.holds = s.holds ∧ t.queues.entries = s.queues.entries ∧ t.fwd = s.fwd ∧ t.banks = s.banks ∧ t.mode = s.mode ∧
              t.farm = s.farm))) ∧
      (∀ first count, Manages s f k (.census first count) →
        (1024 ≤ first →
          exec .census s = .next (onlyAnswered s f k { kind := .census, status := .badRequest, body := .empty })) ∧
          (first < 1024 → s.mode = .unconfigured →
            exec .census s = .next (onlyAnswered s f k { kind := .census, status := .badState, body := .empty })) ∧
          (first < 1024 → s.mode ≠ .unconfigured →
            ∃ t n settles, exec .census s = .next t ∧ n = min (min 32 (max 1 count)) (1024 - first) ∧
              settles = decide (s.mode = .serving ∨ s.mode = .draining ∨ s.mode = .faultHold) ∧
              t =
                { onlyAnswered s f k
                    { kind := .census, status := if 1 ≤ count ∧ count ≤ 32 then .ok else .okClamped,
                      body := .census ((List.range n).map (fun i => s.summary (first + i))) settles } with
                  accounts := t.accounts } ∧
              ∀ p, t.acct p =
                if settles = true ∧ first ≤ p ∧ p < first + n ∧ (s.acct p).state ≠ .absent then
                  { s.acct p with
                    state := if (s.acct p).state = .soleChanged then .sole else (s.acct p).state, reported := (s.acct p).h,
                    gap := false, peak := (s.acct p).h - (s.acct p).d }
                else s.acct p))

/-- REVOKE is refused outside SERVING and DRAINING and for want of room, answers an ABSENT pool with zeros, and else sends the pool's
holds in TRANSFER frames, answers with the totals as they stood, removes the holds and the entries, and clears the account. Of the
entries, in queue order, as many as find room are handed on as rebuilt CHECKOUTs with their forwards, none while the link is LOST, and
the others are answered RETRY NO_ROOM (R21, R96, R111, R112, R113, R114, R116). That a pool above 1023 is refused for its number before
the state is tested is the model's choice (log 38). -/
def Obligations.RevokeHandsThePoolBack : Prop :=
  ∀ (f : Frame) (k : Key) (p n m : Nat) (s : State), Manages s f k (.revoke p) → n = ((s.holdsOf p).length + 39) / 40 →
    m =
        (if s.link.state = .lost then 0
        else
          min (s.poolQueue p).length
            (min (256 - s.fwd.entries.length) (min (992 - (s.seatCount + n)) (1024 - (s.svc.upstream.length + n + 1))))) →
    (1024 ≤ p → exec .revoke s = .next (onlyAnswered s f k { kind := .revoke, status := .badRequest, body := .empty })) ∧
      (p < 1024 → s.mode ≠ .serving → s.mode ≠ .draining →
        exec .revoke s = .next (onlyAnswered s f k { kind := .revoke, status := .badState, body := .empty })) ∧
      (p < 1024 → s.mode = .serving ∨ s.mode = .draining → (s.acct p).state = .absent →
        exec .revoke s = .next (onlyAnswered s f k { kind := .revoke, status := .ok, body := .revoked .absent 0 0 0 0 0 })) ∧
      (p < 1024 → s.mode = .serving ∨ s.mode = .draining → (s.acct p).state ≠ .absent →
        992 < s.seatCount + n ∨ 1024 < s.svc.upstream.length + n + 1 →
        exec .revoke s = .next (onlyAnswered s f k { kind := .revoke, status := .noRoom, body := .frames n })) ∧
      (p < 1024 → s.mode = .serving ∨ s.mode = .draining → (s.acct p).state ≠ .absent → s.seatCount + n ≤ 992 →
        s.svc.upstream.length + n + 1 ≤ 1024 → SlotsListed s → QueuesCounted s →
        ∃ t, exec .revoke s = .next t ∧
          t.svc =
              s.svc.took f
                ((List.range n).map
                    (fun i =>
                      UpEntry.transfer (ethTo f s) k
                        { pool := p, number := i + 1, count := n,
                          holds := (((s.holdsOf p).drop (i * 40)).take 40).map s.transferHold }) ++
                  [replyTo f s.mgmt.params.seatType k
                    { kind := .revoke, status := .ok,
                      body :=
                        .revoked (s.acct p).state (s.acct p).d (s.acct p).h (s.acct p).holdCount (s.acct p).queueLength n }] ++
                  ((s.poolQueue p).take m).map (s.handedOn (ethTo f s))) ∧
          t.fwd = { s.fwd with entries := s.fwd.entries ++ ((s.poolQueue p).take m).map s.handedForward } ∧
          t.mgmt.stats = { s.mgmt.stats with forwards := counted s.mgmt.stats.forwards m } ∧
          AnswersAll s t (((s.poolQueue p).drop m).map (fun e => (e, FarmBody.retry .noRoom s.mgmt.params.retryHint))) ∧
          t.acct p = Account.cleared ∧ OtherAccounts s t p ∧
          t.holds.slots = s.holds.slots.filter (fun e => e.2.pool ≠ p) ∧
          (∀ slot, t.generation slot =
            if (s.holdsOf p).any (fun e => e.1 = slot) = true then (s.generation slot + 1) % 32768 else s.generation slot) ∧
          t.queues.entries = s.queues.entries.filter (fun e => e.pool ≠ p) ∧ t.farm.intake = s.farm.intake ∧ Quiet t ∧
          t.banks = s.banks ∧ t.mode = s.mode ∧ t.time = s.time)

/-- EVICT removes the hold it names in any state, with credit and report before its reply; it is refused in reconciliation and
FAULT_HOLD, and names none otherwise (R76, R77). -/
def Obligations.EvictRemovesTheHold : Prop :=
  ∀ (f : Frame) (k : Key) (handle : Handle) (s : State), Manages s f k (.evict handle) → OvercommitExact s →
    (s.mode = .entering ∨ s.mode = .reconciling ∨ s.mode = .faultHold →
      exec .evict s = .next (onlyAnswered s f k { kind := .evict, status := .badState, body := .empty })) ∧
      (s.mode = .serving ∨ s.mode = .draining ∨ s.mode = .unconfigured → s.namedHold handle = none →
        exec .evict s = .next (onlyAnswered s f k { kind := .evict, status := .notFound, body := .empty })) ∧
      (∀ h, s.mode = .serving ∨ s.mode = .draining ∨ s.mode = .unconfigured → s.namedHold handle = some h →
        ∃ t, exec .evict s = .next t ∧ Removed s t handle.slot h ∧
          ((s.acct h.pool).state ≠ .shared →
            t.svc =
              s.svc.took f
                [replyTo f s.mgmt.params.seatType k
                  { kind := .evict, status := .ok, body := .evicted h.pool h.node h.process h.tokens h.state h.useCount }]) ∧
          ((s.acct h.pool).state = .shared → s.seatCount < 992 → s.svc.upstream.length + 1 < 1024 →
            t.svc =
                s.svc.took f
                  [releaseReport (ethTo f s) s handle.slot h .evict,
                    replyTo f s.mgmt.params.seatType k
                      { kind := .evict, status := .ok,
                        body := .evicted h.pool h.node h.process h.tokens h.state h.useCount }] ∧
              (t.acct h.pool).gap = false ∧ (t.acct h.pool).reported = (s.acct h.pool).h - h.tokens) ∧
          ((s.acct h.pool).state = .shared → 992 ≤ s.seatCount ∨ 1024 ≤ s.svc.upstream.length + 1 →
            (t.acct h.pool).gap = true ∧
              Answered s t f k
                { kind := .evict, status := .ok,
                  body := .evicted h.pool h.node h.process h.tokens h.state h.useCount }) ∧
          t.farm = s.farm ∧ t.banks = s.banks ∧ t.time = s.time ∧ t.link = s.link ∧ t.mode = s.mode)

/-- DRAIN in SERVING hands every waiting entry on, in pool-number order and each queue in queue order: as many as find room go as
rebuilt CHECKOUTs under their keys, each before the reply, with their forwards, and the others are answered RETRY NO_ROOM; while the
link is LOST all are answered UNREACHABLE. The reply counts both. In DRAINING it counts none; UNDRAIN returns to SERVING; both are
refused in every other state (R42, R43, R44, R96, R116). -/
def Obligations.DrainHandsTheQueuesOn : Prop :=
  ∀ (f : Frame) (k : Key) (s : State),
    (Manages s f k .drain →
      (s.mode = .draining →
        exec .drain s = .next (onlyAnswered s f k { kind := .drain, status := .ok, body := .drained 0 0 })) ∧
        (s.mode ≠ .serving → s.mode ≠ .draining →
          exec .drain s = .next (onlyAnswered s f k { kind := .drain, status := .badState, body := .empty })) ∧
        (∀ pools es n, s.mode = .serving → QueuesCounted s → PoolOrder s pools → es = pools.flatMap s.poolQueue →
          n =
              (if s.link.state = .lost then 0
              else min es.length (min (256 - s.fwd.entries.length) (min (992 - s.seatCount) (1023 - s.svc.upstream.length)))) →
          ∃ t, exec .drain s = .next t ∧ t.mode = .draining ∧ t.queues = { s.queues with entries := [] } ∧
            (∀ p, t.acct p = { s.acct p with queueLength := 0 }) ∧
            t.svc =
              s.svc.took f
                ((es.take n).map (s.handedOn (ethTo f s)) ++
                  [replyTo f s.mgmt.params.seatType k
                    { kind := .drain, status := .ok, body := .drained n (es.length - n) }]) ∧
            t.fwd = { s.fwd with entries := s.fwd.entries ++ (es.take n).map s.handedForward } ∧
            t.mgmt.stats = { s.mgmt.stats with forwards := counted s.mgmt.stats.forwards n } ∧
            AnswersAll s t
              ((es.drop n).map
                (fun e =>
                  (e, if s.link.state = .lost then FarmBody.unreachable else FarmBody.retry .noRoom s.mgmt.params.retryHint))) ∧
            t.farm.intake = s.farm.intake ∧ t.holds = s.holds ∧ t.banks = s.banks ∧ t.time = s.time ∧ t.link = s.link)) ∧
      (Manages s f k .undrain →
        (s.mode = .serving ∨ s.mode = .draining →
          exec .undrain s =
            .next ((onlyAnswered s f k { kind := .undrain, status := .ok, body := .empty }).setMode .serving)) ∧
          (s.mode ≠ .serving → s.mode ≠ .draining →
            exec .undrain s = .next (onlyAnswered s f k { kind := .undrain, status := .badState, body := .empty })))

/-- SET_TIME refuses a lower value and an unknown mode; STEP moves engine time and no stored time, REBASE moves both; taken while
UNSET it leaves UNSET, for TRACKING, or for HOLDOVER where the link is LOST (R135, R160). What a change of the epoch number or of the
day owes (R137, R138) is the model's choice (log 5). A STEP marks the wait entries whose deadline it reaches, which no pass grants any
more (R93). -/
def Obligations.SetTimeStepsOrRebases : Prop :=
  ∀ (f : Frame) (k : Key) (mode value : Nat) (s : State), Manages s f k (.setTime mode value) →
    (value < s.time.now ∨ (mode ≠ 1 ∧ mode ≠ 2) →
      exec .setTime s = .next (onlyAnswered s f k { kind := .setTime, status := .badRequest, body := .empty })) ∧
      (s.time.now ≤ value → mode = 1 ∨ mode = 2 →
        ∃ t, exec .setTime s = .next t ∧ Answered s t f k { kind := .setTime, status := .ok, body := .time value } ∧
          t.time =
            { now := value,
              source := if s.time.source ≠ .unset then s.time.source else if s.link.state = .lost then .holdover else .tracking,
              epochOwed := s.boundariesOwed value,
              dayOwed :=
                if s.time.source = .unset then s.time.dayOwed ++ [{ old := none, new := value / 86400000 }]
                else s.daysOwed value } ∧
          (s.time.source = .unset → t.eventPending .timeSet = true) ∧
          (s.time.source = .unset → s.link.state = .lost → t.eventPending .holdover = true) ∧
          (mode = 1 →
            t.holds = s.holds ∧ t.fwd = s.fwd ∧ t.recon = s.recon ∧
              t.queues =
                { s.queues with
                  entries :=
                    s.queues.entries.map
                      (fun e => { e with stepPassed := e.stepPassed || decide (s.time.now < value ∧ e.deadline ≤ value) }) }) ∧
          (mode = 2 → RebasedBy s t (value - s.time.now)) ∧
          t.accounts = s.accounts ∧ t.banks = s.banks ∧ t.link = s.link ∧ t.mode = s.mode ∧ t.farm = s.farm)

/-- RECONCILE begins a reconciliation, at once RECONCILING where no REPORT waits; during one it sets the latch, once. IMAGE_WRITE is
refused by the first test that fails, a read-only word named, and else writes all its words (R155, R157, R162). The image is built from
the figures as they stand, and its writable words are header words 5 to 8 and the D and mode words of each summary (R158, R159). -/
def Obligations.ReconcileBeginsAndSlotsAreWritten : Prop :=
  (∀ o, writableWord o = true ↔
    o = 5 ∨ o = 6 ∨ o = 7 ∨ o = 8 ∨ ∃ i, o = 16 + 8 * i + 2 ∨ o = 16 + 8 * i + 3) ∧
  ∀ (f : Frame) (k : Key) (s : State),
    (Manages s f k .reconcile →
      (s.mode = .unconfigured ∨ s.mode = .faultHold →
        exec .reconcile s = .next (onlyAnswered s f k { kind := .reconcile, status := .badState, body := .empty })) ∧
        (s.mode = .entering ∨ s.mode = .reconciling →
          (s.recon.latch = true →
            exec .reconcile s =
              .next (onlyAnswered s f k { kind := .reconcile, status := .alreadyPending, body := .empty })) ∧
          (s.recon.latch = false →
            exec .reconcile s =
              .next
                ((onlyAnswered s f k { kind := .reconcile, status := .pending, body := .empty }).setRecon
                  { s.recon with latch := true, latchedKey := some k }))) ∧
        (s.mode = .serving ∨ s.mode = .draining →
          ∃ t reply, exec .reconcile s = .next t ∧
            reply =
              replyTo f s.mgmt.params.seatType k { kind := .reconcile, status := .ok, body := .reports s.reportCount } ∧
            t.recon.originKey = some k ∧ t.recon.entryTime = some s.time.now ∧
            t.recon.entryDraining = decide (s.mode = .draining) ∧ t.recon.reentry = false ∧
            (0 < s.reportCount → t.mode = .entering ∧ t.svc = s.svc.took f [reply] ∧ t.recon.image = s.recon.image) ∧
            (s.reportCount = 0 →
              t.mode = .reconciling ∧
                ∃ image, t.recon.image = some image ∧ image.length = 16 + 8 * s.delegatedPools.length ∧
                  (AccountsListed s → BuiltImage s s.time.now (decide (s.mode = .draining)) image) ∧
                  (s.svc.upstream.length + 2 ≤ 1024 →
                    t.svc =
                      s.svc.took f
                        [reply,
                          UpEntry.ready (ethTo f s) k
                            { length := image.length, summaries := s.delegatedPools.length, entryTime := s.time.now,
                              buildTime := s.time.now, reentry := false }])) ∧
            t = { s with svc := t.svc, recon := t.recon, mode := t.mode })) ∧
      (∀ offset count items, Manages s f k (.imageWrite offset count items) →
        (s.mode ≠ .reconciling →
          exec .imageWrite s = .next (onlyAnswered s f k { kind := .imageWrite, status := .badState, body := .empty })) ∧
          (∀ image, s.mode = .reconciling → s.recon.image = some image →
            (count = 0 ∨ 64 < count ∨ items.length < 4 * count ∨ image.length < offset + count →
              exec .imageWrite s =
                .next (onlyAnswered s f k { kind := .imageWrite, status := .badRequest, body := .empty })) ∧
              (1 ≤ count → count ≤ 64 → 4 * count ≤ items.length → offset + count ≤ image.length →
                (∀ o, offset ≤ o → o < offset + count → writableWord o = false →
                  (∀ q, offset ≤ q → q < o → writableWord q = true) →
                  exec .imageWrite s =
                    .next (onlyAnswered s f k { kind := .imageWrite, status := .readOnly, body := .readOnlyAt o })) ∧
                ((∀ o, offset ≤ o → o < offset + count → writableWord o = true) →
                  ∃ image', image'.length = image.length ∧
                    (∀ i, i < count → image'[offset + i]? = some (wordAt items (i * 4))) ∧
                    (∀ o, o < offset ∨ offset + count ≤ o → image'[o]? = image[o]?) ∧
                    exec .imageWrite s =
                      .next
                        ((onlyAnswered s f k
                            { kind := .imageWrite, status := .ok, body := .written offset count }).setRecon
                          { s.recon with image := some image' })))))

/-- RESUME is refused outside RECONCILING. An invalid image enters FAULT_HOLD with the offset recorded, the queues and
forwards emptied, and holds and accounts' D, H and state kept; a valid one relocates engine time, gives each pool its D and mode,
empties the queues under FLUSH or drain-on-resume, enters SERVING or DRAINING with the overdue holds taken, or, the latch being set,
begins again under the latched key (R41, R163 to R168). The offset is that of the first word that fails its test (R163). That the
origin key and the entry time stay as they were once the reconciliation has ended is the model's choice (log 21), and so is that
a FLUSH or drain finds an entry whose wait deadline the relocation passes (log 40). A valid RESUME settles each pool of a summary under its
D and mode, hands on what a drain finds as a DRAIN does, processes the overdue holds where the latch is clear, and its reply counts all
of these; where the latch is set its reply counts no overdue hold, and the new image is built once no REPORT waits (R43, R75, R157,
R165 to R168). That the relocation's boundary is taken within the RESUME, that the reply counts as handed on every entry that the drain
finds, and that it carries the state R166 set are deduced (log 22); that its notices stand before the READY is the model's choice (log
16), and so is what a relocation over a day change owes (log 5). -/
def Obligations.ResumeFaultsOrApplies : Prop :=
  (∀ (now : Nat) (image : List Word),
    (∀ o, imageFault now image = some o ↔ WordFails now image o ∧ ∀ q, q < o → ¬WordFails now image q) ∧
      (imageFault now image = none ↔ ∀ o, ¬WordFails now image o)) ∧
  ∀ (f : Frame) (k : Key) (s : State), Manages s f k .resume →
    (s.mode ≠ .reconciling →
      exec .resume s = .next (onlyAnswered s f k { kind := .resume, status := .badState, body := .empty })) ∧
      (∀ image offset, s.mode = .reconciling → s.recon.image = some image → imageFault s.time.now image = some offset →
        QueuesCounted s →
        ∃ t, exec .resume s = .next t ∧
          Answered s t f k
            { kind := .resume, status := .badRequest, body := .fault offset (BitVec.ofNat 32 (imageWord image offset)) } ∧
          t.mode = .faultHold ∧
          t.recon = { s.recon with latch := false, latchedKey := none, image := none, faultOffset := some offset } ∧
          t.eventPending .reconcileFault = true ∧ t.queues = { s.queues with entries := [] } ∧
          t.fwd = { entries := [], late := [] } ∧ (∀ p, t.acct p = { s.acct p with queueLength := 0 }) ∧ t.holds = s.holds ∧
          (∀ pools, PoolOrder s pools →
            AnswersAll s t
              ((pools.flatMap s.poolQueue).map (fun e => (e, FarmBody.retry .engineFault s.mgmt.params.retryHint)))) ∧
          t.time = s.time ∧ t.banks = s.banks ∧ t.link = s.link) ∧
      (∀ image, s.mode = .reconciling → s.recon.image = some image → imageFault s.time.now image = none →
        ∃ t, exec .resume s = .next t ∧ Quiet t ∧ t.svc.intake = s.svc.intake.tail ∧ t.banks = s.banks ∧ t.link = s.link ∧
          t.time.now = (if relocation image = 0 then s.time.now else relocation image) ∧
          (∀ i, i < summaryCount image →
            (∀ j, i < j → j < summaryCount image → imageWord image (16 + 8 * j) ≠ imageWord image (16 + 8 * i)) →
            (t.acct (imageWord image (16 + 8 * i))).d = imageWord image (16 + 8 * i + 2) ∧
              ((t.acct (imageWord image (16 + 8 * i))).state = .shared ↔ imageWord image (16 + 8 * i + 3) = 1)) ∧
          (imageWord image 6 = 1 ∨ imageWord image 5 = 1 → t.queues.entries = []) ∧
          (∀ pools, imageWord image 6 = 1 → PoolOrder s pools →
            AnswersAll s t ((pools.flatMap s.poolQueue).map (fun e => (e, FarmBody.withdrawn)))) ∧
          (s.recon.latch = false →
            t.mode = (if imageWord image 5 = 1 then .draining else .serving) ∧ t.recon.image = none ∧
              (∀ e ∈ t.holds.slots, e.2.state ≠ .active → t.time.now < e.2.deadline) ∧
              (∀ e ∈ t.queues.entries, e.pool ∈ t.queues.marks)) ∧
          (s.recon.latch = true →
            (t.mode = .entering ∨ t.mode = .reconciling) ∧ t.recon.latch = false ∧ t.recon.latchedKey = none ∧
              t.recon.originKey = s.recon.latchedKey ∧ t.recon.entryTime = some t.time.now ∧ t.recon.reentry = true ∧
              t.recon.entryDraining = decide (imageWord image 5 = 1)) ∧
          (AccountsListed s → SlotsListed s → QueuesCounted s → OvercommitExact s →
            ∀ pools, PoolOrder s pools →
              ∃ a, ImageApplied s a f image (pools.flatMap s.poolQueue) ∧
                (s.recon.latch = false →
                  ∃ e overdue notices, a.Overdue overdue ∧ HoldsEnded overdue a e ∧ (∀ x ∈ notices, UpEntry.isNotice x = true) ∧
                    t.svc.upstream =
                      e.svc.upstream ++
                        [replyTo f s.mgmt.params.seatType k (s.resumeAnswer image overdue.length)] ++ notices ∧
                    t.accounts = e.accounts ∧ t.holds = e.holds ∧ t.fwd = e.fwd ∧ t.farm = e.farm ∧ t.time = e.time ∧
                    t.mgmt.stats = e.mgmt.stats ∧ t.queues.entries = e.queues.entries ∧
                    ∀ p, p ∈ e.queues.marks → p ∈ t.queues.marks) ∧
                (s.recon.latch = true →
                  ∃ notices ready, (∀ x ∈ notices, UpEntry.isNotice x = true) ∧
                    t.svc.upstream =
                      a.svc.upstream ++ [replyTo f s.mgmt.params.seatType k (s.resumeAnswer image 0)] ++ notices ++ ready ∧
                    t.accounts = a.accounts ∧ t.holds = a.holds ∧ t.fwd = a.fwd ∧ t.farm = a.farm ∧ t.time = a.time ∧
                    t.mgmt.stats = a.mgmt.stats ∧ t.queues = a.queues ∧
                    (0 < s.reportCount → t.mode = .entering ∧ t.recon.image = none ∧ ready = []) ∧
                    (s.reportCount = 0 →
                      t.mode = .reconciling ∧
                        ∃ built, t.recon.image = some built ∧
                          BuiltImage t t.time.now (decide (imageWord image 5 = 1)) built ∧
                          ∀ latched, s.recon.latchedKey = some latched →
                            ready =
                              if a.svc.upstream.length + 1 + notices.length < 1024 then
                                [UpEntry.ready (ethTo f s) latched
                                  { length := built.length, summaries := t.delegatedPools.length, entryTime := t.time.now,
                                    buildTime := t.time.now, reentry := true }]
                              else []))))

/-- RESTART FULL leaves what a power-on reset leaves, with its reply in the restart reply slot and the pause in force kept; DYNAMIC
keeps the banks, engine time, the link, the parameters and the notify set, and raises RESTARTED, whose notice alone then stands in the
Upstream Queue; another scope is refused. Power-on and the rise of RESET_N reset the engine without a reply (R79, R154, R183, R193,
R194). That a BAD_REQUEST goes to the restart reply slot too (log 23), that FULL keeps the pause in force (log 18), that a reset from
any low level is whole, that a rise without one does nothing and what pause frames are due after a reset (logs 1, 24), that the cycle
count is kept (log 29) and that DYNAMIC keeps the boundaries and day changes owed (log 34) are the model's readings and choices. -/
def Obligations.RestartsAndResets : Prop :=
  (∀ (f : Frame) (k : Key) (scope : Nat) (s : State), s.headRequest = some (f, k, .restart scope) →
      ∃ t, exec .restart s = .next t ∧
        (scope = 1 →
          t.svc.restartSlot =
              some (replyTo f s.mgmt.params.seatType k { kind := .restart, status := .ok, body := .scope 1 }) ∧
            t.svc = { State.reset.svc with restartSlot := t.svc.restartSlot, pauseEnd := s.svc.pauseEnd, sending := s.svc.sending } ∧
            t.mgmt = { State.reset.mgmt with cause := .softFull } ∧
            t =
              { State.reset with
                pending := s.pending, clk := s.clk, resetLow := s.resetLow, farm := t.farm, svc := t.svc, mgmt := t.mgmt } ∧
            FarmEmptied s t) ∧
        (scope = 2 →
          t.svc.restartSlot =
              some (replyTo f s.mgmt.params.seatType k { kind := .restart, status := .ok, body := .scope 2 }) ∧
            t.mode = (if s.banks.active = none then .unconfigured else .serving) ∧
            t.banks = { s.banks with pendingSwitch := none } ∧ (∀ p, t.acct p = Account.cleared) ∧ t.holds.slots = [] ∧
            (SlotsListed s → ∀ slot, t.generation slot =
              if Table.get? s.holds.slots slot = none then s.generation slot else (s.generation slot + 1) % 32768) ∧
            t.queues.entries = [] ∧ t.queues.marks = [] ∧ t.fwd = { entries := [], late := [] } ∧ t.time = s.time ∧
            t.link = s.link ∧ t.recon = State.reset.recon ∧ t.mgmt.params = s.mgmt.params ∧ t.mgmt.notify = s.mgmt.notify ∧
            (∀ e : Event, t.eventPending e = decide (e = .restarted)) ∧ t.mgmt.stats = EngineStats.zero ∧
            t.mgmt.cause = .softDynamic ∧ FarmEmptied s t ∧
            t.svc =
              { s.svc with
                intake := [], bridge := none, upstream := t.svc.upstream, restartSlot := t.svc.restartSlot, peer := addrsOf f,
                stats := t.svc.stats } ∧
            (Quiet s →
              t.svc.stats = PortStats.zero ∧ t.svc.upstream =
                if s.mgmt.notify.getLsbD 14 = true then [UpEntry.event (ethTo f s) t.mgmt.events .restarted s.time.now] else []) ∧
            t.clk = s.clk ∧ t.pending = s.pending ∧ t.resetLow = s.resetLow) ∧
        (scope ≠ 1 → scope ≠ 2 →
          t.svc.restartSlot =
              some (replyTo f s.mgmt.params.seatType k { kind := .restart, status := .badRequest, body := .empty }) ∧
            t = s.setSvc { s.svc.took f [] with restartSlot := t.svc.restartSlot })) ∧
    (∀ s : State,
      (∃ t, exec .powerOnReset s = .next t ∧
        t = { State.reset with pending := s.pending, farm := t.farm, svc := { State.reset.svc with sending := s.svc.sending } } ∧
        FarmEmptied s t) ∧
        exec (.lineReset true) s = .next { s with resetLow := true } ∧
        (s.resetLow = false → exec (.lineReset false) s = .next s) ∧
        (s.resetLow = true →
          ∃ t, exec (.lineReset false) s = .next t ∧
            t =
              { State.reset with
                pending := s.pending, clk := s.clk, farm := t.farm, svc := { State.reset.svc with sending := s.svc.sending },
                mgmt := { State.reset.mgmt with cause := .lineReset } } ∧
            FarmEmptied s t))
end

