-- ==== Sys2Proof/Laws/State.lean ====
section
/-! SUPPORT. One lemma per field of State and update of it, each true by rfl. -/

set_option Elab.async false

namespace Sys2Proof.Machine

variable (s : State)

@[simp] theorem State.setPending_pending (v : List Instr) : (s.setPending v).pending = v := rfl
@[simp] theorem State.setPending_clk (v : List Instr) : (s.setPending v).clk = s.clk := rfl
@[simp] theorem State.setPending_resetLow (v : List Instr) : (s.setPending v).resetLow = s.resetLow := rfl
@[simp] theorem State.setPending_mode (v : List Instr) : (s.setPending v).mode = s.mode := rfl
@[simp] theorem State.setPending_banks (v : List Instr) : (s.setPending v).banks = s.banks := rfl
@[simp] theorem State.setPending_accounts (v : List Instr) : (s.setPending v).accounts = s.accounts := rfl
@[simp] theorem State.setPending_holds (v : List Instr) : (s.setPending v).holds = s.holds := rfl
@[simp] theorem State.setPending_queues (v : List Instr) : (s.setPending v).queues = s.queues := rfl
@[simp] theorem State.setPending_fwd (v : List Instr) : (s.setPending v).fwd = s.fwd := rfl
@[simp] theorem State.setPending_time (v : List Instr) : (s.setPending v).time = s.time := rfl
@[simp] theorem State.setPending_link (v : List Instr) : (s.setPending v).link = s.link := rfl
@[simp] theorem State.setPending_recon (v : List Instr) : (s.setPending v).recon = s.recon := rfl
@[simp] theorem State.setPending_farm (v : List Instr) : (s.setPending v).farm = s.farm := rfl
@[simp] theorem State.setPending_svc (v : List Instr) : (s.setPending v).svc = s.svc := rfl
@[simp] theorem State.setPending_mgmt (v : List Instr) : (s.setPending v).mgmt = s.mgmt := rfl
@[simp] theorem State.setPending_reserved (v : List Instr) : (s.setPending v).reserved = s.reserved := rfl
@[simp] theorem State.setPending_deferred (v : List Instr) : (s.setPending v).deferred = s.deferred := rfl
@[simp] theorem State.setClk_pending (v : Nat) : (s.setClk v).pending = s.pending := rfl
@[simp] theorem State.setClk_clk (v : Nat) : (s.setClk v).clk = v := rfl
@[simp] theorem State.setClk_resetLow (v : Nat) : (s.setClk v).resetLow = s.resetLow := rfl
@[simp] theorem State.setClk_mode (v : Nat) : (s.setClk v).mode = s.mode := rfl
@[simp] theorem State.setClk_banks (v : Nat) : (s.setClk v).banks = s.banks := rfl
@[simp] theorem State.setClk_accounts (v : Nat) : (s.setClk v).accounts = s.accounts := rfl
@[simp] theorem State.setClk_holds (v : Nat) : (s.setClk v).holds = s.holds := rfl
@[simp] theorem State.setClk_queues (v : Nat) : (s.setClk v).queues = s.queues := rfl
@[simp] theorem State.setClk_fwd (v : Nat) : (s.setClk v).fwd = s.fwd := rfl
@[simp] theorem State.setClk_time (v : Nat) : (s.setClk v).time = s.time := rfl
@[simp] theorem State.setClk_link (v : Nat) : (s.setClk v).link = s.link := rfl
@[simp] theorem State.setClk_recon (v : Nat) : (s.setClk v).recon = s.recon := rfl
@[simp] theorem State.setClk_farm (v : Nat) : (s.setClk v).farm = s.farm := rfl
@[simp] theorem State.setClk_svc (v : Nat) : (s.setClk v).svc = s.svc := rfl
@[simp] theorem State.setClk_mgmt (v : Nat) : (s.setClk v).mgmt = s.mgmt := rfl
@[simp] theorem State.setClk_reserved (v : Nat) : (s.setClk v).reserved = s.reserved := rfl
@[simp] theorem State.setClk_deferred (v : Nat) : (s.setClk v).deferred = s.deferred := rfl
@[simp] theorem State.setResetLow_pending (v : Bool) : (s.setResetLow v).pending = s.pending := rfl
@[simp] theorem State.setResetLow_clk (v : Bool) : (s.setResetLow v).clk = s.clk := rfl
@[simp] theorem State.setResetLow_resetLow (v : Bool) : (s.setResetLow v).resetLow = v := rfl
@[simp] theorem State.setResetLow_mode (v : Bool) : (s.setResetLow v).mode = s.mode := rfl
@[simp] theorem State.setResetLow_banks (v : Bool) : (s.setResetLow v).banks = s.banks := rfl
@[simp] theorem State.setResetLow_accounts (v : Bool) : (s.setResetLow v).accounts = s.accounts := rfl
@[simp] theorem State.setResetLow_holds (v : Bool) : (s.setResetLow v).holds = s.holds := rfl
@[simp] theorem State.setResetLow_queues (v : Bool) : (s.setResetLow v).queues = s.queues := rfl
@[simp] theorem State.setResetLow_fwd (v : Bool) : (s.setResetLow v).fwd = s.fwd := rfl
@[simp] theorem State.setResetLow_time (v : Bool) : (s.setResetLow v).time = s.time := rfl
@[simp] theorem State.setResetLow_link (v : Bool) : (s.setResetLow v).link = s.link := rfl
@[simp] theorem State.setResetLow_recon (v : Bool) : (s.setResetLow v).recon = s.recon := rfl
@[simp] theorem State.setResetLow_farm (v : Bool) : (s.setResetLow v).farm = s.farm := rfl
@[simp] theorem State.setResetLow_svc (v : Bool) : (s.setResetLow v).svc = s.svc := rfl
@[simp] theorem State.setResetLow_mgmt (v : Bool) : (s.setResetLow v).mgmt = s.mgmt := rfl
@[simp] theorem State.setResetLow_reserved (v : Bool) : (s.setResetLow v).reserved = s.reserved := rfl
@[simp] theorem State.setResetLow_deferred (v : Bool) : (s.setResetLow v).deferred = s.deferred := rfl
@[simp] theorem State.setMode_pending (v : EngineState) : (s.setMode v).pending = s.pending := rfl
@[simp] theorem State.setMode_clk (v : EngineState) : (s.setMode v).clk = s.clk := rfl
@[simp] theorem State.setMode_resetLow (v : EngineState) : (s.setMode v).resetLow = s.resetLow := rfl
@[simp] theorem State.setMode_mode (v : EngineState) : (s.setMode v).mode = v := rfl
@[simp] theorem State.setMode_banks (v : EngineState) : (s.setMode v).banks = s.banks := rfl
@[simp] theorem State.setMode_accounts (v : EngineState) : (s.setMode v).accounts = s.accounts := rfl
@[simp] theorem State.setMode_holds (v : EngineState) : (s.setMode v).holds = s.holds := rfl
@[simp] theorem State.setMode_queues (v : EngineState) : (s.setMode v).queues = s.queues := rfl
@[simp] theorem State.setMode_fwd (v : EngineState) : (s.setMode v).fwd = s.fwd := rfl
@[simp] theorem State.setMode_time (v : EngineState) : (s.setMode v).time = s.time := rfl
@[simp] theorem State.setMode_link (v : EngineState) : (s.setMode v).link = s.link := rfl
@[simp] theorem State.setMode_recon (v : EngineState) : (s.setMode v).recon = s.recon := rfl
@[simp] theorem State.setMode_farm (v : EngineState) : (s.setMode v).farm = s.farm := rfl
@[simp] theorem State.setMode_svc (v : EngineState) : (s.setMode v).svc = s.svc := rfl
@[simp] theorem State.setMode_mgmt (v : EngineState) : (s.setMode v).mgmt = s.mgmt := rfl
@[simp] theorem State.setMode_reserved (v : EngineState) : (s.setMode v).reserved = s.reserved := rfl
@[simp] theorem State.setMode_deferred (v : EngineState) : (s.setMode v).deferred = s.deferred := rfl
@[simp] theorem State.setBanks_pending (v : Banks) : (s.setBanks v).pending = s.pending := rfl
@[simp] theorem State.setBanks_clk (v : Banks) : (s.setBanks v).clk = s.clk := rfl
@[simp] theorem State.setBanks_resetLow (v : Banks) : (s.setBanks v).resetLow = s.resetLow := rfl
@[simp] theorem State.setBanks_mode (v : Banks) : (s.setBanks v).mode = s.mode := rfl
@[simp] theorem State.setBanks_banks (v : Banks) : (s.setBanks v).banks = v := rfl
@[simp] theorem State.setBanks_accounts (v : Banks) : (s.setBanks v).accounts = s.accounts := rfl
@[simp] theorem State.setBanks_holds (v : Banks) : (s.setBanks v).holds = s.holds := rfl
@[simp] theorem State.setBanks_queues (v : Banks) : (s.setBanks v).queues = s.queues := rfl
@[simp] theorem State.setBanks_fwd (v : Banks) : (s.setBanks v).fwd = s.fwd := rfl
@[simp] theorem State.setBanks_time (v : Banks) : (s.setBanks v).time = s.time := rfl
@[simp] theorem State.setBanks_link (v : Banks) : (s.setBanks v).link = s.link := rfl
@[simp] theorem State.setBanks_recon (v : Banks) : (s.setBanks v).recon = s.recon := rfl
@[simp] theorem State.setBanks_farm (v : Banks) : (s.setBanks v).farm = s.farm := rfl
@[simp] theorem State.setBanks_svc (v : Banks) : (s.setBanks v).svc = s.svc := rfl
@[simp] theorem State.setBanks_mgmt (v : Banks) : (s.setBanks v).mgmt = s.mgmt := rfl
@[simp] theorem State.setBanks_reserved (v : Banks) : (s.setBanks v).reserved = s.reserved := rfl
@[simp] theorem State.setBanks_deferred (v : Banks) : (s.setBanks v).deferred = s.deferred := rfl
@[simp] theorem State.setAccounts_pending (v : Table Account) : (s.setAccounts v).pending = s.pending := rfl
@[simp] theorem State.setAccounts_clk (v : Table Account) : (s.setAccounts v).clk = s.clk := rfl
@[simp] theorem State.setAccounts_resetLow (v : Table Account) : (s.setAccounts v).resetLow = s.resetLow := rfl
@[simp] theorem State.setAccounts_mode (v : Table Account) : (s.setAccounts v).mode = s.mode := rfl
@[simp] theorem State.setAccounts_banks (v : Table Account) : (s.setAccounts v).banks = s.banks := rfl
@[simp] theorem State.setAccounts_accounts (v : Table Account) : (s.setAccounts v).accounts = v := rfl
@[simp] theorem State.setAccounts_holds (v : Table Account) : (s.setAccounts v).holds = s.holds := rfl
@[simp] theorem State.setAccounts_queues (v : Table Account) : (s.setAccounts v).queues = s.queues := rfl
@[simp] theorem State.setAccounts_fwd (v : Table Account) : (s.setAccounts v).fwd = s.fwd := rfl
@[simp] theorem State.setAccounts_time (v : Table Account) : (s.setAccounts v).time = s.time := rfl
@[simp] theorem State.setAccounts_link (v : Table Account) : (s.setAccounts v).link = s.link := rfl
@[simp] theorem State.setAccounts_recon (v : Table Account) : (s.setAccounts v).recon = s.recon := rfl
@[simp] theorem State.setAccounts_farm (v : Table Account) : (s.setAccounts v).farm = s.farm := rfl
@[simp] theorem State.setAccounts_svc (v : Table Account) : (s.setAccounts v).svc = s.svc := rfl
@[simp] theorem State.setAccounts_mgmt (v : Table Account) : (s.setAccounts v).mgmt = s.mgmt := rfl
@[simp] theorem State.setAccounts_reserved (v : Table Account) : (s.setAccounts v).reserved = s.reserved := rfl
@[simp] theorem State.setAccounts_deferred (v : Table Account) : (s.setAccounts v).deferred = s.deferred := rfl
@[simp] theorem State.setHolds_pending (v : HoldTable) : (s.setHolds v).pending = s.pending := rfl
@[simp] theorem State.setHolds_clk (v : HoldTable) : (s.setHolds v).clk = s.clk := rfl
@[simp] theorem State.setHolds_resetLow (v : HoldTable) : (s.setHolds v).resetLow = s.resetLow := rfl
@[simp] theorem State.setHolds_mode (v : HoldTable) : (s.setHolds v).mode = s.mode := rfl
@[simp] theorem State.setHolds_banks (v : HoldTable) : (s.setHolds v).banks = s.banks := rfl
@[simp] theorem State.setHolds_accounts (v : HoldTable) : (s.setHolds v).accounts = s.accounts := rfl
@[simp] theorem State.setHolds_holds (v : HoldTable) : (s.setHolds v).holds = v := rfl
@[simp] theorem State.setHolds_queues (v : HoldTable) : (s.setHolds v).queues = s.queues := rfl
@[simp] theorem State.setHolds_fwd (v : HoldTable) : (s.setHolds v).fwd = s.fwd := rfl
@[simp] theorem State.setHolds_time (v : HoldTable) : (s.setHolds v).time = s.time := rfl
@[simp] theorem State.setHolds_link (v : HoldTable) : (s.setHolds v).link = s.link := rfl
@[simp] theorem State.setHolds_recon (v : HoldTable) : (s.setHolds v).recon = s.recon := rfl
@[simp] theorem State.setHolds_farm (v : HoldTable) : (s.setHolds v).farm = s.farm := rfl
@[simp] theorem State.setHolds_svc (v : HoldTable) : (s.setHolds v).svc = s.svc := rfl
@[simp] theorem State.setHolds_mgmt (v : HoldTable) : (s.setHolds v).mgmt = s.mgmt := rfl
@[simp] theorem State.setHolds_reserved (v : HoldTable) : (s.setHolds v).reserved = s.reserved := rfl
@[simp] theorem State.setHolds_deferred (v : HoldTable) : (s.setHolds v).deferred = s.deferred := rfl
@[simp] theorem State.setQueues_pending (v : QueueManager) : (s.setQueues v).pending = s.pending := rfl
@[simp] theorem State.setQueues_clk (v : QueueManager) : (s.setQueues v).clk = s.clk := rfl
@[simp] theorem State.setQueues_resetLow (v : QueueManager) : (s.setQueues v).resetLow = s.resetLow := rfl
@[simp] theorem State.setQueues_mode (v : QueueManager) : (s.setQueues v).mode = s.mode := rfl
@[simp] theorem State.setQueues_banks (v : QueueManager) : (s.setQueues v).banks = s.banks := rfl
@[simp] theorem State.setQueues_accounts (v : QueueManager) : (s.setQueues v).accounts = s.accounts := rfl
@[simp] theorem State.setQueues_holds (v : QueueManager) : (s.setQueues v).holds = s.holds := rfl
@[simp] theorem State.setQueues_queues (v : QueueManager) : (s.setQueues v).queues = v := rfl
@[simp] theorem State.setQueues_fwd (v : QueueManager) : (s.setQueues v).fwd = s.fwd := rfl
@[simp] theorem State.setQueues_time (v : QueueManager) : (s.setQueues v).time = s.time := rfl
@[simp] theorem State.setQueues_link (v : QueueManager) : (s.setQueues v).link = s.link := rfl
@[simp] theorem State.setQueues_recon (v : QueueManager) : (s.setQueues v).recon = s.recon := rfl
@[simp] theorem State.setQueues_farm (v : QueueManager) : (s.setQueues v).farm = s.farm := rfl
@[simp] theorem State.setQueues_svc (v : QueueManager) : (s.setQueues v).svc = s.svc := rfl
@[simp] theorem State.setQueues_mgmt (v : QueueManager) : (s.setQueues v).mgmt = s.mgmt := rfl
@[simp] theorem State.setQueues_reserved (v : QueueManager) : (s.setQueues v).reserved = s.reserved := rfl
@[simp] theorem State.setQueues_deferred (v : QueueManager) : (s.setQueues v).deferred = s.deferred := rfl
@[simp] theorem State.setFwd_pending (v : Delegation) : (s.setFwd v).pending = s.pending := rfl
@[simp] theorem State.setFwd_clk (v : Delegation) : (s.setFwd v).clk = s.clk := rfl
@[simp] theorem State.setFwd_resetLow (v : Delegation) : (s.setFwd v).resetLow = s.resetLow := rfl
@[simp] theorem State.setFwd_mode (v : Delegation) : (s.setFwd v).mode = s.mode := rfl
@[simp] theorem State.setFwd_banks (v : Delegation) : (s.setFwd v).banks = s.banks := rfl
@[simp] theorem State.setFwd_accounts (v : Delegation) : (s.setFwd v).accounts = s.accounts := rfl
@[simp] theorem State.setFwd_holds (v : Delegation) : (s.setFwd v).holds = s.holds := rfl
@[simp] theorem State.setFwd_queues (v : Delegation) : (s.setFwd v).queues = s.queues := rfl
@[simp] theorem State.setFwd_fwd (v : Delegation) : (s.setFwd v).fwd = v := rfl
@[simp] theorem State.setFwd_time (v : Delegation) : (s.setFwd v).time = s.time := rfl
@[simp] theorem State.setFwd_link (v : Delegation) : (s.setFwd v).link = s.link := rfl
@[simp] theorem State.setFwd_recon (v : Delegation) : (s.setFwd v).recon = s.recon := rfl
@[simp] theorem State.setFwd_farm (v : Delegation) : (s.setFwd v).farm = s.farm := rfl
@[simp] theorem State.setFwd_svc (v : Delegation) : (s.setFwd v).svc = s.svc := rfl
@[simp] theorem State.setFwd_mgmt (v : Delegation) : (s.setFwd v).mgmt = s.mgmt := rfl
@[simp] theorem State.setFwd_reserved (v : Delegation) : (s.setFwd v).reserved = s.reserved := rfl
@[simp] theorem State.setFwd_deferred (v : Delegation) : (s.setFwd v).deferred = s.deferred := rfl
@[simp] theorem State.setTime_pending (v : Timebase) : (s.setTime v).pending = s.pending := rfl
@[simp] theorem State.setTime_clk (v : Timebase) : (s.setTime v).clk = s.clk := rfl
@[simp] theorem State.setTime_resetLow (v : Timebase) : (s.setTime v).resetLow = s.resetLow := rfl
@[simp] theorem State.setTime_mode (v : Timebase) : (s.setTime v).mode = s.mode := rfl
@[simp] theorem State.setTime_banks (v : Timebase) : (s.setTime v).banks = s.banks := rfl
@[simp] theorem State.setTime_accounts (v : Timebase) : (s.setTime v).accounts = s.accounts := rfl
@[simp] theorem State.setTime_holds (v : Timebase) : (s.setTime v).holds = s.holds := rfl
@[simp] theorem State.setTime_queues (v : Timebase) : (s.setTime v).queues = s.queues := rfl
@[simp] theorem State.setTime_fwd (v : Timebase) : (s.setTime v).fwd = s.fwd := rfl
@[simp] theorem State.setTime_time (v : Timebase) : (s.setTime v).time = v := rfl
@[simp] theorem State.setTime_link (v : Timebase) : (s.setTime v).link = s.link := rfl
@[simp] theorem State.setTime_recon (v : Timebase) : (s.setTime v).recon = s.recon := rfl
@[simp] theorem State.setTime_farm (v : Timebase) : (s.setTime v).farm = s.farm := rfl
@[simp] theorem State.setTime_svc (v : Timebase) : (s.setTime v).svc = s.svc := rfl
@[simp] theorem State.setTime_mgmt (v : Timebase) : (s.setTime v).mgmt = s.mgmt := rfl
@[simp] theorem State.setTime_reserved (v : Timebase) : (s.setTime v).reserved = s.reserved := rfl
@[simp] theorem State.setTime_deferred (v : Timebase) : (s.setTime v).deferred = s.deferred := rfl
@[simp] theorem State.setLink_pending (v : LinkSupervisor) : (s.setLink v).pending = s.pending := rfl
@[simp] theorem State.setLink_clk (v : LinkSupervisor) : (s.setLink v).clk = s.clk := rfl
@[simp] theorem State.setLink_resetLow (v : LinkSupervisor) : (s.setLink v).resetLow = s.resetLow := rfl
@[simp] theorem State.setLink_mode (v : LinkSupervisor) : (s.setLink v).mode = s.mode := rfl
@[simp] theorem State.setLink_banks (v : LinkSupervisor) : (s.setLink v).banks = s.banks := rfl
@[simp] theorem State.setLink_accounts (v : LinkSupervisor) : (s.setLink v).accounts = s.accounts := rfl
@[simp] theorem State.setLink_holds (v : LinkSupervisor) : (s.setLink v).holds = s.holds := rfl
@[simp] theorem State.setLink_queues (v : LinkSupervisor) : (s.setLink v).queues = s.queues := rfl
@[simp] theorem State.setLink_fwd (v : LinkSupervisor) : (s.setLink v).fwd = s.fwd := rfl
@[simp] theorem State.setLink_time (v : LinkSupervisor) : (s.setLink v).time = s.time := rfl
@[simp] theorem State.setLink_link (v : LinkSupervisor) : (s.setLink v).link = v := rfl
@[simp] theorem State.setLink_recon (v : LinkSupervisor) : (s.setLink v).recon = s.recon := rfl
@[simp] theorem State.setLink_farm (v : LinkSupervisor) : (s.setLink v).farm = s.farm := rfl
@[simp] theorem State.setLink_svc (v : LinkSupervisor) : (s.setLink v).svc = s.svc := rfl
@[simp] theorem State.setLink_mgmt (v : LinkSupervisor) : (s.setLink v).mgmt = s.mgmt := rfl
@[simp] theorem State.setLink_reserved (v : LinkSupervisor) : (s.setLink v).reserved = s.reserved := rfl
@[simp] theorem State.setLink_deferred (v : LinkSupervisor) : (s.setLink v).deferred = s.deferred := rfl
@[simp] theorem State.setRecon_pending (v : Reconciliation) : (s.setRecon v).pending = s.pending := rfl
@[simp] theorem State.setRecon_clk (v : Reconciliation) : (s.setRecon v).clk = s.clk := rfl
@[simp] theorem State.setRecon_resetLow (v : Reconciliation) : (s.setRecon v).resetLow = s.resetLow := rfl
@[simp] theorem State.setRecon_mode (v : Reconciliation) : (s.setRecon v).mode = s.mode := rfl
@[simp] theorem State.setRecon_banks (v : Reconciliation) : (s.setRecon v).banks = s.banks := rfl
@[simp] theorem State.setRecon_accounts (v : Reconciliation) : (s.setRecon v).accounts = s.accounts := rfl
@[simp] theorem State.setRecon_holds (v : Reconciliation) : (s.setRecon v).holds = s.holds := rfl
@[simp] theorem State.setRecon_queues (v : Reconciliation) : (s.setRecon v).queues = s.queues := rfl
@[simp] theorem State.setRecon_fwd (v : Reconciliation) : (s.setRecon v).fwd = s.fwd := rfl
@[simp] theorem State.setRecon_time (v : Reconciliation) : (s.setRecon v).time = s.time := rfl
@[simp] theorem State.setRecon_link (v : Reconciliation) : (s.setRecon v).link = s.link := rfl
@[simp] theorem State.setRecon_recon (v : Reconciliation) : (s.setRecon v).recon = v := rfl
@[simp] theorem State.setRecon_farm (v : Reconciliation) : (s.setRecon v).farm = s.farm := rfl
@[simp] theorem State.setRecon_svc (v : Reconciliation) : (s.setRecon v).svc = s.svc := rfl
@[simp] theorem State.setRecon_mgmt (v : Reconciliation) : (s.setRecon v).mgmt = s.mgmt := rfl
@[simp] theorem State.setRecon_reserved (v : Reconciliation) : (s.setRecon v).reserved = s.reserved := rfl
@[simp] theorem State.setRecon_deferred (v : Reconciliation) : (s.setRecon v).deferred = s.deferred := rfl
@[simp] theorem State.setFarm_pending (v : FarmPort) : (s.setFarm v).pending = s.pending := rfl
@[simp] theorem State.setFarm_clk (v : FarmPort) : (s.setFarm v).clk = s.clk := rfl
@[simp] theorem State.setFarm_resetLow (v : FarmPort) : (s.setFarm v).resetLow = s.resetLow := rfl
@[simp] theorem State.setFarm_mode (v : FarmPort) : (s.setFarm v).mode = s.mode := rfl
@[simp] theorem State.setFarm_banks (v : FarmPort) : (s.setFarm v).banks = s.banks := rfl
@[simp] theorem State.setFarm_accounts (v : FarmPort) : (s.setFarm v).accounts = s.accounts := rfl
@[simp] theorem State.setFarm_holds (v : FarmPort) : (s.setFarm v).holds = s.holds := rfl
@[simp] theorem State.setFarm_queues (v : FarmPort) : (s.setFarm v).queues = s.queues := rfl
@[simp] theorem State.setFarm_fwd (v : FarmPort) : (s.setFarm v).fwd = s.fwd := rfl
@[simp] theorem State.setFarm_time (v : FarmPort) : (s.setFarm v).time = s.time := rfl
@[simp] theorem State.setFarm_link (v : FarmPort) : (s.setFarm v).link = s.link := rfl
@[simp] theorem State.setFarm_recon (v : FarmPort) : (s.setFarm v).recon = s.recon := rfl
@[simp] theorem State.setFarm_farm (v : FarmPort) : (s.setFarm v).farm = v := rfl
@[simp] theorem State.setFarm_svc (v : FarmPort) : (s.setFarm v).svc = s.svc := rfl
@[simp] theorem State.setFarm_mgmt (v : FarmPort) : (s.setFarm v).mgmt = s.mgmt := rfl
@[simp] theorem State.setFarm_reserved (v : FarmPort) : (s.setFarm v).reserved = s.reserved := rfl
@[simp] theorem State.setFarm_deferred (v : FarmPort) : (s.setFarm v).deferred = s.deferred := rfl
@[simp] theorem State.setSvc_pending (v : ServicePort) : (s.setSvc v).pending = s.pending := rfl
@[simp] theorem State.setSvc_clk (v : ServicePort) : (s.setSvc v).clk = s.clk := rfl
@[simp] theorem State.setSvc_resetLow (v : ServicePort) : (s.setSvc v).resetLow = s.resetLow := rfl
@[simp] theorem State.setSvc_mode (v : ServicePort) : (s.setSvc v).mode = s.mode := rfl
@[simp] theorem State.setSvc_banks (v : ServicePort) : (s.setSvc v).banks = s.banks := rfl
@[simp] theorem State.setSvc_accounts (v : ServicePort) : (s.setSvc v).accounts = s.accounts := rfl
@[simp] theorem State.setSvc_holds (v : ServicePort) : (s.setSvc v).holds = s.holds := rfl
@[simp] theorem State.setSvc_queues (v : ServicePort) : (s.setSvc v).queues = s.queues := rfl
@[simp] theorem State.setSvc_fwd (v : ServicePort) : (s.setSvc v).fwd = s.fwd := rfl
@[simp] theorem State.setSvc_time (v : ServicePort) : (s.setSvc v).time = s.time := rfl
@[simp] theorem State.setSvc_link (v : ServicePort) : (s.setSvc v).link = s.link := rfl
@[simp] theorem State.setSvc_recon (v : ServicePort) : (s.setSvc v).recon = s.recon := rfl
@[simp] theorem State.setSvc_farm (v : ServicePort) : (s.setSvc v).farm = s.farm := rfl
@[simp] theorem State.setSvc_svc (v : ServicePort) : (s.setSvc v).svc = v := rfl
@[simp] theorem State.setSvc_mgmt (v : ServicePort) : (s.setSvc v).mgmt = s.mgmt := rfl
@[simp] theorem State.setSvc_reserved (v : ServicePort) : (s.setSvc v).reserved = s.reserved := rfl
@[simp] theorem State.setSvc_deferred (v : ServicePort) : (s.setSvc v).deferred = s.deferred := rfl
@[simp] theorem State.setMgmt_pending (v : Management) : (s.setMgmt v).pending = s.pending := rfl
@[simp] theorem State.setMgmt_clk (v : Management) : (s.setMgmt v).clk = s.clk := rfl
@[simp] theorem State.setMgmt_resetLow (v : Management) : (s.setMgmt v).resetLow = s.resetLow := rfl
@[simp] theorem State.setMgmt_mode (v : Management) : (s.setMgmt v).mode = s.mode := rfl
@[simp] theorem State.setMgmt_banks (v : Management) : (s.setMgmt v).banks = s.banks := rfl
@[simp] theorem State.setMgmt_accounts (v : Management) : (s.setMgmt v).accounts = s.accounts := rfl
@[simp] theorem State.setMgmt_holds (v : Management) : (s.setMgmt v).holds = s.holds := rfl
@[simp] theorem State.setMgmt_queues (v : Management) : (s.setMgmt v).queues = s.queues := rfl
@[simp] theorem State.setMgmt_fwd (v : Management) : (s.setMgmt v).fwd = s.fwd := rfl
@[simp] theorem State.setMgmt_time (v : Management) : (s.setMgmt v).time = s.time := rfl
@[simp] theorem State.setMgmt_link (v : Management) : (s.setMgmt v).link = s.link := rfl
@[simp] theorem State.setMgmt_recon (v : Management) : (s.setMgmt v).recon = s.recon := rfl
@[simp] theorem State.setMgmt_farm (v : Management) : (s.setMgmt v).farm = s.farm := rfl
@[simp] theorem State.setMgmt_svc (v : Management) : (s.setMgmt v).svc = s.svc := rfl
@[simp] theorem State.setMgmt_mgmt (v : Management) : (s.setMgmt v).mgmt = v := rfl
@[simp] theorem State.setMgmt_reserved (v : Management) : (s.setMgmt v).reserved = s.reserved := rfl
@[simp] theorem State.setMgmt_deferred (v : Management) : (s.setMgmt v).deferred = s.deferred := rfl
@[simp] theorem State.setReserved_pending (v : Nat) : (s.setReserved v).pending = s.pending := rfl
@[simp] theorem State.setReserved_clk (v : Nat) : (s.setReserved v).clk = s.clk := rfl
@[simp] theorem State.setReserved_resetLow (v : Nat) : (s.setReserved v).resetLow = s.resetLow := rfl
@[simp] theorem State.setReserved_mode (v : Nat) : (s.setReserved v).mode = s.mode := rfl
@[simp] theorem State.setReserved_banks (v : Nat) : (s.setReserved v).banks = s.banks := rfl
@[simp] theorem State.setReserved_accounts (v : Nat) : (s.setReserved v).accounts = s.accounts := rfl
@[simp] theorem State.setReserved_holds (v : Nat) : (s.setReserved v).holds = s.holds := rfl
@[simp] theorem State.setReserved_queues (v : Nat) : (s.setReserved v).queues = s.queues := rfl
@[simp] theorem State.setReserved_fwd (v : Nat) : (s.setReserved v).fwd = s.fwd := rfl
@[simp] theorem State.setReserved_time (v : Nat) : (s.setReserved v).time = s.time := rfl
@[simp] theorem State.setReserved_link (v : Nat) : (s.setReserved v).link = s.link := rfl
@[simp] theorem State.setReserved_recon (v : Nat) : (s.setReserved v).recon = s.recon := rfl
@[simp] theorem State.setReserved_farm (v : Nat) : (s.setReserved v).farm = s.farm := rfl
@[simp] theorem State.setReserved_svc (v : Nat) : (s.setReserved v).svc = s.svc := rfl
@[simp] theorem State.setReserved_mgmt (v : Nat) : (s.setReserved v).mgmt = s.mgmt := rfl
@[simp] theorem State.setReserved_reserved (v : Nat) : (s.setReserved v).reserved = v := rfl
@[simp] theorem State.setReserved_deferred (v : Nat) : (s.setReserved v).deferred = s.deferred := rfl
@[simp] theorem State.setDeferred_pending (v : Option (List UpEntry)) : (s.setDeferred v).pending = s.pending := rfl
@[simp] theorem State.setDeferred_clk (v : Option (List UpEntry)) : (s.setDeferred v).clk = s.clk := rfl
@[simp] theorem State.setDeferred_resetLow (v : Option (List UpEntry)) : (s.setDeferred v).resetLow = s.resetLow := rfl
@[simp] theorem State.setDeferred_mode (v : Option (List UpEntry)) : (s.setDeferred v).mode = s.mode := rfl
@[simp] theorem State.setDeferred_banks (v : Option (List UpEntry)) : (s.setDeferred v).banks = s.banks := rfl
@[simp] theorem State.setDeferred_accounts (v : Option (List UpEntry)) : (s.setDeferred v).accounts = s.accounts := rfl
@[simp] theorem State.setDeferred_holds (v : Option (List UpEntry)) : (s.setDeferred v).holds = s.holds := rfl
@[simp] theorem State.setDeferred_queues (v : Option (List UpEntry)) : (s.setDeferred v).queues = s.queues := rfl
@[simp] theorem State.setDeferred_fwd (v : Option (List UpEntry)) : (s.setDeferred v).fwd = s.fwd := rfl
@[simp] theorem State.setDeferred_time (v : Option (List UpEntry)) : (s.setDeferred v).time = s.time := rfl
@[simp] theorem State.setDeferred_link (v : Option (List UpEntry)) : (s.setDeferred v).link = s.link := rfl
@[simp] theorem State.setDeferred_recon (v : Option (List UpEntry)) : (s.setDeferred v).recon = s.recon := rfl
@[simp] theorem State.setDeferred_farm (v : Option (List UpEntry)) : (s.setDeferred v).farm = s.farm := rfl
@[simp] theorem State.setDeferred_svc (v : Option (List UpEntry)) : (s.setDeferred v).svc = s.svc := rfl
@[simp] theorem State.setDeferred_mgmt (v : Option (List UpEntry)) : (s.setDeferred v).mgmt = s.mgmt := rfl
@[simp] theorem State.setDeferred_reserved (v : Option (List UpEntry)) : (s.setDeferred v).reserved = s.reserved := rfl
@[simp] theorem State.setDeferred_deferred (v : Option (List UpEntry)) : (s.setDeferred v).deferred = v := rfl

end Sys2Proof.Machine
end

