-- ==== Sys2Proof/Laws/Kept.lean ====
section
/-! SUPPORT. What each shared operation leaves alone: one lemma per operation, a conjunction that simp uses field by field. -/

set_option Elab.async false

namespace Sys2Proof.Machine

variable (s : State)

@[simp] theorem State.pushUp_kept (e : UpEntry) :
    (s.pushUp e).pending = s.pending ∧ (s.pushUp e).clk = s.clk ∧ (s.pushUp e).resetLow = s.resetLow ∧ (s.pushUp e).mode = s.mode ∧
    (s.pushUp e).banks = s.banks ∧ (s.pushUp e).accounts = s.accounts ∧ (s.pushUp e).holds = s.holds ∧ (s.pushUp e).queues = s.queues ∧
    (s.pushUp e).fwd = s.fwd ∧ (s.pushUp e).time = s.time ∧ (s.pushUp e).link = s.link ∧ (s.pushUp e).recon = s.recon ∧
    (s.pushUp e).farm = s.farm ∧ (s.pushUp e).mgmt = s.mgmt ∧ (s.pushUp e).reserved = s.reserved ∧ (s.pushUp e).deferred = s.deferred := by
  simp only [State.pushUp]; (repeat' split) <;> simp

@[simp] theorem State.dropUp_kept :
    (s.dropUp).pending = s.pending ∧ (s.dropUp).clk = s.clk ∧ (s.dropUp).resetLow = s.resetLow ∧ (s.dropUp).mode = s.mode ∧
    (s.dropUp).banks = s.banks ∧ (s.dropUp).accounts = s.accounts ∧ (s.dropUp).holds = s.holds ∧ (s.dropUp).queues = s.queues ∧
    (s.dropUp).fwd = s.fwd ∧ (s.dropUp).time = s.time ∧ (s.dropUp).link = s.link ∧ (s.dropUp).recon = s.recon ∧ (s.dropUp).farm = s.farm ∧
    (s.dropUp).mgmt = s.mgmt ∧ (s.dropUp).reserved = s.reserved ∧ (s.dropUp).deferred = s.deferred := by
  simp only [State.dropUp]; (repeat' split) <;> simp

@[simp] theorem State.offerUp_kept (e : UpEntry) :
    (s.offerUp e).pending = s.pending ∧ (s.offerUp e).clk = s.clk ∧ (s.offerUp e).resetLow = s.resetLow ∧ (s.offerUp e).mode = s.mode ∧
    (s.offerUp e).banks = s.banks ∧ (s.offerUp e).accounts = s.accounts ∧ (s.offerUp e).holds = s.holds ∧
    (s.offerUp e).queues = s.queues ∧ (s.offerUp e).fwd = s.fwd ∧ (s.offerUp e).time = s.time ∧ (s.offerUp e).link = s.link ∧
    (s.offerUp e).recon = s.recon ∧ (s.offerUp e).farm = s.farm ∧ (s.offerUp e).mgmt = s.mgmt ∧ (s.offerUp e).reserved = s.reserved ∧
    (s.offerUp e).deferred = s.deferred := by
  simp only [State.offerUp]; (repeat' split) <;> simp

@[simp] theorem State.notice_kept (e : Event) :
    (s.notice e).pending = s.pending ∧ (s.notice e).clk = s.clk ∧ (s.notice e).resetLow = s.resetLow ∧ (s.notice e).mode = s.mode ∧
    (s.notice e).banks = s.banks ∧ (s.notice e).accounts = s.accounts ∧ (s.notice e).holds = s.holds ∧ (s.notice e).queues = s.queues ∧
    (s.notice e).fwd = s.fwd ∧ (s.notice e).time = s.time ∧ (s.notice e).link = s.link ∧ (s.notice e).recon = s.recon ∧
    (s.notice e).farm = s.farm ∧ (s.notice e).mgmt = s.mgmt ∧ (s.notice e).reserved = s.reserved := by
  simp only [State.notice]; (repeat' split) <;> simp

@[simp] theorem State.flagEvent_kept (e : Event) :
    (s.flagEvent e).pending = s.pending ∧ (s.flagEvent e).clk = s.clk ∧ (s.flagEvent e).resetLow = s.resetLow ∧
    (s.flagEvent e).mode = s.mode ∧ (s.flagEvent e).banks = s.banks ∧ (s.flagEvent e).accounts = s.accounts ∧
    (s.flagEvent e).holds = s.holds ∧ (s.flagEvent e).queues = s.queues ∧ (s.flagEvent e).fwd = s.fwd ∧ (s.flagEvent e).time = s.time ∧
    (s.flagEvent e).link = s.link ∧ (s.flagEvent e).recon = s.recon ∧ (s.flagEvent e).farm = s.farm ∧ (s.flagEvent e).svc = s.svc ∧
    (s.flagEvent e).reserved = s.reserved ∧ (s.flagEvent e).deferred = s.deferred := by
  simp only [State.flagEvent]; (repeat' split) <;> simp

@[simp] theorem State.raise_kept (e : Event) :
    (s.raise e).pending = s.pending ∧ (s.raise e).clk = s.clk ∧ (s.raise e).resetLow = s.resetLow ∧ (s.raise e).mode = s.mode ∧
    (s.raise e).banks = s.banks ∧ (s.raise e).accounts = s.accounts ∧ (s.raise e).holds = s.holds ∧ (s.raise e).queues = s.queues ∧
    (s.raise e).fwd = s.fwd ∧ (s.raise e).time = s.time ∧ (s.raise e).link = s.link ∧ (s.raise e).recon = s.recon ∧
    (s.raise e).farm = s.farm ∧ (s.raise e).reserved = s.reserved := by
  simp only [State.raise]; (repeat' split) <;> simp

@[simp] theorem State.offerFarm_kept (e : FarmEntry) :
    (s.offerFarm e).pending = s.pending ∧ (s.offerFarm e).clk = s.clk ∧ (s.offerFarm e).resetLow = s.resetLow ∧
    (s.offerFarm e).mode = s.mode ∧ (s.offerFarm e).banks = s.banks ∧ (s.offerFarm e).accounts = s.accounts ∧
    (s.offerFarm e).holds = s.holds ∧ (s.offerFarm e).queues = s.queues ∧ (s.offerFarm e).fwd = s.fwd ∧ (s.offerFarm e).time = s.time ∧
    (s.offerFarm e).link = s.link ∧ (s.offerFarm e).recon = s.recon ∧ (s.offerFarm e).svc = s.svc ∧ (s.offerFarm e).mgmt = s.mgmt ∧
    (s.offerFarm e).reserved = s.reserved ∧ (s.offerFarm e).deferred = s.deferred := by
  simp only [State.offerFarm]; (repeat' split) <;> simp

@[simp] theorem State.toFarm_kept (a : Addrs) (k : Key) (b : FarmBody) :
    (s.toFarm a k b).pending = s.pending ∧ (s.toFarm a k b).clk = s.clk ∧ (s.toFarm a k b).resetLow = s.resetLow ∧
    (s.toFarm a k b).mode = s.mode ∧ (s.toFarm a k b).banks = s.banks ∧ (s.toFarm a k b).accounts = s.accounts ∧
    (s.toFarm a k b).holds = s.holds ∧ (s.toFarm a k b).queues = s.queues ∧ (s.toFarm a k b).fwd = s.fwd ∧
    (s.toFarm a k b).time = s.time ∧ (s.toFarm a k b).link = s.link ∧ (s.toFarm a k b).recon = s.recon ∧ (s.toFarm a k b).svc = s.svc ∧
    (s.toFarm a k b).reserved = s.reserved ∧ (s.toFarm a k b).deferred = s.deferred := by
  simp only [State.toFarm]; (repeat' split) <;> simp

@[simp] theorem State.retry_kept (a : Addrs) (k : Key) (r : RetryReason) :
    (s.retry a k r).pending = s.pending ∧ (s.retry a k r).clk = s.clk ∧ (s.retry a k r).resetLow = s.resetLow ∧
    (s.retry a k r).mode = s.mode ∧ (s.retry a k r).banks = s.banks ∧ (s.retry a k r).accounts = s.accounts ∧
    (s.retry a k r).holds = s.holds ∧ (s.retry a k r).queues = s.queues ∧ (s.retry a k r).fwd = s.fwd ∧ (s.retry a k r).time = s.time ∧
    (s.retry a k r).link = s.link ∧ (s.retry a k r).recon = s.recon ∧ (s.retry a k r).svc = s.svc ∧
    (s.retry a k r).reserved = s.reserved ∧ (s.retry a k r).deferred = s.deferred := by
  simp only [State.retry]; (repeat' split) <;> simp

@[simp] theorem State.offerAll_kept (es : List UpEntry) :
    (es.foldl (fun t e => t.offerUp e) s).pending = s.pending ∧ (es.foldl (fun t e => t.offerUp e) s).clk = s.clk ∧
    (es.foldl (fun t e => t.offerUp e) s).resetLow = s.resetLow ∧ (es.foldl (fun t e => t.offerUp e) s).mode = s.mode ∧
    (es.foldl (fun t e => t.offerUp e) s).banks = s.banks ∧ (es.foldl (fun t e => t.offerUp e) s).accounts = s.accounts ∧
    (es.foldl (fun t e => t.offerUp e) s).holds = s.holds ∧ (es.foldl (fun t e => t.offerUp e) s).queues = s.queues ∧
    (es.foldl (fun t e => t.offerUp e) s).fwd = s.fwd ∧ (es.foldl (fun t e => t.offerUp e) s).time = s.time ∧
    (es.foldl (fun t e => t.offerUp e) s).link = s.link ∧ (es.foldl (fun t e => t.offerUp e) s).recon = s.recon ∧
    (es.foldl (fun t e => t.offerUp e) s).farm = s.farm ∧ (es.foldl (fun t e => t.offerUp e) s).mgmt = s.mgmt ∧
    (es.foldl (fun t e => t.offerUp e) s).reserved = s.reserved ∧ (es.foldl (fun t e => t.offerUp e) s).deferred = s.deferred := by
  induction es generalizing s with
  | nil => simp
  | cons a l ih => simp [ih]

@[simp] theorem State.answerMgmt_kept (k : Key) (r : MgmtReply) :
    (s.answerMgmt k r).pending = s.pending ∧ (s.answerMgmt k r).clk = s.clk ∧ (s.answerMgmt k r).resetLow = s.resetLow ∧
    (s.answerMgmt k r).mode = s.mode ∧ (s.answerMgmt k r).banks = s.banks ∧ (s.answerMgmt k r).accounts = s.accounts ∧
    (s.answerMgmt k r).holds = s.holds ∧ (s.answerMgmt k r).queues = s.queues ∧ (s.answerMgmt k r).fwd = s.fwd ∧
    (s.answerMgmt k r).time = s.time ∧ (s.answerMgmt k r).link = s.link ∧ (s.answerMgmt k r).recon = s.recon ∧
    (s.answerMgmt k r).farm = s.farm ∧ (s.answerMgmt k r).mgmt = s.mgmt := by
  simp only [State.answerMgmt]; simp

@[simp] theorem State.countPort_kept (p : Port) (f : PortStats → PortStats) :
    (s.countPort p f).pending = s.pending ∧ (s.countPort p f).clk = s.clk ∧ (s.countPort p f).resetLow = s.resetLow ∧
    (s.countPort p f).mode = s.mode ∧ (s.countPort p f).banks = s.banks ∧ (s.countPort p f).accounts = s.accounts ∧
    (s.countPort p f).holds = s.holds ∧ (s.countPort p f).queues = s.queues ∧ (s.countPort p f).fwd = s.fwd ∧
    (s.countPort p f).time = s.time ∧ (s.countPort p f).link = s.link ∧ (s.countPort p f).recon = s.recon ∧
    (s.countPort p f).mgmt = s.mgmt ∧ (s.countPort p f).reserved = s.reserved ∧ (s.countPort p f).deferred = s.deferred := by
  cases p <;> simp [State.countPort]

@[simp] theorem State.duePause_kept (q : Nat) :
    (s.duePause q).pending = s.pending ∧ (s.duePause q).clk = s.clk ∧ (s.duePause q).resetLow = s.resetLow ∧
    (s.duePause q).mode = s.mode ∧ (s.duePause q).banks = s.banks ∧ (s.duePause q).accounts = s.accounts ∧
    (s.duePause q).holds = s.holds ∧ (s.duePause q).queues = s.queues ∧ (s.duePause q).fwd = s.fwd ∧ (s.duePause q).time = s.time ∧
    (s.duePause q).link = s.link ∧ (s.duePause q).recon = s.recon ∧ (s.duePause q).svc = s.svc ∧ (s.duePause q).mgmt = s.mgmt ∧
    (s.duePause q).reserved = s.reserved ∧ (s.duePause q).deferred = s.deferred := by
  simp only [State.duePause]; (repeat' split) <;> simp

@[simp] theorem State.pauseRelease_kept :
    (s.pauseRelease).pending = s.pending ∧ (s.pauseRelease).clk = s.clk ∧ (s.pauseRelease).resetLow = s.resetLow ∧
    (s.pauseRelease).mode = s.mode ∧ (s.pauseRelease).banks = s.banks ∧ (s.pauseRelease).accounts = s.accounts ∧
    (s.pauseRelease).holds = s.holds ∧ (s.pauseRelease).queues = s.queues ∧ (s.pauseRelease).fwd = s.fwd ∧
    (s.pauseRelease).time = s.time ∧ (s.pauseRelease).link = s.link ∧ (s.pauseRelease).recon = s.recon ∧ (s.pauseRelease).svc = s.svc ∧
    (s.pauseRelease).mgmt = s.mgmt ∧ (s.pauseRelease).reserved = s.reserved ∧ (s.pauseRelease).deferred = s.deferred := by
  simp only [State.pauseRelease]; (repeat' split) <;> simp

@[simp] theorem State.pauseAssert_kept :
    (s.pauseAssert).pending = s.pending ∧ (s.pauseAssert).clk = s.clk ∧ (s.pauseAssert).resetLow = s.resetLow ∧
    (s.pauseAssert).mode = s.mode ∧ (s.pauseAssert).banks = s.banks ∧ (s.pauseAssert).accounts = s.accounts ∧
    (s.pauseAssert).holds = s.holds ∧ (s.pauseAssert).queues = s.queues ∧ (s.pauseAssert).fwd = s.fwd ∧ (s.pauseAssert).time = s.time ∧
    (s.pauseAssert).link = s.link ∧ (s.pauseAssert).recon = s.recon ∧ (s.pauseAssert).svc = s.svc ∧ (s.pauseAssert).mgmt = s.mgmt ∧
    (s.pauseAssert).reserved = s.reserved ∧ (s.pauseAssert).deferred = s.deferred := by
  simp only [State.pauseAssert]; (repeat' split) <;> simp

@[simp] theorem State.popIntake_kept (p : Port) :
    (s.popIntake p).pending = s.pending ∧ (s.popIntake p).clk = s.clk ∧ (s.popIntake p).resetLow = s.resetLow ∧
    (s.popIntake p).mode = s.mode ∧ (s.popIntake p).banks = s.banks ∧ (s.popIntake p).accounts = s.accounts ∧
    (s.popIntake p).holds = s.holds ∧ (s.popIntake p).queues = s.queues ∧ (s.popIntake p).fwd = s.fwd ∧ (s.popIntake p).time = s.time ∧
    (s.popIntake p).link = s.link ∧ (s.popIntake p).recon = s.recon ∧ (s.popIntake p).mgmt = s.mgmt ∧
    (s.popIntake p).reserved = s.reserved ∧ (s.popIntake p).deferred = s.deferred := by
  cases p <;> simp [State.popIntake]

@[simp] theorem State.takeSeat_kept (p : Port) (f : Frame) :
    (s.takeSeat p f).pending = s.pending ∧ (s.takeSeat p f).clk = s.clk ∧ (s.takeSeat p f).resetLow = s.resetLow ∧
    (s.takeSeat p f).mode = s.mode ∧ (s.takeSeat p f).banks = s.banks ∧ (s.takeSeat p f).accounts = s.accounts ∧
    (s.takeSeat p f).holds = s.holds ∧ (s.takeSeat p f).queues = s.queues ∧ (s.takeSeat p f).fwd = s.fwd ∧
    (s.takeSeat p f).time = s.time ∧ (s.takeSeat p f).link = s.link ∧ (s.takeSeat p f).recon = s.recon ∧ (s.takeSeat p f).mgmt = s.mgmt ∧
    (s.takeSeat p f).reserved = s.reserved ∧ (s.takeSeat p f).deferred = s.deferred := by
  cases p <;> simp [State.takeSeat]

@[simp] theorem State.takeMessage_kept (p : Port) (f : Frame) :
    (s.takeMessage p f).pending = s.pending ∧ (s.takeMessage p f).clk = s.clk ∧ (s.takeMessage p f).resetLow = s.resetLow ∧
    (s.takeMessage p f).mode = s.mode ∧ (s.takeMessage p f).banks = s.banks ∧ (s.takeMessage p f).accounts = s.accounts ∧
    (s.takeMessage p f).holds = s.holds ∧ (s.takeMessage p f).queues = s.queues ∧ (s.takeMessage p f).fwd = s.fwd ∧
    (s.takeMessage p f).time = s.time ∧ (s.takeMessage p f).link = s.link ∧ (s.takeMessage p f).recon = s.recon ∧
    (s.takeMessage p f).mgmt = s.mgmt ∧ (s.takeMessage p f).reserved = s.reserved ∧ (s.takeMessage p f).deferred = s.deferred := by
  simp only [State.takeMessage]; (repeat' split) <;> simp

@[simp] theorem State.fillOpposite_kept (p : Port) (f : Frame) :
    (s.fillOpposite p f).pending = s.pending ∧ (s.fillOpposite p f).clk = s.clk ∧ (s.fillOpposite p f).resetLow = s.resetLow ∧
    (s.fillOpposite p f).mode = s.mode ∧ (s.fillOpposite p f).banks = s.banks ∧ (s.fillOpposite p f).accounts = s.accounts ∧
    (s.fillOpposite p f).holds = s.holds ∧ (s.fillOpposite p f).queues = s.queues ∧ (s.fillOpposite p f).fwd = s.fwd ∧
    (s.fillOpposite p f).time = s.time ∧ (s.fillOpposite p f).link = s.link ∧ (s.fillOpposite p f).recon = s.recon ∧
    (s.fillOpposite p f).mgmt = s.mgmt ∧ (s.fillOpposite p f).reserved = s.reserved ∧ (s.fillOpposite p f).deferred = s.deferred := by
  cases p <;> simp [State.fillOpposite]

@[simp] theorem State.bridgeSeat_kept (p : Port) (f : Frame) :
    (s.bridgeSeat p f).pending = s.pending ∧ (s.bridgeSeat p f).clk = s.clk ∧ (s.bridgeSeat p f).resetLow = s.resetLow ∧
    (s.bridgeSeat p f).mode = s.mode ∧ (s.bridgeSeat p f).banks = s.banks ∧ (s.bridgeSeat p f).accounts = s.accounts ∧
    (s.bridgeSeat p f).holds = s.holds ∧ (s.bridgeSeat p f).queues = s.queues ∧ (s.bridgeSeat p f).fwd = s.fwd ∧
    (s.bridgeSeat p f).time = s.time ∧ (s.bridgeSeat p f).link = s.link ∧ (s.bridgeSeat p f).recon = s.recon ∧
    (s.bridgeSeat p f).mgmt = s.mgmt ∧ (s.bridgeSeat p f).reserved = s.reserved ∧ (s.bridgeSeat p f).deferred = s.deferred := by
  simp only [State.bridgeSeat]; (repeat' split) <;> simp

@[simp] theorem State.passBridge_kept (p : Port) (f : Frame) :
    (s.passBridge p f).pending = s.pending ∧ (s.passBridge p f).clk = s.clk ∧ (s.passBridge p f).resetLow = s.resetLow ∧
    (s.passBridge p f).mode = s.mode ∧ (s.passBridge p f).banks = s.banks ∧ (s.passBridge p f).accounts = s.accounts ∧
    (s.passBridge p f).holds = s.holds ∧ (s.passBridge p f).queues = s.queues ∧ (s.passBridge p f).fwd = s.fwd ∧
    (s.passBridge p f).time = s.time ∧ (s.passBridge p f).link = s.link ∧ (s.passBridge p f).recon = s.recon ∧
    (s.passBridge p f).mgmt = s.mgmt ∧ (s.passBridge p f).reserved = s.reserved ∧ (s.passBridge p f).deferred = s.deferred := by
  simp only [State.passBridge]; (repeat' split) <;> simp

@[simp] theorem State.setAcct_kept (p : Nat) (a : Account) :
    (s.setAcct p a).pending = s.pending ∧ (s.setAcct p a).clk = s.clk ∧ (s.setAcct p a).resetLow = s.resetLow ∧
    (s.setAcct p a).mode = s.mode ∧ (s.setAcct p a).banks = s.banks ∧ (s.setAcct p a).holds = s.holds ∧
    (s.setAcct p a).queues = s.queues ∧ (s.setAcct p a).fwd = s.fwd ∧ (s.setAcct p a).time = s.time ∧ (s.setAcct p a).link = s.link ∧
    (s.setAcct p a).recon = s.recon ∧ (s.setAcct p a).farm = s.farm ∧ (s.setAcct p a).svc = s.svc ∧ (s.setAcct p a).mgmt = s.mgmt ∧
    (s.setAcct p a).reserved = s.reserved ∧ (s.setAcct p a).deferred = s.deferred := by
  simp only [State.setAcct]; (repeat' split) <;> simp

@[simp] theorem State.modAcct_kept (p : Nat) (f : Account → Account) :
    (s.modAcct p f).pending = s.pending ∧ (s.modAcct p f).clk = s.clk ∧ (s.modAcct p f).resetLow = s.resetLow ∧
    (s.modAcct p f).mode = s.mode ∧ (s.modAcct p f).banks = s.banks ∧ (s.modAcct p f).holds = s.holds ∧
    (s.modAcct p f).queues = s.queues ∧ (s.modAcct p f).fwd = s.fwd ∧ (s.modAcct p f).time = s.time ∧ (s.modAcct p f).link = s.link ∧
    (s.modAcct p f).recon = s.recon ∧ (s.modAcct p f).farm = s.farm ∧ (s.modAcct p f).svc = s.svc ∧ (s.modAcct p f).mgmt = s.mgmt ∧
    (s.modAcct p f).reserved = s.reserved ∧ (s.modAcct p f).deferred = s.deferred := by
  simp only [State.modAcct]; (repeat' split) <;> simp

@[simp] theorem State.askPass_kept (p : Nat) :
    (s.askPass p).pending = s.pending ∧ (s.askPass p).clk = s.clk ∧ (s.askPass p).resetLow = s.resetLow ∧ (s.askPass p).mode = s.mode ∧
    (s.askPass p).banks = s.banks ∧ (s.askPass p).accounts = s.accounts ∧ (s.askPass p).holds = s.holds ∧ (s.askPass p).fwd = s.fwd ∧
    (s.askPass p).time = s.time ∧ (s.askPass p).link = s.link ∧ (s.askPass p).recon = s.recon ∧ (s.askPass p).farm = s.farm ∧
    (s.askPass p).svc = s.svc ∧ (s.askPass p).mgmt = s.mgmt ∧ (s.askPass p).reserved = s.reserved ∧ (s.askPass p).deferred = s.deferred := by
  simp only [State.askPass]; (repeat' split) <;> simp

@[simp] theorem State.askOrdered_kept (p : Nat) :
    (s.askOrdered p).pending = s.pending ∧ (s.askOrdered p).clk = s.clk ∧ (s.askOrdered p).resetLow = s.resetLow ∧
    (s.askOrdered p).mode = s.mode ∧ (s.askOrdered p).banks = s.banks ∧ (s.askOrdered p).accounts = s.accounts ∧
    (s.askOrdered p).holds = s.holds ∧ (s.askOrdered p).fwd = s.fwd ∧ (s.askOrdered p).time = s.time ∧ (s.askOrdered p).link = s.link ∧
    (s.askOrdered p).recon = s.recon ∧ (s.askOrdered p).farm = s.farm ∧ (s.askOrdered p).svc = s.svc ∧ (s.askOrdered p).mgmt = s.mgmt ∧
    (s.askOrdered p).reserved = s.reserved ∧ (s.askOrdered p).deferred = s.deferred := by
  simp only [State.askOrdered]; (repeat' split) <;> simp

@[simp] theorem State.accountAsks_kept (p : Nat) :
    (s.accountAsks p).pending = s.pending ∧ (s.accountAsks p).clk = s.clk ∧ (s.accountAsks p).resetLow = s.resetLow ∧
    (s.accountAsks p).mode = s.mode ∧ (s.accountAsks p).banks = s.banks ∧ (s.accountAsks p).accounts = s.accounts ∧
    (s.accountAsks p).holds = s.holds ∧ (s.accountAsks p).fwd = s.fwd ∧ (s.accountAsks p).time = s.time ∧
    (s.accountAsks p).link = s.link ∧ (s.accountAsks p).recon = s.recon ∧ (s.accountAsks p).farm = s.farm ∧
    (s.accountAsks p).svc = s.svc ∧ (s.accountAsks p).mgmt = s.mgmt ∧ (s.accountAsks p).reserved = s.reserved ∧
    (s.accountAsks p).deferred = s.deferred := by
  simp only [State.accountAsks]; (repeat' split) <;> simp

@[simp] theorem State.askPasses_kept (ps : List Nat) :
    (s.askPasses ps).pending = s.pending ∧ (s.askPasses ps).clk = s.clk ∧ (s.askPasses ps).resetLow = s.resetLow ∧
    (s.askPasses ps).mode = s.mode ∧ (s.askPasses ps).banks = s.banks ∧ (s.askPasses ps).accounts = s.accounts ∧
    (s.askPasses ps).holds = s.holds ∧ (s.askPasses ps).fwd = s.fwd ∧ (s.askPasses ps).time = s.time ∧ (s.askPasses ps).link = s.link ∧
    (s.askPasses ps).recon = s.recon ∧ (s.askPasses ps).farm = s.farm ∧ (s.askPasses ps).svc = s.svc ∧ (s.askPasses ps).mgmt = s.mgmt ∧
    (s.askPasses ps).reserved = s.reserved ∧ (s.askPasses ps).deferred = s.deferred := by
  induction ps generalizing s with
  | nil => simp [State.askPasses]
  | cons a l ih => simp only [State.askPasses, List.foldl_cons] at ih ⊢; simp [ih]

@[simp] theorem State.askAllOrdered_kept (ps : List Nat) :
    (s.askAllOrdered ps).pending = s.pending ∧ (s.askAllOrdered ps).clk = s.clk ∧ (s.askAllOrdered ps).resetLow = s.resetLow ∧
    (s.askAllOrdered ps).mode = s.mode ∧ (s.askAllOrdered ps).banks = s.banks ∧ (s.askAllOrdered ps).accounts = s.accounts ∧
    (s.askAllOrdered ps).holds = s.holds ∧ (s.askAllOrdered ps).fwd = s.fwd ∧ (s.askAllOrdered ps).time = s.time ∧
    (s.askAllOrdered ps).link = s.link ∧ (s.askAllOrdered ps).recon = s.recon ∧ (s.askAllOrdered ps).farm = s.farm ∧
    (s.askAllOrdered ps).svc = s.svc ∧ (s.askAllOrdered ps).mgmt = s.mgmt ∧ (s.askAllOrdered ps).reserved = s.reserved ∧
    (s.askAllOrdered ps).deferred = s.deferred := by
  induction ps generalizing s with
  | nil => simp [State.askAllOrdered]
  | cons a l ih => simp only [State.askAllOrdered, List.foldl_cons] at ih ⊢; simp [ih]

@[simp] theorem State.reevaluate_kept (p : Nat) :
    (s.reevaluate p).pending = s.pending ∧ (s.reevaluate p).clk = s.clk ∧ (s.reevaluate p).resetLow = s.resetLow ∧
    (s.reevaluate p).mode = s.mode ∧ (s.reevaluate p).banks = s.banks ∧ (s.reevaluate p).holds = s.holds ∧ (s.reevaluate p).fwd = s.fwd ∧
    (s.reevaluate p).time = s.time ∧ (s.reevaluate p).link = s.link ∧ (s.reevaluate p).recon = s.recon ∧ (s.reevaluate p).farm = s.farm ∧
    (s.reevaluate p).reserved = s.reserved := by
  simp only [State.reevaluate]; (repeat' split) <;> simp

@[simp] theorem State.respond_kept (b : State) (p : Nat) :
    (State.respond b p s).pending = s.pending ∧ (State.respond b p s).clk = s.clk ∧ (State.respond b p s).resetLow = s.resetLow ∧
    (State.respond b p s).mode = s.mode ∧ (State.respond b p s).banks = s.banks ∧ (State.respond b p s).holds = s.holds ∧
    (State.respond b p s).fwd = s.fwd ∧ (State.respond b p s).time = s.time ∧ (State.respond b p s).link = s.link ∧
    (State.respond b p s).recon = s.recon ∧ (State.respond b p s).farm = s.farm ∧ (State.respond b p s).reserved = s.reserved := by
  simp only [State.respond]; (repeat' split) <;> simp

@[simp] theorem State.respondAll_kept (b : State) (ps : List Nat) :
    (State.respondAll b ps s).pending = s.pending ∧ (State.respondAll b ps s).clk = s.clk ∧
    (State.respondAll b ps s).resetLow = s.resetLow ∧ (State.respondAll b ps s).mode = s.mode ∧
    (State.respondAll b ps s).banks = s.banks ∧ (State.respondAll b ps s).holds = s.holds ∧ (State.respondAll b ps s).fwd = s.fwd ∧
    (State.respondAll b ps s).time = s.time ∧ (State.respondAll b ps s).link = s.link ∧ (State.respondAll b ps s).recon = s.recon ∧
    (State.respondAll b ps s).farm = s.farm ∧ (State.respondAll b ps s).reserved = s.reserved := by
  induction ps generalizing s with
  | nil => simp [State.respondAll]
  | cons a l ih => simp only [State.respondAll, List.foldl_cons] at ih ⊢; simp [ih]

@[simp] theorem State.queueReport_kept (p : Nat) (c : ChangeKind) (h : Hold) (x : Handle) (d : Int) :
    (s.queueReport p c h x d).pending = s.pending ∧ (s.queueReport p c h x d).clk = s.clk ∧
    (s.queueReport p c h x d).resetLow = s.resetLow ∧ (s.queueReport p c h x d).mode = s.mode ∧
    (s.queueReport p c h x d).banks = s.banks ∧ (s.queueReport p c h x d).holds = s.holds ∧ (s.queueReport p c h x d).queues = s.queues ∧
    (s.queueReport p c h x d).fwd = s.fwd ∧ (s.queueReport p c h x d).time = s.time ∧ (s.queueReport p c h x d).link = s.link ∧
    (s.queueReport p c h x d).recon = s.recon ∧ (s.queueReport p c h x d).farm = s.farm ∧ (s.queueReport p c h x d).mgmt = s.mgmt ∧
    (s.queueReport p c h x d).reserved = s.reserved ∧ (s.queueReport p c h x d).deferred = s.deferred := by
  simp only [State.queueReport]; (repeat' split) <;> simp

@[simp] theorem State.setGap_kept (p : Nat) :
    (s.setGap p).pending = s.pending ∧ (s.setGap p).clk = s.clk ∧ (s.setGap p).resetLow = s.resetLow ∧ (s.setGap p).mode = s.mode ∧
    (s.setGap p).banks = s.banks ∧ (s.setGap p).holds = s.holds ∧ (s.setGap p).queues = s.queues ∧ (s.setGap p).fwd = s.fwd ∧
    (s.setGap p).time = s.time ∧ (s.setGap p).link = s.link ∧ (s.setGap p).recon = s.recon ∧ (s.setGap p).farm = s.farm ∧
    (s.setGap p).reserved = s.reserved := by
  simp only [State.setGap]; (repeat' split) <;> simp

@[simp] theorem State.reportRelease_kept (p : Nat) (c : ChangeKind) (h : Hold) (x : Handle) (d : Int) :
    (s.reportRelease p c h x d).pending = s.pending ∧ (s.reportRelease p c h x d).clk = s.clk ∧
    (s.reportRelease p c h x d).resetLow = s.resetLow ∧ (s.reportRelease p c h x d).mode = s.mode ∧
    (s.reportRelease p c h x d).banks = s.banks ∧ (s.reportRelease p c h x d).holds = s.holds ∧
    (s.reportRelease p c h x d).queues = s.queues ∧ (s.reportRelease p c h x d).fwd = s.fwd ∧ (s.reportRelease p c h x d).time = s.time ∧
    (s.reportRelease p c h x d).link = s.link ∧ (s.reportRelease p c h x d).recon = s.recon ∧ (s.reportRelease p c h x d).farm = s.farm ∧
    (s.reportRelease p c h x d).reserved = s.reserved := by
  simp only [State.reportRelease]; (repeat' split) <;> simp

@[simp] theorem State.charge_kept (p n m : Nat) (c : ChangeKind) (h : Hold) (x : Handle) :
    (s.charge p n m c h x).pending = s.pending ∧ (s.charge p n m c h x).clk = s.clk ∧ (s.charge p n m c h x).resetLow = s.resetLow ∧
    (s.charge p n m c h x).mode = s.mode ∧ (s.charge p n m c h x).banks = s.banks ∧ (s.charge p n m c h x).holds = s.holds ∧
    (s.charge p n m c h x).fwd = s.fwd ∧ (s.charge p n m c h x).time = s.time ∧ (s.charge p n m c h x).link = s.link ∧
    (s.charge p n m c h x).recon = s.recon ∧ (s.charge p n m c h x).farm = s.farm ∧ (s.charge p n m c h x).reserved = s.reserved := by
  simp only [State.charge]; (repeat' split) <;> simp

@[simp] theorem State.credit_kept (p : Nat) (c : ChangeKind) (h : Hold) (x : Handle) :
    (s.credit p c h x).pending = s.pending ∧ (s.credit p c h x).clk = s.clk ∧ (s.credit p c h x).resetLow = s.resetLow ∧
    (s.credit p c h x).mode = s.mode ∧ (s.credit p c h x).banks = s.banks ∧ (s.credit p c h x).holds = s.holds ∧
    (s.credit p c h x).fwd = s.fwd ∧ (s.credit p c h x).time = s.time ∧ (s.credit p c h x).link = s.link ∧
    (s.credit p c h x).recon = s.recon ∧ (s.credit p c h x).farm = s.farm ∧ (s.credit p c h x).reserved = s.reserved := by
  simp only [State.credit]; (repeat' split) <;> simp

@[simp] theorem State.countPoolGrant_kept (p : Nat) :
    (s.countPoolGrant p).pending = s.pending ∧ (s.countPoolGrant p).clk = s.clk ∧ (s.countPoolGrant p).resetLow = s.resetLow ∧
    (s.countPoolGrant p).mode = s.mode ∧ (s.countPoolGrant p).banks = s.banks ∧ (s.countPoolGrant p).holds = s.holds ∧
    (s.countPoolGrant p).queues = s.queues ∧ (s.countPoolGrant p).fwd = s.fwd ∧ (s.countPoolGrant p).time = s.time ∧
    (s.countPoolGrant p).link = s.link ∧ (s.countPoolGrant p).recon = s.recon ∧ (s.countPoolGrant p).farm = s.farm ∧
    (s.countPoolGrant p).svc = s.svc ∧ (s.countPoolGrant p).mgmt = s.mgmt ∧ (s.countPoolGrant p).reserved = s.reserved ∧
    (s.countPoolGrant p).deferred = s.deferred := by
  simp only [State.countPoolGrant]; (repeat' split) <;> simp

@[simp] theorem State.putHold_kept (n : Nat) (h : Hold) :
    (s.putHold n h).pending = s.pending ∧ (s.putHold n h).clk = s.clk ∧ (s.putHold n h).resetLow = s.resetLow ∧
    (s.putHold n h).mode = s.mode ∧ (s.putHold n h).banks = s.banks ∧ (s.putHold n h).accounts = s.accounts ∧
    (s.putHold n h).queues = s.queues ∧ (s.putHold n h).fwd = s.fwd ∧ (s.putHold n h).time = s.time ∧ (s.putHold n h).link = s.link ∧
    (s.putHold n h).recon = s.recon ∧ (s.putHold n h).farm = s.farm ∧ (s.putHold n h).svc = s.svc ∧ (s.putHold n h).mgmt = s.mgmt ∧
    (s.putHold n h).reserved = s.reserved ∧ (s.putHold n h).deferred = s.deferred := by
  simp only [State.putHold]; (repeat' split) <;> simp

@[simp] theorem State.freeSlot_kept (n : Nat) :
    (s.freeSlot n).pending = s.pending ∧ (s.freeSlot n).clk = s.clk ∧ (s.freeSlot n).resetLow = s.resetLow ∧
    (s.freeSlot n).mode = s.mode ∧ (s.freeSlot n).banks = s.banks ∧ (s.freeSlot n).accounts = s.accounts ∧
    (s.freeSlot n).queues = s.queues ∧ (s.freeSlot n).fwd = s.fwd ∧ (s.freeSlot n).time = s.time ∧ (s.freeSlot n).link = s.link ∧
    (s.freeSlot n).recon = s.recon ∧ (s.freeSlot n).farm = s.farm ∧ (s.freeSlot n).svc = s.svc ∧ (s.freeSlot n).mgmt = s.mgmt ∧
    (s.freeSlot n).reserved = s.reserved ∧ (s.freeSlot n).deferred = s.deferred := by
  simp only [State.freeSlot]; (repeat' split) <;> simp

@[simp] theorem State.slotFreed_kept (b : Bool) :
    (s.slotFreed b).pending = s.pending ∧ (s.slotFreed b).clk = s.clk ∧ (s.slotFreed b).resetLow = s.resetLow ∧
    (s.slotFreed b).mode = s.mode ∧ (s.slotFreed b).banks = s.banks ∧ (s.slotFreed b).accounts = s.accounts ∧
    (s.slotFreed b).holds = s.holds ∧ (s.slotFreed b).fwd = s.fwd ∧ (s.slotFreed b).time = s.time ∧ (s.slotFreed b).link = s.link ∧
    (s.slotFreed b).recon = s.recon ∧ (s.slotFreed b).farm = s.farm ∧ (s.slotFreed b).svc = s.svc ∧ (s.slotFreed b).mgmt = s.mgmt ∧
    (s.slotFreed b).reserved = s.reserved ∧ (s.slotFreed b).deferred = s.deferred := by
  simp only [State.slotFreed]; (repeat' split) <;> simp

@[simp] theorem State.removeHold_kept (n : Nat) (h : Hold) (c : ChangeKind) :
    (s.removeHold n h c).pending = s.pending ∧ (s.removeHold n h c).clk = s.clk ∧ (s.removeHold n h c).resetLow = s.resetLow ∧
    (s.removeHold n h c).mode = s.mode ∧ (s.removeHold n h c).banks = s.banks ∧ (s.removeHold n h c).fwd = s.fwd ∧
    (s.removeHold n h c).time = s.time ∧ (s.removeHold n h c).link = s.link ∧ (s.removeHold n h c).recon = s.recon ∧
    (s.removeHold n h c).farm = s.farm ∧ (s.removeHold n h c).reserved = s.reserved := by
  simp only [State.removeHold]; (repeat' split) <;> simp

@[simp] theorem State.reclaim_kept (n : Nat) (h : Hold) :
    (s.reclaim n h).pending = s.pending ∧ (s.reclaim n h).clk = s.clk ∧ (s.reclaim n h).resetLow = s.resetLow ∧
    (s.reclaim n h).mode = s.mode ∧ (s.reclaim n h).banks = s.banks ∧ (s.reclaim n h).fwd = s.fwd ∧ (s.reclaim n h).time = s.time ∧
    (s.reclaim n h).link = s.link ∧ (s.reclaim n h).recon = s.recon ∧ (s.reclaim n h).farm = s.farm ∧
    (s.reclaim n h).reserved = s.reserved := by
  simp only [State.reclaim]; (repeat' split) <;> simp

@[simp] theorem State.newHold_kept (p : Nat) (h : Hold) :
    (s.newHold p h).pending = s.pending ∧ (s.newHold p h).clk = s.clk ∧ (s.newHold p h).resetLow = s.resetLow ∧
    (s.newHold p h).mode = s.mode ∧ (s.newHold p h).banks = s.banks ∧ (s.newHold p h).fwd = s.fwd ∧ (s.newHold p h).time = s.time ∧
    (s.newHold p h).link = s.link ∧ (s.newHold p h).recon = s.recon ∧ (s.newHold p h).farm = s.farm ∧
    (s.newHold p h).reserved = s.reserved := by
  simp only [State.newHold]; (repeat' split) <;> simp

@[simp] theorem State.joinHold_kept (n : Nat) (h : Hold) (i : Nat) :
    (s.joinHold n h i).pending = s.pending ∧ (s.joinHold n h i).clk = s.clk ∧ (s.joinHold n h i).resetLow = s.resetLow ∧
    (s.joinHold n h i).mode = s.mode ∧ (s.joinHold n h i).banks = s.banks ∧ (s.joinHold n h i).queues = s.queues ∧
    (s.joinHold n h i).fwd = s.fwd ∧ (s.joinHold n h i).time = s.time ∧ (s.joinHold n h i).link = s.link ∧
    (s.joinHold n h i).recon = s.recon ∧ (s.joinHold n h i).farm = s.farm ∧ (s.joinHold n h i).svc = s.svc ∧
    (s.joinHold n h i).mgmt = s.mgmt ∧ (s.joinHold n h i).reserved = s.reserved ∧ (s.joinHold n h i).deferred = s.deferred := by
  simp only [State.joinHold]; (repeat' split) <;> simp

@[simp] theorem State.upgradeHold_kept (n : Nat) (h : Hold) (k i : Nat) :
    (s.upgradeHold n h k i).pending = s.pending ∧ (s.upgradeHold n h k i).clk = s.clk ∧ (s.upgradeHold n h k i).resetLow = s.resetLow ∧
    (s.upgradeHold n h k i).mode = s.mode ∧ (s.upgradeHold n h k i).banks = s.banks ∧ (s.upgradeHold n h k i).fwd = s.fwd ∧
    (s.upgradeHold n h k i).time = s.time ∧ (s.upgradeHold n h k i).link = s.link ∧ (s.upgradeHold n h k i).recon = s.recon ∧
    (s.upgradeHold n h k i).farm = s.farm ∧ (s.upgradeHold n h k i).reserved = s.reserved := by
  simp only [State.upgradeHold]; (repeat' split) <;> simp

@[simp] theorem State.unlink_kept (e : WaitEntry) :
    (s.unlink e).pending = s.pending ∧ (s.unlink e).clk = s.clk ∧ (s.unlink e).resetLow = s.resetLow ∧ (s.unlink e).mode = s.mode ∧
    (s.unlink e).banks = s.banks ∧ (s.unlink e).holds = s.holds ∧ (s.unlink e).fwd = s.fwd ∧ (s.unlink e).time = s.time ∧
    (s.unlink e).link = s.link ∧ (s.unlink e).recon = s.recon ∧ (s.unlink e).farm = s.farm ∧ (s.unlink e).svc = s.svc ∧
    (s.unlink e).mgmt = s.mgmt ∧ (s.unlink e).reserved = s.reserved ∧ (s.unlink e).deferred = s.deferred := by
  simp only [State.unlink]; (repeat' split) <;> simp

@[simp] theorem State.unlinkAsking_kept (e : WaitEntry) :
    (s.unlinkAsking e).pending = s.pending ∧ (s.unlinkAsking e).clk = s.clk ∧ (s.unlinkAsking e).resetLow = s.resetLow ∧
    (s.unlinkAsking e).mode = s.mode ∧ (s.unlinkAsking e).banks = s.banks ∧ (s.unlinkAsking e).holds = s.holds ∧
    (s.unlinkAsking e).fwd = s.fwd ∧ (s.unlinkAsking e).time = s.time ∧ (s.unlinkAsking e).link = s.link ∧
    (s.unlinkAsking e).recon = s.recon ∧ (s.unlinkAsking e).farm = s.farm ∧ (s.unlinkAsking e).svc = s.svc ∧
    (s.unlinkAsking e).mgmt = s.mgmt ∧ (s.unlinkAsking e).reserved = s.reserved ∧ (s.unlinkAsking e).deferred = s.deferred := by
  simp only [State.unlinkAsking]; (repeat' split) <;> simp

@[simp] theorem State.dismiss_kept (b : FarmBody) (e : WaitEntry) :
    (s.dismiss b e).pending = s.pending ∧ (s.dismiss b e).clk = s.clk ∧ (s.dismiss b e).resetLow = s.resetLow ∧
    (s.dismiss b e).mode = s.mode ∧ (s.dismiss b e).banks = s.banks ∧ (s.dismiss b e).holds = s.holds ∧ (s.dismiss b e).fwd = s.fwd ∧
    (s.dismiss b e).time = s.time ∧ (s.dismiss b e).link = s.link ∧ (s.dismiss b e).recon = s.recon ∧ (s.dismiss b e).svc = s.svc ∧
    (s.dismiss b e).reserved = s.reserved ∧ (s.dismiss b e).deferred = s.deferred := by
  simp only [State.dismiss]; (repeat' split) <;> simp

@[simp] theorem State.dismissAll_kept (b : FarmBody) (es : List WaitEntry) :
    (s.dismissAll b es).pending = s.pending ∧ (s.dismissAll b es).clk = s.clk ∧ (s.dismissAll b es).resetLow = s.resetLow ∧
    (s.dismissAll b es).mode = s.mode ∧ (s.dismissAll b es).banks = s.banks ∧ (s.dismissAll b es).holds = s.holds ∧
    (s.dismissAll b es).fwd = s.fwd ∧ (s.dismissAll b es).time = s.time ∧ (s.dismissAll b es).link = s.link ∧
    (s.dismissAll b es).recon = s.recon ∧ (s.dismissAll b es).svc = s.svc ∧ (s.dismissAll b es).reserved = s.reserved ∧
    (s.dismissAll b es).deferred = s.deferred := by
  induction es generalizing s with
  | nil => simp [State.dismissAll]
  | cons a l ih => simp only [State.dismissAll, List.foldl_cons] at ih ⊢; simp [ih]

@[simp] theorem State.addForward_kept (k : Key) (r : RequestKind) (n : Nat) (a : Addrs) :
    (s.addForward k r n a).pending = s.pending ∧ (s.addForward k r n a).clk = s.clk ∧ (s.addForward k r n a).resetLow = s.resetLow ∧
    (s.addForward k r n a).mode = s.mode ∧ (s.addForward k r n a).banks = s.banks ∧ (s.addForward k r n a).accounts = s.accounts ∧
    (s.addForward k r n a).holds = s.holds ∧ (s.addForward k r n a).queues = s.queues ∧ (s.addForward k r n a).time = s.time ∧
    (s.addForward k r n a).link = s.link ∧ (s.addForward k r n a).recon = s.recon ∧ (s.addForward k r n a).farm = s.farm ∧
    (s.addForward k r n a).svc = s.svc ∧ (s.addForward k r n a).reserved = s.reserved ∧ (s.addForward k r n a).deferred = s.deferred := by
  simp only [State.addForward]; (repeat' split) <;> simp

@[simp] theorem State.forwardRequest_kept (f : Frame) (k : Key) (r : RequestKind) (n : Nat) :
    (s.forwardRequest f k r n).pending = s.pending ∧ (s.forwardRequest f k r n).clk = s.clk ∧
    (s.forwardRequest f k r n).resetLow = s.resetLow ∧ (s.forwardRequest f k r n).mode = s.mode ∧
    (s.forwardRequest f k r n).banks = s.banks ∧ (s.forwardRequest f k r n).accounts = s.accounts ∧
    (s.forwardRequest f k r n).holds = s.holds ∧ (s.forwardRequest f k r n).queues = s.queues ∧ (s.forwardRequest f k r n).time = s.time ∧
    (s.forwardRequest f k r n).link = s.link ∧ (s.forwardRequest f k r n).recon = s.recon ∧
    (s.forwardRequest f k r n).reserved = s.reserved ∧ (s.forwardRequest f k r n).deferred = s.deferred := by
  simp only [State.forwardRequest]; (repeat' split) <;> simp

@[simp] theorem State.forwardEntry_kept (e : WaitEntry) :
    (s.forwardEntry e).pending = s.pending ∧ (s.forwardEntry e).clk = s.clk ∧ (s.forwardEntry e).resetLow = s.resetLow ∧
    (s.forwardEntry e).mode = s.mode ∧ (s.forwardEntry e).banks = s.banks ∧ (s.forwardEntry e).accounts = s.accounts ∧
    (s.forwardEntry e).holds = s.holds ∧ (s.forwardEntry e).queues = s.queues ∧ (s.forwardEntry e).time = s.time ∧
    (s.forwardEntry e).link = s.link ∧ (s.forwardEntry e).recon = s.recon ∧ (s.forwardEntry e).farm = s.farm ∧
    (s.forwardEntry e).reserved = s.reserved ∧ (s.forwardEntry e).deferred = s.deferred := by
  simp only [State.forwardEntry]; (repeat' split) <;> simp

@[simp] theorem State.drainEntry_kept (e : WaitEntry) :
    (s.drainEntry e).pending = s.pending ∧ (s.drainEntry e).clk = s.clk ∧ (s.drainEntry e).resetLow = s.resetLow ∧
    (s.drainEntry e).mode = s.mode ∧ (s.drainEntry e).banks = s.banks ∧ (s.drainEntry e).holds = s.holds ∧
    (s.drainEntry e).time = s.time ∧ (s.drainEntry e).link = s.link ∧ (s.drainEntry e).recon = s.recon ∧
    (s.drainEntry e).reserved = s.reserved ∧ (s.drainEntry e).deferred = s.deferred := by
  simp only [State.drainEntry]; (repeat' split) <;> simp

@[simp] theorem State.revokeEntry_kept (e : WaitEntry) :
    (s.revokeEntry e).pending = s.pending ∧ (s.revokeEntry e).clk = s.clk ∧ (s.revokeEntry e).resetLow = s.resetLow ∧
    (s.revokeEntry e).mode = s.mode ∧ (s.revokeEntry e).banks = s.banks ∧ (s.revokeEntry e).holds = s.holds ∧
    (s.revokeEntry e).time = s.time ∧ (s.revokeEntry e).link = s.link ∧ (s.revokeEntry e).recon = s.recon ∧
    (s.revokeEntry e).reserved = s.reserved ∧ (s.revokeEntry e).deferred = s.deferred := by
  simp only [State.revokeEntry]; (repeat' split) <;> simp

@[simp] theorem State.moveTime_kept (n : Nat) :
    (s.moveTime n).pending = s.pending ∧ (s.moveTime n).clk = s.clk ∧ (s.moveTime n).resetLow = s.resetLow ∧
    (s.moveTime n).mode = s.mode ∧ (s.moveTime n).banks = s.banks ∧ (s.moveTime n).accounts = s.accounts ∧
    (s.moveTime n).holds = s.holds ∧ (s.moveTime n).queues = s.queues ∧ (s.moveTime n).fwd = s.fwd ∧ (s.moveTime n).link = s.link ∧
    (s.moveTime n).recon = s.recon ∧ (s.moveTime n).farm = s.farm ∧ (s.moveTime n).svc = s.svc ∧ (s.moveTime n).mgmt = s.mgmt ∧
    (s.moveTime n).reserved = s.reserved ∧ (s.moveTime n).deferred = s.deferred := by
  simp only [State.moveTime]; (repeat' split) <;> simp

@[simp] theorem State.leaveUnset_kept (x : TimeSource) :
    (s.leaveUnset x).pending = s.pending ∧ (s.leaveUnset x).clk = s.clk ∧ (s.leaveUnset x).resetLow = s.resetLow ∧
    (s.leaveUnset x).mode = s.mode ∧ (s.leaveUnset x).banks = s.banks ∧ (s.leaveUnset x).accounts = s.accounts ∧
    (s.leaveUnset x).holds = s.holds ∧ (s.leaveUnset x).queues = s.queues ∧ (s.leaveUnset x).fwd = s.fwd ∧
    (s.leaveUnset x).link = s.link ∧ (s.leaveUnset x).recon = s.recon ∧ (s.leaveUnset x).farm = s.farm ∧
    (s.leaveUnset x).reserved = s.reserved := by
  simp only [State.leaveUnset]; (repeat' split) <;> simp

@[simp] theorem State.stepTo_kept (n : Nat) :
    (s.stepTo n).pending = s.pending ∧ (s.stepTo n).clk = s.clk ∧ (s.stepTo n).resetLow = s.resetLow ∧ (s.stepTo n).mode = s.mode ∧
    (s.stepTo n).banks = s.banks ∧ (s.stepTo n).accounts = s.accounts ∧ (s.stepTo n).holds = s.holds ∧ (s.stepTo n).fwd = s.fwd ∧
    (s.stepTo n).link = s.link ∧ (s.stepTo n).recon = s.recon ∧ (s.stepTo n).farm = s.farm ∧ (s.stepTo n).svc = s.svc ∧
    (s.stepTo n).mgmt = s.mgmt ∧ (s.stepTo n).reserved = s.reserved ∧ (s.stepTo n).deferred = s.deferred := by
  simp only [State.stepTo]; (repeat' split) <;> simp

@[simp] theorem State.rebaseTo_kept (n : Nat) :
    (s.rebaseTo n).pending = s.pending ∧ (s.rebaseTo n).clk = s.clk ∧ (s.rebaseTo n).resetLow = s.resetLow ∧
    (s.rebaseTo n).mode = s.mode ∧ (s.rebaseTo n).banks = s.banks ∧ (s.rebaseTo n).accounts = s.accounts ∧ (s.rebaseTo n).link = s.link ∧
    (s.rebaseTo n).farm = s.farm ∧ (s.rebaseTo n).svc = s.svc ∧ (s.rebaseTo n).mgmt = s.mgmt ∧ (s.rebaseTo n).reserved = s.reserved ∧
    (s.rebaseTo n).deferred = s.deferred := by
  simp only [State.rebaseTo]; (repeat' split) <;> simp

@[simp] theorem State.acceptMark_kept :
    (s.acceptMark).pending = s.pending ∧ (s.acceptMark).clk = s.clk ∧ (s.acceptMark).resetLow = s.resetLow ∧
    (s.acceptMark).mode = s.mode ∧ (s.acceptMark).banks = s.banks ∧ (s.acceptMark).accounts = s.accounts ∧
    (s.acceptMark).holds = s.holds ∧ (s.acceptMark).queues = s.queues ∧ (s.acceptMark).fwd = s.fwd ∧ (s.acceptMark).link = s.link ∧
    (s.acceptMark).recon = s.recon ∧ (s.acceptMark).farm = s.farm ∧ (s.acceptMark).svc = s.svc ∧ (s.acceptMark).mgmt = s.mgmt ∧
    (s.acceptMark).reserved = s.reserved ∧ (s.acceptMark).deferred = s.deferred := by
  simp only [State.acceptMark]; (repeat' split) <;> simp

@[simp] theorem State.takeMark_kept (n : Nat) :
    (s.takeMark n).pending = s.pending ∧ (s.takeMark n).clk = s.clk ∧ (s.takeMark n).resetLow = s.resetLow ∧
    (s.takeMark n).mode = s.mode ∧ (s.takeMark n).banks = s.banks ∧ (s.takeMark n).accounts = s.accounts ∧ (s.takeMark n).link = s.link ∧
    (s.takeMark n).farm = s.farm ∧ (s.takeMark n).reserved = s.reserved := by
  simp only [State.takeMark]; (repeat' split) <;> simp

@[simp] theorem State.holdover_kept :
    (s.holdover).pending = s.pending ∧ (s.holdover).clk = s.clk ∧ (s.holdover).resetLow = s.resetLow ∧ (s.holdover).mode = s.mode ∧
    (s.holdover).banks = s.banks ∧ (s.holdover).accounts = s.accounts ∧ (s.holdover).holds = s.holds ∧ (s.holdover).queues = s.queues ∧
    (s.holdover).fwd = s.fwd ∧ (s.holdover).link = s.link ∧ (s.holdover).recon = s.recon ∧ (s.holdover).farm = s.farm ∧
    (s.holdover).reserved = s.reserved := by
  simp only [State.holdover]; (repeat' split) <;> simp

@[simp] theorem State.rollEpoch_kept :
    (s.rollEpoch).pending = s.pending ∧ (s.rollEpoch).clk = s.clk ∧ (s.rollEpoch).resetLow = s.resetLow ∧ (s.rollEpoch).mode = s.mode ∧
    (s.rollEpoch).banks = s.banks ∧ (s.rollEpoch).holds = s.holds ∧ (s.rollEpoch).queues = s.queues ∧ (s.rollEpoch).fwd = s.fwd ∧
    (s.rollEpoch).time = s.time ∧ (s.rollEpoch).link = s.link ∧ (s.rollEpoch).recon = s.recon ∧ (s.rollEpoch).farm = s.farm ∧
    (s.rollEpoch).svc = s.svc ∧ (s.rollEpoch).mgmt = s.mgmt ∧ (s.rollEpoch).reserved = s.reserved ∧ (s.rollEpoch).deferred = s.deferred := by
  simp only [State.rollEpoch]; (repeat' split) <;> simp

@[simp] theorem State.expireRenewal_kept (n : Nat) (h : Hold) :
    (s.expireRenewal n h).pending = s.pending ∧ (s.expireRenewal n h).clk = s.clk ∧ (s.expireRenewal n h).resetLow = s.resetLow ∧
    (s.expireRenewal n h).mode = s.mode ∧ (s.expireRenewal n h).banks = s.banks ∧ (s.expireRenewal n h).fwd = s.fwd ∧
    (s.expireRenewal n h).time = s.time ∧ (s.expireRenewal n h).link = s.link ∧ (s.expireRenewal n h).recon = s.recon ∧
    (s.expireRenewal n h).farm = s.farm ∧ (s.expireRenewal n h).reserved = s.reserved := by
  simp only [State.expireRenewal]; (repeat' split) <;> simp

@[simp] theorem State.staleReached_kept :
    (s.staleReached).pending = s.pending ∧ (s.staleReached).clk = s.clk ∧ (s.staleReached).resetLow = s.resetLow ∧
    (s.staleReached).mode = s.mode ∧ (s.staleReached).banks = s.banks ∧ (s.staleReached).accounts = s.accounts ∧
    (s.staleReached).queues = s.queues ∧ (s.staleReached).fwd = s.fwd ∧ (s.staleReached).time = s.time ∧ (s.staleReached).link = s.link ∧
    (s.staleReached).recon = s.recon ∧ (s.staleReached).farm = s.farm ∧ (s.staleReached).svc = s.svc ∧ (s.staleReached).mgmt = s.mgmt ∧
    (s.staleReached).reserved = s.reserved ∧ (s.staleReached).deferred = s.deferred := by
  simp only [State.staleReached]; (repeat' split) <;> simp

@[simp] theorem State.endHold_kept (n : Nat) (h : Hold) :
    (s.endHold n h).pending = s.pending ∧ (s.endHold n h).clk = s.clk ∧ (s.endHold n h).resetLow = s.resetLow ∧
    (s.endHold n h).mode = s.mode ∧ (s.endHold n h).banks = s.banks ∧ (s.endHold n h).fwd = s.fwd ∧ (s.endHold n h).time = s.time ∧
    (s.endHold n h).link = s.link ∧ (s.endHold n h).recon = s.recon ∧ (s.endHold n h).farm = s.farm ∧
    (s.endHold n h).reserved = s.reserved := by
  simp only [State.endHold]; (repeat' split) <;> simp

@[simp] theorem State.endHolds_kept (hs : List (Nat × Hold)) :
    (s.endHolds hs).pending = s.pending ∧ (s.endHolds hs).clk = s.clk ∧ (s.endHolds hs).resetLow = s.resetLow ∧
    (s.endHolds hs).mode = s.mode ∧ (s.endHolds hs).banks = s.banks ∧ (s.endHolds hs).fwd = s.fwd ∧ (s.endHolds hs).time = s.time ∧
    (s.endHolds hs).link = s.link ∧ (s.endHolds hs).recon = s.recon ∧ (s.endHolds hs).farm = s.farm ∧
    (s.endHolds hs).reserved = s.reserved := by
  induction hs generalizing s with
  | nil => simp [State.endHolds]
  | cons a l ih => simp only [State.endHolds, List.foldl_cons] at ih ⊢; simp [ih]

@[simp] theorem State.restartWindow_kept :
    (s.restartWindow).pending = s.pending ∧ (s.restartWindow).clk = s.clk ∧ (s.restartWindow).resetLow = s.resetLow ∧
    (s.restartWindow).mode = s.mode ∧ (s.restartWindow).banks = s.banks ∧ (s.restartWindow).accounts = s.accounts ∧
    (s.restartWindow).holds = s.holds ∧ (s.restartWindow).queues = s.queues ∧ (s.restartWindow).fwd = s.fwd ∧
    (s.restartWindow).time = s.time ∧ (s.restartWindow).recon = s.recon ∧ (s.restartWindow).farm = s.farm ∧
    (s.restartWindow).svc = s.svc ∧ (s.restartWindow).mgmt = s.mgmt ∧ (s.restartWindow).reserved = s.reserved ∧
    (s.restartWindow).deferred = s.deferred := by
  simp only [State.restartWindow]; (repeat' split) <;> simp

@[simp] theorem State.checkAutonomy_kept :
    (s.checkAutonomy).pending = s.pending ∧ (s.checkAutonomy).clk = s.clk ∧ (s.checkAutonomy).resetLow = s.resetLow ∧
    (s.checkAutonomy).mode = s.mode ∧ (s.checkAutonomy).banks = s.banks ∧ (s.checkAutonomy).accounts = s.accounts ∧
    (s.checkAutonomy).holds = s.holds ∧ (s.checkAutonomy).queues = s.queues ∧ (s.checkAutonomy).fwd = s.fwd ∧
    (s.checkAutonomy).time = s.time ∧ (s.checkAutonomy).recon = s.recon ∧ (s.checkAutonomy).farm = s.farm ∧
    (s.checkAutonomy).reserved = s.reserved := by
  simp only [State.checkAutonomy]; (repeat' split) <;> simp

@[simp] theorem State.sendEcho_kept (k : Key) (q : Word) (m : Nat) (b : Bool) :
    (s.sendEcho k q m b).pending = s.pending ∧ (s.sendEcho k q m b).clk = s.clk ∧ (s.sendEcho k q m b).resetLow = s.resetLow ∧
    (s.sendEcho k q m b).mode = s.mode ∧ (s.sendEcho k q m b).banks = s.banks ∧ (s.sendEcho k q m b).accounts = s.accounts ∧
    (s.sendEcho k q m b).holds = s.holds ∧ (s.sendEcho k q m b).queues = s.queues ∧ (s.sendEcho k q m b).fwd = s.fwd ∧
    (s.sendEcho k q m b).time = s.time ∧ (s.sendEcho k q m b).recon = s.recon ∧ (s.sendEcho k q m b).farm = s.farm ∧
    (s.sendEcho k q m b).mgmt = s.mgmt ∧ (s.sendEcho k q m b).reserved = s.reserved ∧ (s.sendEcho k q m b).deferred = s.deferred := by
  simp only [State.sendEcho]; (repeat' split) <;> simp

@[simp] theorem State.sendUnsolicited_kept :
    (s.sendUnsolicited).pending = s.pending ∧ (s.sendUnsolicited).clk = s.clk ∧ (s.sendUnsolicited).resetLow = s.resetLow ∧
    (s.sendUnsolicited).mode = s.mode ∧ (s.sendUnsolicited).banks = s.banks ∧ (s.sendUnsolicited).accounts = s.accounts ∧
    (s.sendUnsolicited).holds = s.holds ∧ (s.sendUnsolicited).queues = s.queues ∧ (s.sendUnsolicited).fwd = s.fwd ∧
    (s.sendUnsolicited).time = s.time ∧ (s.sendUnsolicited).recon = s.recon ∧ (s.sendUnsolicited).farm = s.farm ∧
    (s.sendUnsolicited).mgmt = s.mgmt ∧ (s.sendUnsolicited).reserved = s.reserved ∧ (s.sendUnsolicited).deferred = s.deferred := by
  simp only [State.sendUnsolicited]; (repeat' split) <;> simp

@[simp] theorem State.answerUnreachable_kept (es : List Forward) :
    (es.foldl (fun t e => t.toFarm e.addrs e.key .unreachable) s).pending = s.pending ∧
    (es.foldl (fun t e => t.toFarm e.addrs e.key .unreachable) s).clk = s.clk ∧
    (es.foldl (fun t e => t.toFarm e.addrs e.key .unreachable) s).resetLow = s.resetLow ∧
    (es.foldl (fun t e => t.toFarm e.addrs e.key .unreachable) s).mode = s.mode ∧
    (es.foldl (fun t e => t.toFarm e.addrs e.key .unreachable) s).banks = s.banks ∧
    (es.foldl (fun t e => t.toFarm e.addrs e.key .unreachable) s).accounts = s.accounts ∧
    (es.foldl (fun t e => t.toFarm e.addrs e.key .unreachable) s).holds = s.holds ∧
    (es.foldl (fun t e => t.toFarm e.addrs e.key .unreachable) s).queues = s.queues ∧
    (es.foldl (fun t e => t.toFarm e.addrs e.key .unreachable) s).fwd = s.fwd ∧
    (es.foldl (fun t e => t.toFarm e.addrs e.key .unreachable) s).time = s.time ∧
    (es.foldl (fun t e => t.toFarm e.addrs e.key .unreachable) s).link = s.link ∧
    (es.foldl (fun t e => t.toFarm e.addrs e.key .unreachable) s).recon = s.recon ∧
    (es.foldl (fun t e => t.toFarm e.addrs e.key .unreachable) s).svc = s.svc ∧
    (es.foldl (fun t e => t.toFarm e.addrs e.key .unreachable) s).reserved = s.reserved ∧
    (es.foldl (fun t e => t.toFarm e.addrs e.key .unreachable) s).deferred = s.deferred := by
  induction es generalizing s with
  | nil => simp
  | cons a l ih => simp [ih]

@[simp] theorem State.flushForwards_kept :
    (s.flushForwards).pending = s.pending ∧ (s.flushForwards).clk = s.clk ∧ (s.flushForwards).resetLow = s.resetLow ∧
    (s.flushForwards).mode = s.mode ∧ (s.flushForwards).banks = s.banks ∧ (s.flushForwards).accounts = s.accounts ∧
    (s.flushForwards).holds = s.holds ∧ (s.flushForwards).queues = s.queues ∧ (s.flushForwards).time = s.time ∧
    (s.flushForwards).link = s.link ∧ (s.flushForwards).recon = s.recon ∧ (s.flushForwards).svc = s.svc ∧
    (s.flushForwards).reserved = s.reserved ∧ (s.flushForwards).deferred = s.deferred := by
  simp only [State.flushForwards]; (repeat' split) <;> simp

@[simp] theorem State.setLinkState_kept (l : LinkState) :
    (s.setLinkState l).pending = s.pending ∧ (s.setLinkState l).clk = s.clk ∧ (s.setLinkState l).resetLow = s.resetLow ∧
    (s.setLinkState l).mode = s.mode ∧ (s.setLinkState l).banks = s.banks ∧ (s.setLinkState l).accounts = s.accounts ∧
    (s.setLinkState l).holds = s.holds ∧ (s.setLinkState l).queues = s.queues ∧ (s.setLinkState l).fwd = s.fwd ∧
    (s.setLinkState l).time = s.time ∧ (s.setLinkState l).recon = s.recon ∧ (s.setLinkState l).farm = s.farm ∧
    (s.setLinkState l).svc = s.svc ∧ (s.setLinkState l).mgmt = s.mgmt ∧ (s.setLinkState l).reserved = s.reserved ∧
    (s.setLinkState l).deferred = s.deferred := by
  simp only [State.setLinkState]; (repeat' split) <;> simp

@[simp] theorem State.startAutonomy_kept :
    (s.startAutonomy).pending = s.pending ∧ (s.startAutonomy).clk = s.clk ∧ (s.startAutonomy).resetLow = s.resetLow ∧
    (s.startAutonomy).mode = s.mode ∧ (s.startAutonomy).banks = s.banks ∧ (s.startAutonomy).accounts = s.accounts ∧
    (s.startAutonomy).holds = s.holds ∧ (s.startAutonomy).queues = s.queues ∧ (s.startAutonomy).fwd = s.fwd ∧
    (s.startAutonomy).time = s.time ∧ (s.startAutonomy).recon = s.recon ∧ (s.startAutonomy).farm = s.farm ∧
    (s.startAutonomy).reserved = s.reserved := by
  simp only [State.startAutonomy]; (repeat' split) <;> simp

@[simp] theorem State.enterLost_kept (b : Bool) :
    (s.enterLost b).pending = s.pending ∧ (s.enterLost b).clk = s.clk ∧ (s.enterLost b).resetLow = s.resetLow ∧
    (s.enterLost b).mode = s.mode ∧ (s.enterLost b).banks = s.banks ∧ (s.enterLost b).holds = s.holds ∧ (s.enterLost b).recon = s.recon ∧
    (s.enterLost b).reserved = s.reserved := by
  simp only [State.enterLost]; (repeat' split) <;> simp

@[simp] theorem State.leaveLost_kept :
    (s.leaveLost).pending = s.pending ∧ (s.leaveLost).clk = s.clk ∧ (s.leaveLost).resetLow = s.resetLow ∧ (s.leaveLost).mode = s.mode ∧
    (s.leaveLost).banks = s.banks ∧ (s.leaveLost).holds = s.holds ∧ (s.leaveLost).fwd = s.fwd ∧ (s.leaveLost).time = s.time ∧
    (s.leaveLost).recon = s.recon ∧ (s.leaveLost).farm = s.farm ∧ (s.leaveLost).reserved = s.reserved := by
  simp only [State.leaveLost]; (repeat' split) <;> simp

@[simp] theorem State.setGaps_kept (ps : List Nat) :
    (ps.foldl (fun t p => t.setGap p) s).pending = s.pending ∧ (ps.foldl (fun t p => t.setGap p) s).clk = s.clk ∧
    (ps.foldl (fun t p => t.setGap p) s).resetLow = s.resetLow ∧ (ps.foldl (fun t p => t.setGap p) s).mode = s.mode ∧
    (ps.foldl (fun t p => t.setGap p) s).banks = s.banks ∧ (ps.foldl (fun t p => t.setGap p) s).holds = s.holds ∧
    (ps.foldl (fun t p => t.setGap p) s).queues = s.queues ∧ (ps.foldl (fun t p => t.setGap p) s).fwd = s.fwd ∧
    (ps.foldl (fun t p => t.setGap p) s).time = s.time ∧ (ps.foldl (fun t p => t.setGap p) s).link = s.link ∧
    (ps.foldl (fun t p => t.setGap p) s).recon = s.recon ∧ (ps.foldl (fun t p => t.setGap p) s).farm = s.farm ∧
    (ps.foldl (fun t p => t.setGap p) s).reserved = s.reserved := by
  induction ps generalizing s with
  | nil => simp
  | cons a l ih => simp [ih]

@[simp] theorem State.restoreLink_kept :
    (s.restoreLink).pending = s.pending ∧ (s.restoreLink).clk = s.clk ∧ (s.restoreLink).resetLow = s.resetLow ∧
    (s.restoreLink).mode = s.mode ∧ (s.restoreLink).banks = s.banks ∧ (s.restoreLink).holds = s.holds ∧ (s.restoreLink).fwd = s.fwd ∧
    (s.restoreLink).time = s.time ∧ (s.restoreLink).recon = s.recon ∧ (s.restoreLink).farm = s.farm ∧
    (s.restoreLink).reserved = s.reserved := by
  simp only [State.restoreLink]; (repeat' split) <;> simp

@[simp] theorem State.hearProbe_kept :
    (s.hearProbe).pending = s.pending ∧ (s.hearProbe).clk = s.clk ∧ (s.hearProbe).resetLow = s.resetLow ∧ (s.hearProbe).mode = s.mode ∧
    (s.hearProbe).banks = s.banks ∧ (s.hearProbe).holds = s.holds ∧ (s.hearProbe).fwd = s.fwd ∧ (s.hearProbe).time = s.time ∧
    (s.hearProbe).recon = s.recon ∧ (s.hearProbe).farm = s.farm ∧ (s.hearProbe).reserved = s.reserved := by
  simp only [State.hearProbe]; (repeat' split) <;> simp

@[simp] theorem State.missProbe_kept (b : Bool) :
    (s.missProbe b).pending = s.pending ∧ (s.missProbe b).clk = s.clk ∧ (s.missProbe b).resetLow = s.resetLow ∧
    (s.missProbe b).mode = s.mode ∧ (s.missProbe b).banks = s.banks ∧ (s.missProbe b).holds = s.holds ∧ (s.missProbe b).recon = s.recon ∧
    (s.missProbe b).reserved = s.reserved := by
  simp only [State.missProbe]; (repeat' split) <;> simp

@[simp] theorem State.clearReassign_kept :
    (s.clearReassign).pending = s.pending ∧ (s.clearReassign).clk = s.clk ∧ (s.clearReassign).resetLow = s.resetLow ∧
    (s.clearReassign).mode = s.mode ∧ (s.clearReassign).banks = s.banks ∧ (s.clearReassign).holds = s.holds ∧
    (s.clearReassign).queues = s.queues ∧ (s.clearReassign).fwd = s.fwd ∧ (s.clearReassign).time = s.time ∧
    (s.clearReassign).link = s.link ∧ (s.clearReassign).recon = s.recon ∧ (s.clearReassign).farm = s.farm ∧
    (s.clearReassign).svc = s.svc ∧ (s.clearReassign).mgmt = s.mgmt ∧ (s.clearReassign).reserved = s.reserved ∧
    (s.clearReassign).deferred = s.deferred := by
  simp only [State.clearReassign]; (repeat' split) <;> simp

@[simp] theorem State.markReassign_kept (ps : List Nat) :
    (s.markReassign ps).pending = s.pending ∧ (s.markReassign ps).clk = s.clk ∧ (s.markReassign ps).resetLow = s.resetLow ∧
    (s.markReassign ps).mode = s.mode ∧ (s.markReassign ps).banks = s.banks ∧ (s.markReassign ps).holds = s.holds ∧
    (s.markReassign ps).queues = s.queues ∧ (s.markReassign ps).fwd = s.fwd ∧ (s.markReassign ps).time = s.time ∧
    (s.markReassign ps).link = s.link ∧ (s.markReassign ps).recon = s.recon ∧ (s.markReassign ps).farm = s.farm ∧
    (s.markReassign ps).svc = s.svc ∧ (s.markReassign ps).mgmt = s.mgmt ∧ (s.markReassign ps).reserved = s.reserved ∧
    (s.markReassign ps).deferred = s.deferred := by
  induction ps generalizing s with
  | nil => simp [State.markReassign]
  | cons a l ih => simp only [State.markReassign, List.foldl_cons] at ih ⊢; simp [ih]

@[simp] theorem State.withdrawBeyond_kept (p : Nat) :
    (s.withdrawBeyond p).pending = s.pending ∧ (s.withdrawBeyond p).clk = s.clk ∧ (s.withdrawBeyond p).resetLow = s.resetLow ∧
    (s.withdrawBeyond p).mode = s.mode ∧ (s.withdrawBeyond p).banks = s.banks ∧ (s.withdrawBeyond p).holds = s.holds ∧
    (s.withdrawBeyond p).fwd = s.fwd ∧ (s.withdrawBeyond p).time = s.time ∧ (s.withdrawBeyond p).link = s.link ∧
    (s.withdrawBeyond p).recon = s.recon ∧ (s.withdrawBeyond p).svc = s.svc ∧ (s.withdrawBeyond p).reserved = s.reserved ∧
    (s.withdrawBeyond p).deferred = s.deferred := by
  simp only [State.withdrawBeyond]; (repeat' split) <;> simp

@[simp] theorem State.denyEnded_kept (d p : Nat) :
    (s.denyEnded d p).pending = s.pending ∧ (s.denyEnded d p).clk = s.clk ∧ (s.denyEnded d p).resetLow = s.resetLow ∧
    (s.denyEnded d p).mode = s.mode ∧ (s.denyEnded d p).banks = s.banks ∧ (s.denyEnded d p).holds = s.holds ∧
    (s.denyEnded d p).fwd = s.fwd ∧ (s.denyEnded d p).time = s.time ∧ (s.denyEnded d p).link = s.link ∧
    (s.denyEnded d p).recon = s.recon ∧ (s.denyEnded d p).svc = s.svc ∧ (s.denyEnded d p).reserved = s.reserved ∧
    (s.denyEnded d p).deferred = s.deferred := by
  simp only [State.denyEnded]; (repeat' split) <;> simp

@[simp] theorem State.denyAllEnded_kept (d : Nat) (ps : List Nat) :
    (ps.foldl (fun t p => t.denyEnded d p) s).pending = s.pending ∧ (ps.foldl (fun t p => t.denyEnded d p) s).clk = s.clk ∧
    (ps.foldl (fun t p => t.denyEnded d p) s).resetLow = s.resetLow ∧ (ps.foldl (fun t p => t.denyEnded d p) s).mode = s.mode ∧
    (ps.foldl (fun t p => t.denyEnded d p) s).banks = s.banks ∧ (ps.foldl (fun t p => t.denyEnded d p) s).holds = s.holds ∧
    (ps.foldl (fun t p => t.denyEnded d p) s).fwd = s.fwd ∧ (ps.foldl (fun t p => t.denyEnded d p) s).time = s.time ∧
    (ps.foldl (fun t p => t.denyEnded d p) s).link = s.link ∧ (ps.foldl (fun t p => t.denyEnded d p) s).recon = s.recon ∧
    (ps.foldl (fun t p => t.denyEnded d p) s).svc = s.svc ∧ (ps.foldl (fun t p => t.denyEnded d p) s).reserved = s.reserved ∧
    (ps.foldl (fun t p => t.denyEnded d p) s).deferred = s.deferred := by
  induction ps generalizing s with
  | nil => simp
  | cons a l ih => simp [ih]

@[simp] theorem State.applyToPool_kept (b : State) (p : Nat) :
    (State.applyToPool b p s).pending = s.pending ∧ (State.applyToPool b p s).clk = s.clk ∧
    (State.applyToPool b p s).resetLow = s.resetLow ∧ (State.applyToPool b p s).mode = s.mode ∧
    (State.applyToPool b p s).banks = s.banks ∧ (State.applyToPool b p s).holds = s.holds ∧ (State.applyToPool b p s).fwd = s.fwd ∧
    (State.applyToPool b p s).time = s.time ∧ (State.applyToPool b p s).link = s.link ∧ (State.applyToPool b p s).recon = s.recon ∧
    (State.applyToPool b p s).reserved = s.reserved := by
  simp only [State.applyToPool]; (repeat' split) <;> simp

@[simp] theorem State.applyToPools_kept (b : State) (ps : List Nat) :
    (ps.foldl (fun t p => State.applyToPool b p t) s).pending = s.pending ∧
    (ps.foldl (fun t p => State.applyToPool b p t) s).clk = s.clk ∧
    (ps.foldl (fun t p => State.applyToPool b p t) s).resetLow = s.resetLow ∧
    (ps.foldl (fun t p => State.applyToPool b p t) s).mode = s.mode ∧ (ps.foldl (fun t p => State.applyToPool b p t) s).banks = s.banks ∧
    (ps.foldl (fun t p => State.applyToPool b p t) s).holds = s.holds ∧ (ps.foldl (fun t p => State.applyToPool b p t) s).fwd = s.fwd ∧
    (ps.foldl (fun t p => State.applyToPool b p t) s).time = s.time ∧ (ps.foldl (fun t p => State.applyToPool b p t) s).link = s.link ∧
    (ps.foldl (fun t p => State.applyToPool b p t) s).recon = s.recon ∧
    (ps.foldl (fun t p => State.applyToPool b p t) s).reserved = s.reserved := by
  induction ps generalizing s with
  | nil => simp
  | cons a l ih => simp [ih]

@[simp] theorem State.applySwitch_kept :
    (s.applySwitch).pending = s.pending ∧ (s.applySwitch).clk = s.clk ∧ (s.applySwitch).resetLow = s.resetLow ∧
    (s.applySwitch).mode = s.mode ∧ (s.applySwitch).holds = s.holds ∧ (s.applySwitch).fwd = s.fwd ∧ (s.applySwitch).time = s.time ∧
    (s.applySwitch).link = s.link ∧ (s.applySwitch).recon = s.recon ∧ (s.applySwitch).reserved = s.reserved := by
  simp only [State.applySwitch]; (repeat' split) <;> simp

@[simp] theorem State.attemptSwitch_kept :
    (s.attemptSwitch).pending = s.pending ∧ (s.attemptSwitch).clk = s.clk ∧ (s.attemptSwitch).resetLow = s.resetLow ∧
    (s.attemptSwitch).mode = s.mode ∧ (s.attemptSwitch).holds = s.holds ∧ (s.attemptSwitch).fwd = s.fwd ∧
    (s.attemptSwitch).time = s.time ∧ (s.attemptSwitch).link = s.link ∧ (s.attemptSwitch).recon = s.recon ∧
    (s.attemptSwitch).reserved = s.reserved := by
  simp only [State.attemptSwitch]; (repeat' split) <;> simp

@[simp] theorem State.becomeReconciling_kept :
    (s.becomeReconciling).pending = s.pending ∧ (s.becomeReconciling).clk = s.clk ∧ (s.becomeReconciling).resetLow = s.resetLow ∧
    (s.becomeReconciling).banks = s.banks ∧ (s.becomeReconciling).accounts = s.accounts ∧ (s.becomeReconciling).holds = s.holds ∧
    (s.becomeReconciling).queues = s.queues ∧ (s.becomeReconciling).fwd = s.fwd ∧ (s.becomeReconciling).time = s.time ∧
    (s.becomeReconciling).link = s.link ∧ (s.becomeReconciling).farm = s.farm ∧ (s.becomeReconciling).mgmt = s.mgmt ∧
    (s.becomeReconciling).reserved = s.reserved ∧ (s.becomeReconciling).deferred = s.deferred := by
  simp only [State.becomeReconciling]; (repeat' split) <;> simp

@[simp] theorem State.testReconciling_kept :
    (s.testReconciling).pending = s.pending ∧ (s.testReconciling).clk = s.clk ∧ (s.testReconciling).resetLow = s.resetLow ∧
    (s.testReconciling).banks = s.banks ∧ (s.testReconciling).accounts = s.accounts ∧ (s.testReconciling).holds = s.holds ∧
    (s.testReconciling).queues = s.queues ∧ (s.testReconciling).fwd = s.fwd ∧ (s.testReconciling).time = s.time ∧
    (s.testReconciling).link = s.link ∧ (s.testReconciling).farm = s.farm ∧ (s.testReconciling).mgmt = s.mgmt ∧
    (s.testReconciling).reserved = s.reserved ∧ (s.testReconciling).deferred = s.deferred := by
  simp only [State.testReconciling]; (repeat' split) <;> simp

@[simp] theorem State.freshGrant_kept (c : CheckoutRequest) (p : Nat) :
    (s.freshGrant c p).pending = s.pending ∧ (s.freshGrant c p).clk = s.clk ∧ (s.freshGrant c p).resetLow = s.resetLow ∧
    (s.freshGrant c p).mode = s.mode ∧ (s.freshGrant c p).banks = s.banks ∧ (s.freshGrant c p).fwd = s.fwd ∧
    (s.freshGrant c p).time = s.time ∧ (s.freshGrant c p).link = s.link ∧ (s.freshGrant c p).recon = s.recon ∧
    (s.freshGrant c p).reserved = s.reserved := by
  simp only [State.freshGrant, State.answer, State.answerRetry]; (repeat' split) <;> simp

@[simp] theorem State.joinGrant_kept (c : CheckoutRequest) (p n : Nat) (h : Hold) :
    (s.joinGrant c p n h).pending = s.pending ∧ (s.joinGrant c p n h).clk = s.clk ∧ (s.joinGrant c p n h).resetLow = s.resetLow ∧
    (s.joinGrant c p n h).mode = s.mode ∧ (s.joinGrant c p n h).banks = s.banks ∧ (s.joinGrant c p n h).queues = s.queues ∧
    (s.joinGrant c p n h).fwd = s.fwd ∧ (s.joinGrant c p n h).time = s.time ∧ (s.joinGrant c p n h).link = s.link ∧
    (s.joinGrant c p n h).recon = s.recon ∧ (s.joinGrant c p n h).svc = s.svc ∧ (s.joinGrant c p n h).reserved = s.reserved ∧
    (s.joinGrant c p n h).deferred = s.deferred := by
  simp only [State.joinGrant, State.answer]; (repeat' split) <;> simp

@[simp] theorem State.upgradeGrant_kept (c : CheckoutRequest) (p n : Nat) (h : Hold) :
    (s.upgradeGrant c p n h).pending = s.pending ∧ (s.upgradeGrant c p n h).clk = s.clk ∧ (s.upgradeGrant c p n h).resetLow = s.resetLow ∧
    (s.upgradeGrant c p n h).mode = s.mode ∧ (s.upgradeGrant c p n h).banks = s.banks ∧ (s.upgradeGrant c p n h).fwd = s.fwd ∧
    (s.upgradeGrant c p n h).time = s.time ∧ (s.upgradeGrant c p n h).link = s.link ∧ (s.upgradeGrant c p n h).recon = s.recon ∧
    (s.upgradeGrant c p n h).reserved = s.reserved := by
  simp only [State.upgradeGrant, State.answer, State.answerRetry]; (repeat' split) <;> simp

@[simp] theorem State.enqueue_kept (e : WaitEntry) :
    (s.enqueue e).pending = s.pending ∧ (s.enqueue e).clk = s.clk ∧ (s.enqueue e).resetLow = s.resetLow ∧ (s.enqueue e).mode = s.mode ∧
    (s.enqueue e).banks = s.banks ∧ (s.enqueue e).holds = s.holds ∧ (s.enqueue e).fwd = s.fwd ∧ (s.enqueue e).time = s.time ∧
    (s.enqueue e).link = s.link ∧ (s.enqueue e).recon = s.recon ∧ (s.enqueue e).farm = s.farm ∧ (s.enqueue e).svc = s.svc ∧
    (s.enqueue e).mgmt = s.mgmt ∧ (s.enqueue e).reserved = s.reserved ∧ (s.enqueue e).deferred = s.deferred := by
  simp only [State.enqueue]; (repeat' split) <;> simp

@[simp] theorem State.queueCheckout_kept (c : CheckoutRequest) (ps : List Nat) :
    (s.queueCheckout c ps).pending = s.pending ∧ (s.queueCheckout c ps).clk = s.clk ∧ (s.queueCheckout c ps).resetLow = s.resetLow ∧
    (s.queueCheckout c ps).mode = s.mode ∧ (s.queueCheckout c ps).banks = s.banks ∧ (s.queueCheckout c ps).holds = s.holds ∧
    (s.queueCheckout c ps).fwd = s.fwd ∧ (s.queueCheckout c ps).time = s.time ∧ (s.queueCheckout c ps).link = s.link ∧
    (s.queueCheckout c ps).recon = s.recon ∧ (s.queueCheckout c ps).reserved = s.reserved := by
  simp only [State.queueCheckout, State.answer]; (repeat' split) <;> simp

@[simp] theorem State.grantEntry_kept (e : WaitEntry) (n : Nat) :
    (s.grantEntry e n).pending = s.pending ∧ (s.grantEntry e n).clk = s.clk ∧ (s.grantEntry e n).resetLow = s.resetLow ∧
    (s.grantEntry e n).mode = s.mode ∧ (s.grantEntry e n).banks = s.banks ∧ (s.grantEntry e n).fwd = s.fwd ∧
    (s.grantEntry e n).time = s.time ∧ (s.grantEntry e n).link = s.link ∧ (s.grantEntry e n).recon = s.recon ∧
    (s.grantEntry e n).reserved = s.reserved := by
  simp only [State.grantEntry]; (repeat' split) <;> simp

@[simp] theorem State.joinEntry_kept (e : WaitEntry) (n : Nat) (h : Hold) :
    (s.joinEntry e n h).pending = s.pending ∧ (s.joinEntry e n h).clk = s.clk ∧ (s.joinEntry e n h).resetLow = s.resetLow ∧
    (s.joinEntry e n h).mode = s.mode ∧ (s.joinEntry e n h).banks = s.banks ∧ (s.joinEntry e n h).fwd = s.fwd ∧
    (s.joinEntry e n h).time = s.time ∧ (s.joinEntry e n h).link = s.link ∧ (s.joinEntry e n h).recon = s.recon ∧
    (s.joinEntry e n h).svc = s.svc ∧ (s.joinEntry e n h).reserved = s.reserved ∧ (s.joinEntry e n h).deferred = s.deferred := by
  simp only [State.joinEntry]; (repeat' split) <;> simp

@[simp] theorem State.upgradeEntry_kept (e : WaitEntry) (n : Nat) (h : Hold) (k : Nat) :
    (s.upgradeEntry e n h k).pending = s.pending ∧ (s.upgradeEntry e n h k).clk = s.clk ∧ (s.upgradeEntry e n h k).resetLow = s.resetLow ∧
    (s.upgradeEntry e n h k).mode = s.mode ∧ (s.upgradeEntry e n h k).banks = s.banks ∧ (s.upgradeEntry e n h k).fwd = s.fwd ∧
    (s.upgradeEntry e n h k).time = s.time ∧ (s.upgradeEntry e n h k).link = s.link ∧ (s.upgradeEntry e n h k).recon = s.recon ∧
    (s.upgradeEntry e n h k).reserved = s.reserved := by
  simp only [State.upgradeEntry]; (repeat' split) <;> simp

@[simp] theorem State.stall_kept (p : Nat) :
    (s.stall p).pending = s.pending ∧ (s.stall p).clk = s.clk ∧ (s.stall p).resetLow = s.resetLow ∧ (s.stall p).mode = s.mode ∧
    (s.stall p).banks = s.banks ∧ (s.stall p).holds = s.holds ∧ (s.stall p).queues = s.queues ∧ (s.stall p).fwd = s.fwd ∧
    (s.stall p).time = s.time ∧ (s.stall p).link = s.link ∧ (s.stall p).recon = s.recon ∧ (s.stall p).farm = s.farm ∧
    (s.stall p).svc = s.svc ∧ (s.stall p).mgmt = s.mgmt ∧ (s.stall p).reserved = s.reserved ∧ (s.stall p).deferred = s.deferred := by
  simp only [State.stall]; (repeat' split) <;> simp

@[simp] theorem State.clearMarks_kept (p : Nat) :
    (s.clearMarks p).pending = s.pending ∧ (s.clearMarks p).clk = s.clk ∧ (s.clearMarks p).resetLow = s.resetLow ∧
    (s.clearMarks p).mode = s.mode ∧ (s.clearMarks p).banks = s.banks ∧ (s.clearMarks p).accounts = s.accounts ∧
    (s.clearMarks p).holds = s.holds ∧ (s.clearMarks p).fwd = s.fwd ∧ (s.clearMarks p).time = s.time ∧ (s.clearMarks p).link = s.link ∧
    (s.clearMarks p).recon = s.recon ∧ (s.clearMarks p).farm = s.farm ∧ (s.clearMarks p).svc = s.svc ∧ (s.clearMarks p).mgmt = s.mgmt ∧
    (s.clearMarks p).reserved = s.reserved ∧ (s.clearMarks p).deferred = s.deferred := by
  simp only [State.clearMarks]; (repeat' split) <;> simp

@[simp] theorem State.delegatePool_kept (p d : Nat) (m : DelegationState) :
    (s.delegatePool p d m).pending = s.pending ∧ (s.delegatePool p d m).clk = s.clk ∧ (s.delegatePool p d m).resetLow = s.resetLow ∧
    (s.delegatePool p d m).mode = s.mode ∧ (s.delegatePool p d m).banks = s.banks ∧ (s.delegatePool p d m).holds = s.holds ∧
    (s.delegatePool p d m).fwd = s.fwd ∧ (s.delegatePool p d m).time = s.time ∧ (s.delegatePool p d m).link = s.link ∧
    (s.delegatePool p d m).recon = s.recon ∧ (s.delegatePool p d m).farm = s.farm ∧ (s.delegatePool p d m).reserved = s.reserved := by
  simp only [State.delegatePool]; (repeat' split) <;> simp

@[simp] theorem State.settlePools_kept (ps : List Nat) :
    (s.settlePools ps).pending = s.pending ∧ (s.settlePools ps).clk = s.clk ∧ (s.settlePools ps).resetLow = s.resetLow ∧
    (s.settlePools ps).mode = s.mode ∧ (s.settlePools ps).banks = s.banks ∧ (s.settlePools ps).holds = s.holds ∧
    (s.settlePools ps).queues = s.queues ∧ (s.settlePools ps).fwd = s.fwd ∧ (s.settlePools ps).time = s.time ∧
    (s.settlePools ps).link = s.link ∧ (s.settlePools ps).recon = s.recon ∧ (s.settlePools ps).farm = s.farm ∧
    (s.settlePools ps).svc = s.svc ∧ (s.settlePools ps).mgmt = s.mgmt ∧ (s.settlePools ps).reserved = s.reserved ∧
    (s.settlePools ps).deferred = s.deferred := by
  induction ps generalizing s with
  | nil => simp [State.settlePools]
  | cons a l ih => simp only [State.settlePools, List.foldl_cons] at ih ⊢; simp [ih]

@[simp] theorem State.sendTransferList_kept (k : Key) (u : State) (p n : Nat) (l : List Nat) :
    (l.foldl (fun t i => t.pushUp (UpEntry.transfer u.ownEth k (u.transferFrame p n i))) s).pending = s.pending ∧
    (l.foldl (fun t i => t.pushUp (UpEntry.transfer u.ownEth k (u.transferFrame p n i))) s).clk = s.clk ∧
    (l.foldl (fun t i => t.pushUp (UpEntry.transfer u.ownEth k (u.transferFrame p n i))) s).resetLow = s.resetLow ∧
    (l.foldl (fun t i => t.pushUp (UpEntry.transfer u.ownEth k (u.transferFrame p n i))) s).mode = s.mode ∧
    (l.foldl (fun t i => t.pushUp (UpEntry.transfer u.ownEth k (u.transferFrame p n i))) s).banks = s.banks ∧
    (l.foldl (fun t i => t.pushUp (UpEntry.transfer u.ownEth k (u.transferFrame p n i))) s).accounts = s.accounts ∧
    (l.foldl (fun t i => t.pushUp (UpEntry.transfer u.ownEth k (u.transferFrame p n i))) s).holds = s.holds ∧
    (l.foldl (fun t i => t.pushUp (UpEntry.transfer u.ownEth k (u.transferFrame p n i))) s).queues = s.queues ∧
    (l.foldl (fun t i => t.pushUp (UpEntry.transfer u.ownEth k (u.transferFrame p n i))) s).fwd = s.fwd ∧
    (l.foldl (fun t i => t.pushUp (UpEntry.transfer u.ownEth k (u.transferFrame p n i))) s).time = s.time ∧
    (l.foldl (fun t i => t.pushUp (UpEntry.transfer u.ownEth k (u.transferFrame p n i))) s).link = s.link ∧
    (l.foldl (fun t i => t.pushUp (UpEntry.transfer u.ownEth k (u.transferFrame p n i))) s).recon = s.recon ∧
    (l.foldl (fun t i => t.pushUp (UpEntry.transfer u.ownEth k (u.transferFrame p n i))) s).farm = s.farm ∧
    (l.foldl (fun t i => t.pushUp (UpEntry.transfer u.ownEth k (u.transferFrame p n i))) s).mgmt = s.mgmt ∧
    (l.foldl (fun t i => t.pushUp (UpEntry.transfer u.ownEth k (u.transferFrame p n i))) s).reserved = s.reserved ∧
    (l.foldl (fun t i => t.pushUp (UpEntry.transfer u.ownEth k (u.transferFrame p n i))) s).deferred = s.deferred := by
  induction l generalizing s with
  | nil => simp
  | cons a l ih => simp [ih]

@[simp] theorem State.sendTransfers_kept (k : Key) (p n : Nat) :
    (s.sendTransfers k p n).pending = s.pending ∧ (s.sendTransfers k p n).clk = s.clk ∧ (s.sendTransfers k p n).resetLow = s.resetLow ∧
    (s.sendTransfers k p n).mode = s.mode ∧ (s.sendTransfers k p n).banks = s.banks ∧ (s.sendTransfers k p n).accounts = s.accounts ∧
    (s.sendTransfers k p n).holds = s.holds ∧ (s.sendTransfers k p n).queues = s.queues ∧ (s.sendTransfers k p n).fwd = s.fwd ∧
    (s.sendTransfers k p n).time = s.time ∧ (s.sendTransfers k p n).link = s.link ∧ (s.sendTransfers k p n).recon = s.recon ∧
    (s.sendTransfers k p n).farm = s.farm ∧ (s.sendTransfers k p n).mgmt = s.mgmt ∧ (s.sendTransfers k p n).reserved = s.reserved ∧
    (s.sendTransfers k p n).deferred = s.deferred := by
  simp only [State.sendTransfers]; (repeat' split) <;> simp

@[simp] theorem State.takeAway_kept (n : Nat) :
    (s.takeAway n).pending = s.pending ∧ (s.takeAway n).clk = s.clk ∧ (s.takeAway n).resetLow = s.resetLow ∧
    (s.takeAway n).mode = s.mode ∧ (s.takeAway n).banks = s.banks ∧ (s.takeAway n).accounts = s.accounts ∧ (s.takeAway n).fwd = s.fwd ∧
    (s.takeAway n).time = s.time ∧ (s.takeAway n).link = s.link ∧ (s.takeAway n).recon = s.recon ∧ (s.takeAway n).farm = s.farm ∧
    (s.takeAway n).svc = s.svc ∧ (s.takeAway n).mgmt = s.mgmt ∧ (s.takeAway n).reserved = s.reserved ∧
    (s.takeAway n).deferred = s.deferred := by
  simp only [State.takeAway]; (repeat' split) <;> simp

@[simp] theorem State.takeAwayAll_kept (es : List (Nat × Hold)) :
    (es.foldl (fun t e => t.takeAway e.1) s).pending = s.pending ∧ (es.foldl (fun t e => t.takeAway e.1) s).clk = s.clk ∧
    (es.foldl (fun t e => t.takeAway e.1) s).resetLow = s.resetLow ∧ (es.foldl (fun t e => t.takeAway e.1) s).mode = s.mode ∧
    (es.foldl (fun t e => t.takeAway e.1) s).banks = s.banks ∧ (es.foldl (fun t e => t.takeAway e.1) s).accounts = s.accounts ∧
    (es.foldl (fun t e => t.takeAway e.1) s).fwd = s.fwd ∧ (es.foldl (fun t e => t.takeAway e.1) s).time = s.time ∧
    (es.foldl (fun t e => t.takeAway e.1) s).link = s.link ∧ (es.foldl (fun t e => t.takeAway e.1) s).recon = s.recon ∧
    (es.foldl (fun t e => t.takeAway e.1) s).farm = s.farm ∧ (es.foldl (fun t e => t.takeAway e.1) s).svc = s.svc ∧
    (es.foldl (fun t e => t.takeAway e.1) s).mgmt = s.mgmt ∧ (es.foldl (fun t e => t.takeAway e.1) s).reserved = s.reserved ∧
    (es.foldl (fun t e => t.takeAway e.1) s).deferred = s.deferred := by
  induction es generalizing s with
  | nil => simp
  | cons a l ih => simp [ih]

@[simp] theorem State.revokeEntries_kept (es : List WaitEntry) :
    (es.foldl (fun t e => t.revokeEntry e) s).pending = s.pending ∧ (es.foldl (fun t e => t.revokeEntry e) s).clk = s.clk ∧
    (es.foldl (fun t e => t.revokeEntry e) s).resetLow = s.resetLow ∧ (es.foldl (fun t e => t.revokeEntry e) s).mode = s.mode ∧
    (es.foldl (fun t e => t.revokeEntry e) s).banks = s.banks ∧ (es.foldl (fun t e => t.revokeEntry e) s).holds = s.holds ∧
    (es.foldl (fun t e => t.revokeEntry e) s).time = s.time ∧ (es.foldl (fun t e => t.revokeEntry e) s).link = s.link ∧
    (es.foldl (fun t e => t.revokeEntry e) s).recon = s.recon ∧ (es.foldl (fun t e => t.revokeEntry e) s).reserved = s.reserved ∧
    (es.foldl (fun t e => t.revokeEntry e) s).deferred = s.deferred := by
  induction es generalizing s with
  | nil => simp
  | cons a l ih => simp [ih]

@[simp] theorem State.stripPool_kept (p : Nat) :
    (s.stripPool p).pending = s.pending ∧ (s.stripPool p).clk = s.clk ∧ (s.stripPool p).resetLow = s.resetLow ∧
    (s.stripPool p).mode = s.mode ∧ (s.stripPool p).banks = s.banks ∧ (s.stripPool p).time = s.time ∧ (s.stripPool p).link = s.link ∧
    (s.stripPool p).recon = s.recon ∧ (s.stripPool p).reserved = s.reserved ∧ (s.stripPool p).deferred = s.deferred := by
  simp only [State.stripPool]; (repeat' split) <;> simp

@[simp] theorem State.drainEntries_kept (es : List WaitEntry) :
    (es.foldl (fun t e => t.drainEntry e) s).pending = s.pending ∧ (es.foldl (fun t e => t.drainEntry e) s).clk = s.clk ∧
    (es.foldl (fun t e => t.drainEntry e) s).resetLow = s.resetLow ∧ (es.foldl (fun t e => t.drainEntry e) s).mode = s.mode ∧
    (es.foldl (fun t e => t.drainEntry e) s).banks = s.banks ∧ (es.foldl (fun t e => t.drainEntry e) s).holds = s.holds ∧
    (es.foldl (fun t e => t.drainEntry e) s).time = s.time ∧ (es.foldl (fun t e => t.drainEntry e) s).link = s.link ∧
    (es.foldl (fun t e => t.drainEntry e) s).recon = s.recon ∧ (es.foldl (fun t e => t.drainEntry e) s).reserved = s.reserved ∧
    (es.foldl (fun t e => t.drainEntry e) s).deferred = s.deferred := by
  induction es generalizing s with
  | nil => simp
  | cons a l ih => simp [ih]

@[simp] theorem State.enterDraining_kept :
    (s.enterDraining).pending = s.pending ∧ (s.enterDraining).clk = s.clk ∧ (s.enterDraining).resetLow = s.resetLow ∧
    (s.enterDraining).banks = s.banks ∧ (s.enterDraining).holds = s.holds ∧ (s.enterDraining).time = s.time ∧
    (s.enterDraining).link = s.link ∧ (s.enterDraining).recon = s.recon ∧ (s.enterDraining).reserved = s.reserved ∧
    (s.enterDraining).deferred = s.deferred := by
  simp only [State.enterDraining]; (repeat' split) <;> simp

@[simp] theorem State.setTimeSource_kept :
    (s.setTimeSource).pending = s.pending ∧ (s.setTimeSource).clk = s.clk ∧ (s.setTimeSource).resetLow = s.resetLow ∧
    (s.setTimeSource).mode = s.mode ∧ (s.setTimeSource).banks = s.banks ∧ (s.setTimeSource).accounts = s.accounts ∧
    (s.setTimeSource).holds = s.holds ∧ (s.setTimeSource).queues = s.queues ∧ (s.setTimeSource).fwd = s.fwd ∧
    (s.setTimeSource).link = s.link ∧ (s.setTimeSource).recon = s.recon ∧ (s.setTimeSource).farm = s.farm ∧
    (s.setTimeSource).reserved = s.reserved := by
  simp only [State.setTimeSource]; (repeat' split) <;> simp

@[simp] theorem State.setTimeStep_kept (n : Nat) :
    (s.setTimeStep n).pending = s.pending ∧ (s.setTimeStep n).clk = s.clk ∧ (s.setTimeStep n).resetLow = s.resetLow ∧
    (s.setTimeStep n).mode = s.mode ∧ (s.setTimeStep n).banks = s.banks ∧ (s.setTimeStep n).accounts = s.accounts ∧
    (s.setTimeStep n).holds = s.holds ∧ (s.setTimeStep n).fwd = s.fwd ∧ (s.setTimeStep n).link = s.link ∧
    (s.setTimeStep n).recon = s.recon ∧ (s.setTimeStep n).farm = s.farm ∧ (s.setTimeStep n).reserved = s.reserved := by
  simp only [State.setTimeStep]; (repeat' split) <;> simp

@[simp] theorem State.setTimeRebase_kept (n : Nat) :
    (s.setTimeRebase n).pending = s.pending ∧ (s.setTimeRebase n).clk = s.clk ∧ (s.setTimeRebase n).resetLow = s.resetLow ∧
    (s.setTimeRebase n).mode = s.mode ∧ (s.setTimeRebase n).banks = s.banks ∧ (s.setTimeRebase n).accounts = s.accounts ∧
    (s.setTimeRebase n).link = s.link ∧ (s.setTimeRebase n).farm = s.farm ∧ (s.setTimeRebase n).reserved = s.reserved := by
  simp only [State.setTimeRebase]; (repeat' split) <;> simp

@[simp] theorem State.setParams_kept (p : Params) :
    (s.setParams p).pending = s.pending ∧ (s.setParams p).clk = s.clk ∧ (s.setParams p).resetLow = s.resetLow ∧
    (s.setParams p).mode = s.mode ∧ (s.setParams p).banks = s.banks ∧ (s.setParams p).accounts = s.accounts ∧
    (s.setParams p).holds = s.holds ∧ (s.setParams p).queues = s.queues ∧ (s.setParams p).fwd = s.fwd ∧ (s.setParams p).link = s.link ∧
    (s.setParams p).recon = s.recon ∧ (s.setParams p).farm = s.farm ∧ (s.setParams p).svc = s.svc ∧
    (s.setParams p).reserved = s.reserved ∧ (s.setParams p).deferred = s.deferred := by
  simp only [State.setParams]; (repeat' split) <;> simp

@[simp] theorem State.dropManagement_kept :
    (s.dropManagement).pending = s.pending ∧ (s.dropManagement).clk = s.clk ∧ (s.dropManagement).resetLow = s.resetLow ∧
    (s.dropManagement).mode = s.mode ∧ (s.dropManagement).banks = s.banks ∧ (s.dropManagement).accounts = s.accounts ∧
    (s.dropManagement).holds = s.holds ∧ (s.dropManagement).queues = s.queues ∧ (s.dropManagement).fwd = s.fwd ∧
    (s.dropManagement).time = s.time ∧ (s.dropManagement).link = s.link ∧ (s.dropManagement).recon = s.recon ∧
    (s.dropManagement).farm = s.farm ∧ (s.dropManagement).svc = s.svc ∧ (s.dropManagement).reserved = s.reserved ∧
    (s.dropManagement).deferred = s.deferred := by
  simp only [State.dropManagement]; (repeat' split) <;> simp

end Sys2Proof.Machine
end

