-- ==== Sys2Proof/Laws/Parts.lean ====
section
/-! SUPPORT. The parts of the ports, the Management Unit and the Link Supervisor that each shared operation leaves alone. -/

set_option Elab.async false

namespace Sys2Proof.Machine

variable (s : State)

@[simp] theorem State.pushUp_parts (e : UpEntry) :
    (s.pushUp e).svc.intake = s.svc.intake ∧ (s.pushUp e).svc.bridge = s.svc.bridge ∧ (s.pushUp e).svc.restartSlot = s.svc.restartSlot ∧
    (s.pushUp e).svc.pauseEnd = s.svc.pauseEnd ∧ (s.pushUp e).svc.sending = s.svc.sending ∧ (s.pushUp e).svc.peer = s.svc.peer := by
  simp only [State.pushUp]; (repeat' split) <;> simp

@[simp] theorem State.dropUp_parts :
    (s.dropUp).svc.intake = s.svc.intake ∧ (s.dropUp).svc.bridge = s.svc.bridge ∧ (s.dropUp).svc.restartSlot = s.svc.restartSlot ∧
    (s.dropUp).svc.pauseEnd = s.svc.pauseEnd ∧ (s.dropUp).svc.sending = s.svc.sending ∧ (s.dropUp).svc.peer = s.svc.peer := by
  simp only [State.dropUp]; (repeat' split) <;> simp

@[simp] theorem State.offerUp_parts (e : UpEntry) :
    (s.offerUp e).svc.intake = s.svc.intake ∧ (s.offerUp e).svc.bridge = s.svc.bridge ∧
    (s.offerUp e).svc.restartSlot = s.svc.restartSlot ∧ (s.offerUp e).svc.pauseEnd = s.svc.pauseEnd ∧
    (s.offerUp e).svc.sending = s.svc.sending ∧ (s.offerUp e).svc.peer = s.svc.peer := by
  simp only [State.offerUp]; (repeat' split) <;> simp

@[simp] theorem State.notice_parts (e : Event) :
    (s.notice e).svc.intake = s.svc.intake ∧ (s.notice e).svc.bridge = s.svc.bridge ∧ (s.notice e).svc.restartSlot = s.svc.restartSlot ∧
    (s.notice e).svc.pauseEnd = s.svc.pauseEnd ∧ (s.notice e).svc.sending = s.svc.sending ∧ (s.notice e).svc.peer = s.svc.peer := by
  simp only [State.notice]; (repeat' split) <;> simp

@[simp] theorem State.flagEvent_parts (e : Event) :
    (s.flagEvent e).mgmt.params = s.mgmt.params ∧ (s.flagEvent e).mgmt.notify = s.mgmt.notify ∧ (s.flagEvent e).mgmt.cause = s.mgmt.cause := by
  simp only [State.flagEvent]; (repeat' split) <;> simp

@[simp] theorem State.raise_parts (e : Event) :
    (s.raise e).svc.intake = s.svc.intake ∧ (s.raise e).svc.bridge = s.svc.bridge ∧ (s.raise e).svc.restartSlot = s.svc.restartSlot ∧
    (s.raise e).svc.pauseEnd = s.svc.pauseEnd ∧ (s.raise e).svc.sending = s.svc.sending ∧ (s.raise e).svc.peer = s.svc.peer ∧
    (s.raise e).mgmt.params = s.mgmt.params ∧ (s.raise e).mgmt.notify = s.mgmt.notify ∧ (s.raise e).mgmt.cause = s.mgmt.cause := by
  simp only [State.raise]; (repeat' split) <;> simp

@[simp] theorem State.offerFarm_parts (e : FarmEntry) :
    (s.offerFarm e).farm.intake = s.farm.intake ∧ (s.offerFarm e).farm.bridge = s.farm.bridge ∧
    (s.offerFarm e).farm.paused = s.farm.paused ∧ (s.offerFarm e).farm.pauseDue = s.farm.pauseDue ∧
    (s.offerFarm e).farm.refreshAt = s.farm.refreshAt ∧ (s.offerFarm e).farm.sending = s.farm.sending := by
  simp only [State.offerFarm]; (repeat' split) <;> simp

@[simp] theorem State.toFarm_parts (a : Addrs) (k : Key) (b : FarmBody) :
    (s.toFarm a k b).farm.intake = s.farm.intake ∧ (s.toFarm a k b).farm.bridge = s.farm.bridge ∧
    (s.toFarm a k b).farm.paused = s.farm.paused ∧ (s.toFarm a k b).farm.pauseDue = s.farm.pauseDue ∧
    (s.toFarm a k b).farm.refreshAt = s.farm.refreshAt ∧ (s.toFarm a k b).farm.sending = s.farm.sending ∧
    (s.toFarm a k b).mgmt.params = s.mgmt.params ∧ (s.toFarm a k b).mgmt.notify = s.mgmt.notify ∧
    (s.toFarm a k b).mgmt.cause = s.mgmt.cause := by
  simp only [State.toFarm]; (repeat' split) <;> simp

@[simp] theorem State.retry_parts (a : Addrs) (k : Key) (r : RetryReason) :
    (s.retry a k r).farm.intake = s.farm.intake ∧ (s.retry a k r).farm.bridge = s.farm.bridge ∧
    (s.retry a k r).farm.paused = s.farm.paused ∧ (s.retry a k r).farm.pauseDue = s.farm.pauseDue ∧
    (s.retry a k r).farm.refreshAt = s.farm.refreshAt ∧ (s.retry a k r).farm.sending = s.farm.sending ∧
    (s.retry a k r).mgmt.params = s.mgmt.params ∧ (s.retry a k r).mgmt.notify = s.mgmt.notify ∧ (s.retry a k r).mgmt.cause = s.mgmt.cause := by
  simp only [State.retry]; (repeat' split) <;> simp

@[simp] theorem State.offerAll_parts (es : List UpEntry) :
    (es.foldl (fun t e => t.offerUp e) s).svc.intake = s.svc.intake ∧ (es.foldl (fun t e => t.offerUp e) s).svc.bridge = s.svc.bridge ∧
    (es.foldl (fun t e => t.offerUp e) s).svc.restartSlot = s.svc.restartSlot ∧
    (es.foldl (fun t e => t.offerUp e) s).svc.pauseEnd = s.svc.pauseEnd ∧
    (es.foldl (fun t e => t.offerUp e) s).svc.sending = s.svc.sending ∧ (es.foldl (fun t e => t.offerUp e) s).svc.peer = s.svc.peer := by
  induction es generalizing s with
  | nil => simp
  | cons a l ih => simp [ih]

@[simp] theorem State.answerMgmt_parts (k : Key) (r : MgmtReply) :
    (s.answerMgmt k r).svc.intake = s.svc.intake ∧ (s.answerMgmt k r).svc.bridge = s.svc.bridge ∧
    (s.answerMgmt k r).svc.restartSlot = s.svc.restartSlot ∧ (s.answerMgmt k r).svc.pauseEnd = s.svc.pauseEnd ∧
    (s.answerMgmt k r).svc.sending = s.svc.sending ∧ (s.answerMgmt k r).svc.peer = s.svc.peer := by
  simp only [State.answerMgmt]; simp

@[simp] theorem State.countPort_parts (p : Port) (f : PortStats → PortStats) :
    (s.countPort p f).farm.intake = s.farm.intake ∧ (s.countPort p f).farm.bridge = s.farm.bridge ∧
    (s.countPort p f).farm.paused = s.farm.paused ∧ (s.countPort p f).farm.pauseDue = s.farm.pauseDue ∧
    (s.countPort p f).farm.refreshAt = s.farm.refreshAt ∧ (s.countPort p f).farm.sending = s.farm.sending ∧
    (s.countPort p f).svc.intake = s.svc.intake ∧ (s.countPort p f).svc.bridge = s.svc.bridge ∧
    (s.countPort p f).svc.restartSlot = s.svc.restartSlot ∧ (s.countPort p f).svc.pauseEnd = s.svc.pauseEnd ∧
    (s.countPort p f).svc.sending = s.svc.sending ∧ (s.countPort p f).svc.peer = s.svc.peer := by
  cases p <;> simp [State.countPort]

@[simp] theorem State.reevaluate_parts (p : Nat) :
    (s.reevaluate p).svc.intake = s.svc.intake ∧ (s.reevaluate p).svc.bridge = s.svc.bridge ∧
    (s.reevaluate p).svc.restartSlot = s.svc.restartSlot ∧ (s.reevaluate p).svc.pauseEnd = s.svc.pauseEnd ∧
    (s.reevaluate p).svc.sending = s.svc.sending ∧ (s.reevaluate p).svc.peer = s.svc.peer ∧ (s.reevaluate p).mgmt.params = s.mgmt.params ∧
    (s.reevaluate p).mgmt.notify = s.mgmt.notify ∧ (s.reevaluate p).mgmt.cause = s.mgmt.cause := by
  simp only [State.reevaluate]; (repeat' split) <;> simp

@[simp] theorem State.respond_parts (b : State) (p : Nat) :
    (State.respond b p s).svc.intake = s.svc.intake ∧ (State.respond b p s).svc.bridge = s.svc.bridge ∧
    (State.respond b p s).svc.restartSlot = s.svc.restartSlot ∧ (State.respond b p s).svc.pauseEnd = s.svc.pauseEnd ∧
    (State.respond b p s).svc.sending = s.svc.sending ∧ (State.respond b p s).svc.peer = s.svc.peer ∧
    (State.respond b p s).mgmt.params = s.mgmt.params ∧ (State.respond b p s).mgmt.notify = s.mgmt.notify ∧
    (State.respond b p s).mgmt.cause = s.mgmt.cause := by
  simp only [State.respond]; (repeat' split) <;> simp

@[simp] theorem State.respondAll_parts (b : State) (ps : List Nat) :
    (State.respondAll b ps s).svc.intake = s.svc.intake ∧ (State.respondAll b ps s).svc.bridge = s.svc.bridge ∧
    (State.respondAll b ps s).svc.restartSlot = s.svc.restartSlot ∧ (State.respondAll b ps s).svc.pauseEnd = s.svc.pauseEnd ∧
    (State.respondAll b ps s).svc.sending = s.svc.sending ∧ (State.respondAll b ps s).svc.peer = s.svc.peer ∧
    (State.respondAll b ps s).mgmt.params = s.mgmt.params ∧ (State.respondAll b ps s).mgmt.notify = s.mgmt.notify ∧
    (State.respondAll b ps s).mgmt.cause = s.mgmt.cause := by
  induction ps generalizing s with
  | nil => simp [State.respondAll]
  | cons a l ih => simp only [State.respondAll, List.foldl_cons] at ih ⊢; simp [ih]

@[simp] theorem State.queueReport_parts (p : Nat) (c : ChangeKind) (h : Hold) (x : Handle) (d : Int) :
    (s.queueReport p c h x d).svc.intake = s.svc.intake ∧ (s.queueReport p c h x d).svc.bridge = s.svc.bridge ∧
    (s.queueReport p c h x d).svc.restartSlot = s.svc.restartSlot ∧ (s.queueReport p c h x d).svc.pauseEnd = s.svc.pauseEnd ∧
    (s.queueReport p c h x d).svc.sending = s.svc.sending ∧ (s.queueReport p c h x d).svc.peer = s.svc.peer := by
  simp only [State.queueReport]; (repeat' split) <;> simp

@[simp] theorem State.setGap_parts (p : Nat) :
    (s.setGap p).svc.intake = s.svc.intake ∧ (s.setGap p).svc.bridge = s.svc.bridge ∧ (s.setGap p).svc.restartSlot = s.svc.restartSlot ∧
    (s.setGap p).svc.pauseEnd = s.svc.pauseEnd ∧ (s.setGap p).svc.sending = s.svc.sending ∧ (s.setGap p).svc.peer = s.svc.peer ∧
    (s.setGap p).mgmt.params = s.mgmt.params ∧ (s.setGap p).mgmt.notify = s.mgmt.notify ∧ (s.setGap p).mgmt.cause = s.mgmt.cause := by
  simp only [State.setGap]; (repeat' split) <;> simp

@[simp] theorem State.reportRelease_parts (p : Nat) (c : ChangeKind) (h : Hold) (x : Handle) (d : Int) :
    (s.reportRelease p c h x d).svc.intake = s.svc.intake ∧ (s.reportRelease p c h x d).svc.bridge = s.svc.bridge ∧
    (s.reportRelease p c h x d).svc.restartSlot = s.svc.restartSlot ∧ (s.reportRelease p c h x d).svc.pauseEnd = s.svc.pauseEnd ∧
    (s.reportRelease p c h x d).svc.sending = s.svc.sending ∧ (s.reportRelease p c h x d).svc.peer = s.svc.peer ∧
    (s.reportRelease p c h x d).mgmt.params = s.mgmt.params ∧ (s.reportRelease p c h x d).mgmt.notify = s.mgmt.notify ∧
    (s.reportRelease p c h x d).mgmt.cause = s.mgmt.cause := by
  simp only [State.reportRelease]; (repeat' split) <;> simp

@[simp] theorem State.charge_parts (p n m : Nat) (c : ChangeKind) (h : Hold) (x : Handle) :
    (s.charge p n m c h x).svc.intake = s.svc.intake ∧ (s.charge p n m c h x).svc.bridge = s.svc.bridge ∧
    (s.charge p n m c h x).svc.restartSlot = s.svc.restartSlot ∧ (s.charge p n m c h x).svc.pauseEnd = s.svc.pauseEnd ∧
    (s.charge p n m c h x).svc.sending = s.svc.sending ∧ (s.charge p n m c h x).svc.peer = s.svc.peer ∧
    (s.charge p n m c h x).mgmt.params = s.mgmt.params ∧ (s.charge p n m c h x).mgmt.notify = s.mgmt.notify ∧
    (s.charge p n m c h x).mgmt.cause = s.mgmt.cause := by
  simp only [State.charge]; (repeat' split) <;> simp

@[simp] theorem State.credit_parts (p : Nat) (c : ChangeKind) (h : Hold) (x : Handle) :
    (s.credit p c h x).svc.intake = s.svc.intake ∧ (s.credit p c h x).svc.bridge = s.svc.bridge ∧
    (s.credit p c h x).svc.restartSlot = s.svc.restartSlot ∧ (s.credit p c h x).svc.pauseEnd = s.svc.pauseEnd ∧
    (s.credit p c h x).svc.sending = s.svc.sending ∧ (s.credit p c h x).svc.peer = s.svc.peer ∧
    (s.credit p c h x).mgmt.params = s.mgmt.params ∧ (s.credit p c h x).mgmt.notify = s.mgmt.notify ∧
    (s.credit p c h x).mgmt.cause = s.mgmt.cause := by
  simp only [State.credit]; (repeat' split) <;> simp

@[simp] theorem State.removeHold_parts (n : Nat) (h : Hold) (c : ChangeKind) :
    (s.removeHold n h c).svc.intake = s.svc.intake ∧ (s.removeHold n h c).svc.bridge = s.svc.bridge ∧
    (s.removeHold n h c).svc.restartSlot = s.svc.restartSlot ∧ (s.removeHold n h c).svc.pauseEnd = s.svc.pauseEnd ∧
    (s.removeHold n h c).svc.sending = s.svc.sending ∧ (s.removeHold n h c).svc.peer = s.svc.peer ∧
    (s.removeHold n h c).mgmt.params = s.mgmt.params ∧ (s.removeHold n h c).mgmt.notify = s.mgmt.notify ∧
    (s.removeHold n h c).mgmt.cause = s.mgmt.cause := by
  simp only [State.removeHold]; (repeat' split) <;> simp

@[simp] theorem State.reclaim_parts (n : Nat) (h : Hold) :
    (s.reclaim n h).svc.intake = s.svc.intake ∧ (s.reclaim n h).svc.bridge = s.svc.bridge ∧
    (s.reclaim n h).svc.restartSlot = s.svc.restartSlot ∧ (s.reclaim n h).svc.pauseEnd = s.svc.pauseEnd ∧
    (s.reclaim n h).svc.sending = s.svc.sending ∧ (s.reclaim n h).svc.peer = s.svc.peer ∧ (s.reclaim n h).mgmt.params = s.mgmt.params ∧
    (s.reclaim n h).mgmt.notify = s.mgmt.notify ∧ (s.reclaim n h).mgmt.cause = s.mgmt.cause := by
  simp only [State.reclaim]; (repeat' split) <;> simp

@[simp] theorem State.newHold_parts (p : Nat) (h : Hold) :
    (s.newHold p h).svc.intake = s.svc.intake ∧ (s.newHold p h).svc.bridge = s.svc.bridge ∧
    (s.newHold p h).svc.restartSlot = s.svc.restartSlot ∧ (s.newHold p h).svc.pauseEnd = s.svc.pauseEnd ∧
    (s.newHold p h).svc.sending = s.svc.sending ∧ (s.newHold p h).svc.peer = s.svc.peer ∧ (s.newHold p h).mgmt.params = s.mgmt.params ∧
    (s.newHold p h).mgmt.notify = s.mgmt.notify ∧ (s.newHold p h).mgmt.cause = s.mgmt.cause := by
  simp only [State.newHold]; (repeat' split) <;> simp

@[simp] theorem State.upgradeHold_parts (n : Nat) (h : Hold) (k i : Nat) :
    (s.upgradeHold n h k i).svc.intake = s.svc.intake ∧ (s.upgradeHold n h k i).svc.bridge = s.svc.bridge ∧
    (s.upgradeHold n h k i).svc.restartSlot = s.svc.restartSlot ∧ (s.upgradeHold n h k i).svc.pauseEnd = s.svc.pauseEnd ∧
    (s.upgradeHold n h k i).svc.sending = s.svc.sending ∧ (s.upgradeHold n h k i).svc.peer = s.svc.peer ∧
    (s.upgradeHold n h k i).mgmt.params = s.mgmt.params ∧ (s.upgradeHold n h k i).mgmt.notify = s.mgmt.notify ∧
    (s.upgradeHold n h k i).mgmt.cause = s.mgmt.cause := by
  simp only [State.upgradeHold]; (repeat' split) <;> simp

@[simp] theorem State.dismiss_parts (b : FarmBody) (e : WaitEntry) :
    (s.dismiss b e).farm.intake = s.farm.intake ∧ (s.dismiss b e).farm.bridge = s.farm.bridge ∧
    (s.dismiss b e).farm.paused = s.farm.paused ∧ (s.dismiss b e).farm.pauseDue = s.farm.pauseDue ∧
    (s.dismiss b e).farm.refreshAt = s.farm.refreshAt ∧ (s.dismiss b e).farm.sending = s.farm.sending ∧
    (s.dismiss b e).mgmt.params = s.mgmt.params ∧ (s.dismiss b e).mgmt.notify = s.mgmt.notify ∧ (s.dismiss b e).mgmt.cause = s.mgmt.cause := by
  simp only [State.dismiss]; (repeat' split) <;> simp

@[simp] theorem State.dismissAll_parts (b : FarmBody) (es : List WaitEntry) :
    (s.dismissAll b es).farm.intake = s.farm.intake ∧ (s.dismissAll b es).farm.bridge = s.farm.bridge ∧
    (s.dismissAll b es).farm.paused = s.farm.paused ∧ (s.dismissAll b es).farm.pauseDue = s.farm.pauseDue ∧
    (s.dismissAll b es).farm.refreshAt = s.farm.refreshAt ∧ (s.dismissAll b es).farm.sending = s.farm.sending ∧
    (s.dismissAll b es).mgmt.params = s.mgmt.params ∧ (s.dismissAll b es).mgmt.notify = s.mgmt.notify ∧
    (s.dismissAll b es).mgmt.cause = s.mgmt.cause := by
  induction es generalizing s with
  | nil => simp [State.dismissAll]
  | cons a l ih => simp only [State.dismissAll, List.foldl_cons] at ih ⊢; simp [ih]

@[simp] theorem State.addForward_parts (k : Key) (r : RequestKind) (n : Nat) (a : Addrs) :
    (s.addForward k r n a).mgmt.params = s.mgmt.params ∧ (s.addForward k r n a).mgmt.notify = s.mgmt.notify ∧
    (s.addForward k r n a).mgmt.cause = s.mgmt.cause := by
  simp only [State.addForward]; (repeat' split) <;> simp

@[simp] theorem State.forwardRequest_parts (f : Frame) (k : Key) (r : RequestKind) (n : Nat) :
    (s.forwardRequest f k r n).farm.intake = s.farm.intake ∧ (s.forwardRequest f k r n).farm.bridge = s.farm.bridge ∧
    (s.forwardRequest f k r n).farm.paused = s.farm.paused ∧ (s.forwardRequest f k r n).farm.pauseDue = s.farm.pauseDue ∧
    (s.forwardRequest f k r n).farm.refreshAt = s.farm.refreshAt ∧ (s.forwardRequest f k r n).farm.sending = s.farm.sending ∧
    (s.forwardRequest f k r n).svc.intake = s.svc.intake ∧ (s.forwardRequest f k r n).svc.bridge = s.svc.bridge ∧
    (s.forwardRequest f k r n).svc.restartSlot = s.svc.restartSlot ∧ (s.forwardRequest f k r n).svc.pauseEnd = s.svc.pauseEnd ∧
    (s.forwardRequest f k r n).svc.sending = s.svc.sending ∧ (s.forwardRequest f k r n).svc.peer = s.svc.peer ∧
    (s.forwardRequest f k r n).mgmt.params = s.mgmt.params ∧ (s.forwardRequest f k r n).mgmt.notify = s.mgmt.notify ∧
    (s.forwardRequest f k r n).mgmt.cause = s.mgmt.cause := by
  simp only [State.forwardRequest]; (repeat' split) <;> simp

@[simp] theorem State.forwardEntry_parts (e : WaitEntry) :
    (s.forwardEntry e).svc.intake = s.svc.intake ∧ (s.forwardEntry e).svc.bridge = s.svc.bridge ∧
    (s.forwardEntry e).svc.restartSlot = s.svc.restartSlot ∧ (s.forwardEntry e).svc.pauseEnd = s.svc.pauseEnd ∧
    (s.forwardEntry e).svc.sending = s.svc.sending ∧ (s.forwardEntry e).svc.peer = s.svc.peer ∧
    (s.forwardEntry e).mgmt.params = s.mgmt.params ∧ (s.forwardEntry e).mgmt.notify = s.mgmt.notify ∧
    (s.forwardEntry e).mgmt.cause = s.mgmt.cause := by
  simp only [State.forwardEntry]; (repeat' split) <;> simp

@[simp] theorem State.drainEntry_parts (e : WaitEntry) :
    (s.drainEntry e).farm.intake = s.farm.intake ∧ (s.drainEntry e).farm.bridge = s.farm.bridge ∧
    (s.drainEntry e).farm.paused = s.farm.paused ∧ (s.drainEntry e).farm.pauseDue = s.farm.pauseDue ∧
    (s.drainEntry e).farm.refreshAt = s.farm.refreshAt ∧ (s.drainEntry e).farm.sending = s.farm.sending ∧
    (s.drainEntry e).mgmt.params = s.mgmt.params ∧ (s.drainEntry e).mgmt.notify = s.mgmt.notify ∧
    (s.drainEntry e).mgmt.cause = s.mgmt.cause ∧ (s.drainEntry e).svc.intake = s.svc.intake ∧ (s.drainEntry e).svc.bridge = s.svc.bridge ∧
    (s.drainEntry e).svc.restartSlot = s.svc.restartSlot ∧ (s.drainEntry e).svc.pauseEnd = s.svc.pauseEnd ∧
    (s.drainEntry e).svc.sending = s.svc.sending ∧ (s.drainEntry e).svc.peer = s.svc.peer := by
  simp only [State.drainEntry]; (repeat' split) <;> simp

@[simp] theorem State.revokeEntry_parts (e : WaitEntry) :
    (s.revokeEntry e).farm.intake = s.farm.intake ∧ (s.revokeEntry e).farm.bridge = s.farm.bridge ∧
    (s.revokeEntry e).farm.paused = s.farm.paused ∧ (s.revokeEntry e).farm.pauseDue = s.farm.pauseDue ∧
    (s.revokeEntry e).farm.refreshAt = s.farm.refreshAt ∧ (s.revokeEntry e).farm.sending = s.farm.sending ∧
    (s.revokeEntry e).mgmt.params = s.mgmt.params ∧ (s.revokeEntry e).mgmt.notify = s.mgmt.notify ∧
    (s.revokeEntry e).mgmt.cause = s.mgmt.cause ∧ (s.revokeEntry e).svc.intake = s.svc.intake ∧
    (s.revokeEntry e).svc.bridge = s.svc.bridge ∧ (s.revokeEntry e).svc.restartSlot = s.svc.restartSlot ∧
    (s.revokeEntry e).svc.pauseEnd = s.svc.pauseEnd ∧ (s.revokeEntry e).svc.sending = s.svc.sending ∧
    (s.revokeEntry e).svc.peer = s.svc.peer := by
  simp only [State.revokeEntry]; (repeat' split) <;> simp

@[simp] theorem State.leaveUnset_parts (x : TimeSource) :
    (s.leaveUnset x).svc.intake = s.svc.intake ∧ (s.leaveUnset x).svc.bridge = s.svc.bridge ∧
    (s.leaveUnset x).svc.restartSlot = s.svc.restartSlot ∧ (s.leaveUnset x).svc.pauseEnd = s.svc.pauseEnd ∧
    (s.leaveUnset x).svc.sending = s.svc.sending ∧ (s.leaveUnset x).svc.peer = s.svc.peer ∧ (s.leaveUnset x).mgmt.params = s.mgmt.params ∧
    (s.leaveUnset x).mgmt.notify = s.mgmt.notify ∧ (s.leaveUnset x).mgmt.cause = s.mgmt.cause := by
  simp only [State.leaveUnset]; (repeat' split) <;> simp

@[simp] theorem State.takeMark_parts (n : Nat) :
    (s.takeMark n).svc.intake = s.svc.intake ∧ (s.takeMark n).svc.bridge = s.svc.bridge ∧
    (s.takeMark n).svc.restartSlot = s.svc.restartSlot ∧ (s.takeMark n).svc.pauseEnd = s.svc.pauseEnd ∧
    (s.takeMark n).svc.sending = s.svc.sending ∧ (s.takeMark n).svc.peer = s.svc.peer ∧ (s.takeMark n).mgmt.params = s.mgmt.params ∧
    (s.takeMark n).mgmt.notify = s.mgmt.notify ∧ (s.takeMark n).mgmt.cause = s.mgmt.cause := by
  simp only [State.takeMark]; (repeat' split) <;> simp

@[simp] theorem State.holdover_parts :
    (s.holdover).svc.intake = s.svc.intake ∧ (s.holdover).svc.bridge = s.svc.bridge ∧ (s.holdover).svc.restartSlot = s.svc.restartSlot ∧
    (s.holdover).svc.pauseEnd = s.svc.pauseEnd ∧ (s.holdover).svc.sending = s.svc.sending ∧ (s.holdover).svc.peer = s.svc.peer ∧
    (s.holdover).mgmt.params = s.mgmt.params ∧ (s.holdover).mgmt.notify = s.mgmt.notify ∧ (s.holdover).mgmt.cause = s.mgmt.cause := by
  simp only [State.holdover]; (repeat' split) <;> simp

@[simp] theorem State.expireRenewal_parts (n : Nat) (h : Hold) :
    (s.expireRenewal n h).svc.intake = s.svc.intake ∧ (s.expireRenewal n h).svc.bridge = s.svc.bridge ∧
    (s.expireRenewal n h).svc.restartSlot = s.svc.restartSlot ∧ (s.expireRenewal n h).svc.pauseEnd = s.svc.pauseEnd ∧
    (s.expireRenewal n h).svc.sending = s.svc.sending ∧ (s.expireRenewal n h).svc.peer = s.svc.peer ∧
    (s.expireRenewal n h).mgmt.params = s.mgmt.params ∧ (s.expireRenewal n h).mgmt.notify = s.mgmt.notify ∧
    (s.expireRenewal n h).mgmt.cause = s.mgmt.cause := by
  simp only [State.expireRenewal]; (repeat' split) <;> simp

@[simp] theorem State.endHold_parts (n : Nat) (h : Hold) :
    (s.endHold n h).svc.intake = s.svc.intake ∧ (s.endHold n h).svc.bridge = s.svc.bridge ∧
    (s.endHold n h).svc.restartSlot = s.svc.restartSlot ∧ (s.endHold n h).svc.pauseEnd = s.svc.pauseEnd ∧
    (s.endHold n h).svc.sending = s.svc.sending ∧ (s.endHold n h).svc.peer = s.svc.peer ∧ (s.endHold n h).mgmt.params = s.mgmt.params ∧
    (s.endHold n h).mgmt.notify = s.mgmt.notify ∧ (s.endHold n h).mgmt.cause = s.mgmt.cause := by
  simp only [State.endHold]; (repeat' split) <;> simp

@[simp] theorem State.endHolds_parts (hs : List (Nat × Hold)) :
    (s.endHolds hs).svc.intake = s.svc.intake ∧ (s.endHolds hs).svc.bridge = s.svc.bridge ∧
    (s.endHolds hs).svc.restartSlot = s.svc.restartSlot ∧ (s.endHolds hs).svc.pauseEnd = s.svc.pauseEnd ∧
    (s.endHolds hs).svc.sending = s.svc.sending ∧ (s.endHolds hs).svc.peer = s.svc.peer ∧ (s.endHolds hs).mgmt.params = s.mgmt.params ∧
    (s.endHolds hs).mgmt.notify = s.mgmt.notify ∧ (s.endHolds hs).mgmt.cause = s.mgmt.cause := by
  induction hs generalizing s with
  | nil => simp [State.endHolds]
  | cons a l ih => simp only [State.endHolds, List.foldl_cons] at ih ⊢; simp [ih]

@[simp] theorem State.checkAutonomy_parts :
    (s.checkAutonomy).link.windowExpiry = s.link.windowExpiry ∧ (s.checkAutonomy).link.lastBad = s.link.lastBad ∧
    (s.checkAutonomy).link.lastSequence = s.link.lastSequence ∧ (s.checkAutonomy).svc.intake = s.svc.intake ∧
    (s.checkAutonomy).svc.bridge = s.svc.bridge ∧ (s.checkAutonomy).svc.restartSlot = s.svc.restartSlot ∧
    (s.checkAutonomy).svc.pauseEnd = s.svc.pauseEnd ∧ (s.checkAutonomy).svc.sending = s.svc.sending ∧
    (s.checkAutonomy).svc.peer = s.svc.peer ∧ (s.checkAutonomy).mgmt.params = s.mgmt.params ∧
    (s.checkAutonomy).mgmt.notify = s.mgmt.notify ∧ (s.checkAutonomy).mgmt.cause = s.mgmt.cause := by
  simp only [State.checkAutonomy]; (repeat' split) <;> simp

@[simp] theorem State.sendEcho_parts (k : Key) (q : Word) (m : Nat) (b : Bool) :
    (s.sendEcho k q m b).svc.intake = s.svc.intake ∧ (s.sendEcho k q m b).svc.bridge = s.svc.bridge ∧
    (s.sendEcho k q m b).svc.restartSlot = s.svc.restartSlot ∧ (s.sendEcho k q m b).svc.pauseEnd = s.svc.pauseEnd ∧
    (s.sendEcho k q m b).svc.sending = s.svc.sending ∧ (s.sendEcho k q m b).svc.peer = s.svc.peer ∧
    (s.sendEcho k q m b).link.windowExpiry = s.link.windowExpiry ∧ (s.sendEcho k q m b).link.lastBad = s.link.lastBad ∧
    (s.sendEcho k q m b).link.lastSequence = s.link.lastSequence := by
  simp only [State.sendEcho]; (repeat' split) <;> simp

@[simp] theorem State.sendUnsolicited_parts :
    (s.sendUnsolicited).svc.intake = s.svc.intake ∧ (s.sendUnsolicited).svc.bridge = s.svc.bridge ∧
    (s.sendUnsolicited).svc.restartSlot = s.svc.restartSlot ∧ (s.sendUnsolicited).svc.pauseEnd = s.svc.pauseEnd ∧
    (s.sendUnsolicited).svc.sending = s.svc.sending ∧ (s.sendUnsolicited).svc.peer = s.svc.peer ∧
    (s.sendUnsolicited).link.windowExpiry = s.link.windowExpiry ∧ (s.sendUnsolicited).link.lastBad = s.link.lastBad ∧
    (s.sendUnsolicited).link.lastSequence = s.link.lastSequence := by
  simp only [State.sendUnsolicited]; (repeat' split) <;> simp

@[simp] theorem State.answerUnreachable_parts (es : List Forward) :
    (es.foldl (fun t e => t.toFarm e.addrs e.key .unreachable) s).farm.intake = s.farm.intake ∧
    (es.foldl (fun t e => t.toFarm e.addrs e.key .unreachable) s).farm.bridge = s.farm.bridge ∧
    (es.foldl (fun t e => t.toFarm e.addrs e.key .unreachable) s).farm.paused = s.farm.paused ∧
    (es.foldl (fun t e => t.toFarm e.addrs e.key .unreachable) s).farm.pauseDue = s.farm.pauseDue ∧
    (es.foldl (fun t e => t.toFarm e.addrs e.key .unreachable) s).farm.refreshAt = s.farm.refreshAt ∧
    (es.foldl (fun t e => t.toFarm e.addrs e.key .unreachable) s).farm.sending = s.farm.sending ∧
    (es.foldl (fun t e => t.toFarm e.addrs e.key .unreachable) s).mgmt.params = s.mgmt.params ∧
    (es.foldl (fun t e => t.toFarm e.addrs e.key .unreachable) s).mgmt.notify = s.mgmt.notify ∧
    (es.foldl (fun t e => t.toFarm e.addrs e.key .unreachable) s).mgmt.cause = s.mgmt.cause := by
  induction es generalizing s with
  | nil => simp
  | cons a l ih => simp [ih]

@[simp] theorem State.flushForwards_parts :
    (s.flushForwards).farm.intake = s.farm.intake ∧ (s.flushForwards).farm.bridge = s.farm.bridge ∧
    (s.flushForwards).farm.paused = s.farm.paused ∧ (s.flushForwards).farm.pauseDue = s.farm.pauseDue ∧
    (s.flushForwards).farm.refreshAt = s.farm.refreshAt ∧ (s.flushForwards).farm.sending = s.farm.sending ∧
    (s.flushForwards).mgmt.params = s.mgmt.params ∧ (s.flushForwards).mgmt.notify = s.mgmt.notify ∧
    (s.flushForwards).mgmt.cause = s.mgmt.cause := by
  simp only [State.flushForwards]; (repeat' split) <;> simp

@[simp] theorem State.setLinkState_parts (l : LinkState) :
    (s.setLinkState l).link.windowExpiry = s.link.windowExpiry ∧ (s.setLinkState l).link.lastBad = s.link.lastBad ∧
    (s.setLinkState l).link.lastSequence = s.link.lastSequence := by
  simp only [State.setLinkState]; (repeat' split) <;> simp

@[simp] theorem State.startAutonomy_parts :
    (s.startAutonomy).link.windowExpiry = s.link.windowExpiry ∧ (s.startAutonomy).link.lastBad = s.link.lastBad ∧
    (s.startAutonomy).link.lastSequence = s.link.lastSequence ∧ (s.startAutonomy).svc.intake = s.svc.intake ∧
    (s.startAutonomy).svc.bridge = s.svc.bridge ∧ (s.startAutonomy).svc.restartSlot = s.svc.restartSlot ∧
    (s.startAutonomy).svc.pauseEnd = s.svc.pauseEnd ∧ (s.startAutonomy).svc.sending = s.svc.sending ∧
    (s.startAutonomy).svc.peer = s.svc.peer ∧ (s.startAutonomy).mgmt.params = s.mgmt.params ∧
    (s.startAutonomy).mgmt.notify = s.mgmt.notify ∧ (s.startAutonomy).mgmt.cause = s.mgmt.cause := by
  simp only [State.startAutonomy]; (repeat' split) <;> simp

@[simp] theorem State.enterLost_parts (b : Bool) :
    (s.enterLost b).link.windowExpiry = s.link.windowExpiry ∧ (s.enterLost b).link.lastBad = s.link.lastBad ∧
    (s.enterLost b).link.lastSequence = s.link.lastSequence ∧ (s.enterLost b).farm.intake = s.farm.intake ∧
    (s.enterLost b).farm.bridge = s.farm.bridge ∧ (s.enterLost b).farm.paused = s.farm.paused ∧
    (s.enterLost b).farm.pauseDue = s.farm.pauseDue ∧ (s.enterLost b).farm.refreshAt = s.farm.refreshAt ∧
    (s.enterLost b).farm.sending = s.farm.sending ∧ (s.enterLost b).svc.intake = s.svc.intake ∧
    (s.enterLost b).svc.bridge = s.svc.bridge ∧ (s.enterLost b).svc.restartSlot = s.svc.restartSlot ∧
    (s.enterLost b).svc.pauseEnd = s.svc.pauseEnd ∧ (s.enterLost b).svc.sending = s.svc.sending ∧ (s.enterLost b).svc.peer = s.svc.peer ∧
    (s.enterLost b).mgmt.params = s.mgmt.params ∧ (s.enterLost b).mgmt.notify = s.mgmt.notify ∧ (s.enterLost b).mgmt.cause = s.mgmt.cause := by
  simp only [State.enterLost]; (repeat' split) <;> simp

@[simp] theorem State.leaveLost_parts :
    (s.leaveLost).link.windowExpiry = s.link.windowExpiry ∧ (s.leaveLost).link.lastBad = s.link.lastBad ∧
    (s.leaveLost).link.lastSequence = s.link.lastSequence ∧ (s.leaveLost).svc.intake = s.svc.intake ∧
    (s.leaveLost).svc.bridge = s.svc.bridge ∧ (s.leaveLost).svc.restartSlot = s.svc.restartSlot ∧
    (s.leaveLost).svc.pauseEnd = s.svc.pauseEnd ∧ (s.leaveLost).svc.sending = s.svc.sending ∧ (s.leaveLost).svc.peer = s.svc.peer ∧
    (s.leaveLost).mgmt.params = s.mgmt.params ∧ (s.leaveLost).mgmt.notify = s.mgmt.notify ∧ (s.leaveLost).mgmt.cause = s.mgmt.cause := by
  simp only [State.leaveLost]; (repeat' split) <;> simp

@[simp] theorem State.setGaps_parts (ps : List Nat) :
    (ps.foldl (fun t p => t.setGap p) s).svc.intake = s.svc.intake ∧ (ps.foldl (fun t p => t.setGap p) s).svc.bridge = s.svc.bridge ∧
    (ps.foldl (fun t p => t.setGap p) s).svc.restartSlot = s.svc.restartSlot ∧
    (ps.foldl (fun t p => t.setGap p) s).svc.pauseEnd = s.svc.pauseEnd ∧
    (ps.foldl (fun t p => t.setGap p) s).svc.sending = s.svc.sending ∧ (ps.foldl (fun t p => t.setGap p) s).svc.peer = s.svc.peer ∧
    (ps.foldl (fun t p => t.setGap p) s).mgmt.params = s.mgmt.params ∧ (ps.foldl (fun t p => t.setGap p) s).mgmt.notify = s.mgmt.notify ∧
    (ps.foldl (fun t p => t.setGap p) s).mgmt.cause = s.mgmt.cause := by
  induction ps generalizing s with
  | nil => simp
  | cons a l ih => simp [ih]

@[simp] theorem State.restoreLink_parts :
    (s.restoreLink).link.windowExpiry = s.link.windowExpiry ∧ (s.restoreLink).link.lastBad = s.link.lastBad ∧
    (s.restoreLink).link.lastSequence = s.link.lastSequence ∧ (s.restoreLink).svc.intake = s.svc.intake ∧
    (s.restoreLink).svc.bridge = s.svc.bridge ∧ (s.restoreLink).svc.restartSlot = s.svc.restartSlot ∧
    (s.restoreLink).svc.pauseEnd = s.svc.pauseEnd ∧ (s.restoreLink).svc.sending = s.svc.sending ∧ (s.restoreLink).svc.peer = s.svc.peer ∧
    (s.restoreLink).mgmt.params = s.mgmt.params ∧ (s.restoreLink).mgmt.notify = s.mgmt.notify ∧ (s.restoreLink).mgmt.cause = s.mgmt.cause := by
  simp only [State.restoreLink]; (repeat' split) <;> simp

@[simp] theorem State.hearProbe_parts :
    (s.hearProbe).link.windowExpiry = s.link.windowExpiry ∧ (s.hearProbe).link.lastBad = s.link.lastBad ∧
    (s.hearProbe).link.lastSequence = s.link.lastSequence ∧ (s.hearProbe).svc.intake = s.svc.intake ∧
    (s.hearProbe).svc.bridge = s.svc.bridge ∧ (s.hearProbe).svc.restartSlot = s.svc.restartSlot ∧
    (s.hearProbe).svc.pauseEnd = s.svc.pauseEnd ∧ (s.hearProbe).svc.sending = s.svc.sending ∧ (s.hearProbe).svc.peer = s.svc.peer ∧
    (s.hearProbe).mgmt.params = s.mgmt.params ∧ (s.hearProbe).mgmt.notify = s.mgmt.notify ∧ (s.hearProbe).mgmt.cause = s.mgmt.cause := by
  simp only [State.hearProbe]; (repeat' split) <;> simp

@[simp] theorem State.missProbe_parts (b : Bool) :
    (s.missProbe b).link.windowExpiry = s.link.windowExpiry ∧ (s.missProbe b).link.lastBad = s.link.lastBad ∧
    (s.missProbe b).link.lastSequence = s.link.lastSequence ∧ (s.missProbe b).farm.intake = s.farm.intake ∧
    (s.missProbe b).farm.bridge = s.farm.bridge ∧ (s.missProbe b).farm.paused = s.farm.paused ∧
    (s.missProbe b).farm.pauseDue = s.farm.pauseDue ∧ (s.missProbe b).farm.refreshAt = s.farm.refreshAt ∧
    (s.missProbe b).farm.sending = s.farm.sending ∧ (s.missProbe b).svc.intake = s.svc.intake ∧
    (s.missProbe b).svc.bridge = s.svc.bridge ∧ (s.missProbe b).svc.restartSlot = s.svc.restartSlot ∧
    (s.missProbe b).svc.pauseEnd = s.svc.pauseEnd ∧ (s.missProbe b).svc.sending = s.svc.sending ∧ (s.missProbe b).svc.peer = s.svc.peer ∧
    (s.missProbe b).mgmt.params = s.mgmt.params ∧ (s.missProbe b).mgmt.notify = s.mgmt.notify ∧ (s.missProbe b).mgmt.cause = s.mgmt.cause := by
  simp only [State.missProbe]; (repeat' split) <;> simp

@[simp] theorem State.withdrawBeyond_parts (p : Nat) :
    (s.withdrawBeyond p).farm.intake = s.farm.intake ∧ (s.withdrawBeyond p).farm.bridge = s.farm.bridge ∧
    (s.withdrawBeyond p).farm.paused = s.farm.paused ∧ (s.withdrawBeyond p).farm.pauseDue = s.farm.pauseDue ∧
    (s.withdrawBeyond p).farm.refreshAt = s.farm.refreshAt ∧ (s.withdrawBeyond p).farm.sending = s.farm.sending ∧
    (s.withdrawBeyond p).mgmt.params = s.mgmt.params ∧ (s.withdrawBeyond p).mgmt.notify = s.mgmt.notify ∧
    (s.withdrawBeyond p).mgmt.cause = s.mgmt.cause := by
  simp only [State.withdrawBeyond]; (repeat' split) <;> simp

@[simp] theorem State.denyEnded_parts (d p : Nat) :
    (s.denyEnded d p).farm.intake = s.farm.intake ∧ (s.denyEnded d p).farm.bridge = s.farm.bridge ∧
    (s.denyEnded d p).farm.paused = s.farm.paused ∧ (s.denyEnded d p).farm.pauseDue = s.farm.pauseDue ∧
    (s.denyEnded d p).farm.refreshAt = s.farm.refreshAt ∧ (s.denyEnded d p).farm.sending = s.farm.sending ∧
    (s.denyEnded d p).mgmt.params = s.mgmt.params ∧ (s.denyEnded d p).mgmt.notify = s.mgmt.notify ∧
    (s.denyEnded d p).mgmt.cause = s.mgmt.cause := by
  simp only [State.denyEnded]; (repeat' split) <;> simp

@[simp] theorem State.denyAllEnded_parts (d : Nat) (ps : List Nat) :
    (ps.foldl (fun t p => t.denyEnded d p) s).farm.intake = s.farm.intake ∧
    (ps.foldl (fun t p => t.denyEnded d p) s).farm.bridge = s.farm.bridge ∧
    (ps.foldl (fun t p => t.denyEnded d p) s).farm.paused = s.farm.paused ∧
    (ps.foldl (fun t p => t.denyEnded d p) s).farm.pauseDue = s.farm.pauseDue ∧
    (ps.foldl (fun t p => t.denyEnded d p) s).farm.refreshAt = s.farm.refreshAt ∧
    (ps.foldl (fun t p => t.denyEnded d p) s).farm.sending = s.farm.sending ∧
    (ps.foldl (fun t p => t.denyEnded d p) s).mgmt.params = s.mgmt.params ∧
    (ps.foldl (fun t p => t.denyEnded d p) s).mgmt.notify = s.mgmt.notify ∧
    (ps.foldl (fun t p => t.denyEnded d p) s).mgmt.cause = s.mgmt.cause := by
  induction ps generalizing s with
  | nil => simp
  | cons a l ih => simp [ih]

@[simp] theorem State.applyToPool_parts (b : State) (p : Nat) :
    (State.applyToPool b p s).farm.intake = s.farm.intake ∧ (State.applyToPool b p s).farm.bridge = s.farm.bridge ∧
    (State.applyToPool b p s).farm.paused = s.farm.paused ∧ (State.applyToPool b p s).farm.pauseDue = s.farm.pauseDue ∧
    (State.applyToPool b p s).farm.refreshAt = s.farm.refreshAt ∧ (State.applyToPool b p s).farm.sending = s.farm.sending ∧
    (State.applyToPool b p s).svc.intake = s.svc.intake ∧ (State.applyToPool b p s).svc.bridge = s.svc.bridge ∧
    (State.applyToPool b p s).svc.restartSlot = s.svc.restartSlot ∧ (State.applyToPool b p s).svc.pauseEnd = s.svc.pauseEnd ∧
    (State.applyToPool b p s).svc.sending = s.svc.sending ∧ (State.applyToPool b p s).svc.peer = s.svc.peer ∧
    (State.applyToPool b p s).mgmt.params = s.mgmt.params ∧ (State.applyToPool b p s).mgmt.notify = s.mgmt.notify ∧
    (State.applyToPool b p s).mgmt.cause = s.mgmt.cause := by
  simp only [State.applyToPool]; (repeat' split) <;> simp

@[simp] theorem State.applyToPools_parts (b : State) (ps : List Nat) :
    (ps.foldl (fun t p => State.applyToPool b p t) s).farm.intake = s.farm.intake ∧
    (ps.foldl (fun t p => State.applyToPool b p t) s).farm.bridge = s.farm.bridge ∧
    (ps.foldl (fun t p => State.applyToPool b p t) s).farm.paused = s.farm.paused ∧
    (ps.foldl (fun t p => State.applyToPool b p t) s).farm.pauseDue = s.farm.pauseDue ∧
    (ps.foldl (fun t p => State.applyToPool b p t) s).farm.refreshAt = s.farm.refreshAt ∧
    (ps.foldl (fun t p => State.applyToPool b p t) s).farm.sending = s.farm.sending ∧
    (ps.foldl (fun t p => State.applyToPool b p t) s).svc.intake = s.svc.intake ∧
    (ps.foldl (fun t p => State.applyToPool b p t) s).svc.bridge = s.svc.bridge ∧
    (ps.foldl (fun t p => State.applyToPool b p t) s).svc.restartSlot = s.svc.restartSlot ∧
    (ps.foldl (fun t p => State.applyToPool b p t) s).svc.pauseEnd = s.svc.pauseEnd ∧
    (ps.foldl (fun t p => State.applyToPool b p t) s).svc.sending = s.svc.sending ∧
    (ps.foldl (fun t p => State.applyToPool b p t) s).svc.peer = s.svc.peer ∧
    (ps.foldl (fun t p => State.applyToPool b p t) s).mgmt.params = s.mgmt.params ∧
    (ps.foldl (fun t p => State.applyToPool b p t) s).mgmt.notify = s.mgmt.notify ∧
    (ps.foldl (fun t p => State.applyToPool b p t) s).mgmt.cause = s.mgmt.cause := by
  induction ps generalizing s with
  | nil => simp
  | cons a l ih => simp [ih]

@[simp] theorem State.applySwitch_parts :
    (s.applySwitch).farm.intake = s.farm.intake ∧ (s.applySwitch).farm.bridge = s.farm.bridge ∧
    (s.applySwitch).farm.paused = s.farm.paused ∧ (s.applySwitch).farm.pauseDue = s.farm.pauseDue ∧
    (s.applySwitch).farm.refreshAt = s.farm.refreshAt ∧ (s.applySwitch).farm.sending = s.farm.sending ∧
    (s.applySwitch).svc.intake = s.svc.intake ∧ (s.applySwitch).svc.bridge = s.svc.bridge ∧
    (s.applySwitch).svc.restartSlot = s.svc.restartSlot ∧ (s.applySwitch).svc.pauseEnd = s.svc.pauseEnd ∧
    (s.applySwitch).svc.sending = s.svc.sending ∧ (s.applySwitch).svc.peer = s.svc.peer ∧ (s.applySwitch).mgmt.params = s.mgmt.params ∧
    (s.applySwitch).mgmt.notify = s.mgmt.notify ∧ (s.applySwitch).mgmt.cause = s.mgmt.cause := by
  simp only [State.applySwitch]; (repeat' split) <;> simp

@[simp] theorem State.attemptSwitch_parts :
    (s.attemptSwitch).farm.intake = s.farm.intake ∧ (s.attemptSwitch).farm.bridge = s.farm.bridge ∧
    (s.attemptSwitch).farm.paused = s.farm.paused ∧ (s.attemptSwitch).farm.pauseDue = s.farm.pauseDue ∧
    (s.attemptSwitch).farm.refreshAt = s.farm.refreshAt ∧ (s.attemptSwitch).farm.sending = s.farm.sending ∧
    (s.attemptSwitch).svc.intake = s.svc.intake ∧ (s.attemptSwitch).svc.bridge = s.svc.bridge ∧
    (s.attemptSwitch).svc.restartSlot = s.svc.restartSlot ∧ (s.attemptSwitch).svc.pauseEnd = s.svc.pauseEnd ∧
    (s.attemptSwitch).svc.sending = s.svc.sending ∧ (s.attemptSwitch).svc.peer = s.svc.peer ∧
    (s.attemptSwitch).mgmt.params = s.mgmt.params ∧ (s.attemptSwitch).mgmt.notify = s.mgmt.notify ∧
    (s.attemptSwitch).mgmt.cause = s.mgmt.cause := by
  simp only [State.attemptSwitch]; (repeat' split) <;> simp

@[simp] theorem State.becomeReconciling_parts :
    (s.becomeReconciling).svc.intake = s.svc.intake ∧ (s.becomeReconciling).svc.bridge = s.svc.bridge ∧
    (s.becomeReconciling).svc.restartSlot = s.svc.restartSlot ∧ (s.becomeReconciling).svc.pauseEnd = s.svc.pauseEnd ∧
    (s.becomeReconciling).svc.sending = s.svc.sending ∧ (s.becomeReconciling).svc.peer = s.svc.peer := by
  simp only [State.becomeReconciling]; (repeat' split) <;> simp

@[simp] theorem State.testReconciling_parts :
    (s.testReconciling).svc.intake = s.svc.intake ∧ (s.testReconciling).svc.bridge = s.svc.bridge ∧
    (s.testReconciling).svc.restartSlot = s.svc.restartSlot ∧ (s.testReconciling).svc.pauseEnd = s.svc.pauseEnd ∧
    (s.testReconciling).svc.sending = s.svc.sending ∧ (s.testReconciling).svc.peer = s.svc.peer := by
  simp only [State.testReconciling]; (repeat' split) <;> simp

@[simp] theorem State.freshGrant_parts (c : CheckoutRequest) (p : Nat) :
    (s.freshGrant c p).farm.intake = s.farm.intake ∧ (s.freshGrant c p).farm.bridge = s.farm.bridge ∧
    (s.freshGrant c p).farm.paused = s.farm.paused ∧ (s.freshGrant c p).farm.pauseDue = s.farm.pauseDue ∧
    (s.freshGrant c p).farm.refreshAt = s.farm.refreshAt ∧ (s.freshGrant c p).farm.sending = s.farm.sending ∧
    (s.freshGrant c p).svc.intake = s.svc.intake ∧ (s.freshGrant c p).svc.bridge = s.svc.bridge ∧
    (s.freshGrant c p).svc.restartSlot = s.svc.restartSlot ∧ (s.freshGrant c p).svc.pauseEnd = s.svc.pauseEnd ∧
    (s.freshGrant c p).svc.sending = s.svc.sending ∧ (s.freshGrant c p).svc.peer = s.svc.peer ∧
    (s.freshGrant c p).mgmt.params = s.mgmt.params ∧ (s.freshGrant c p).mgmt.notify = s.mgmt.notify ∧
    (s.freshGrant c p).mgmt.cause = s.mgmt.cause := by
  simp only [State.freshGrant, State.answer, State.answerRetry]; (repeat' split) <;> simp

@[simp] theorem State.joinGrant_parts (c : CheckoutRequest) (p n : Nat) (h : Hold) :
    (s.joinGrant c p n h).farm.intake = s.farm.intake ∧ (s.joinGrant c p n h).farm.bridge = s.farm.bridge ∧
    (s.joinGrant c p n h).farm.paused = s.farm.paused ∧ (s.joinGrant c p n h).farm.pauseDue = s.farm.pauseDue ∧
    (s.joinGrant c p n h).farm.refreshAt = s.farm.refreshAt ∧ (s.joinGrant c p n h).farm.sending = s.farm.sending ∧
    (s.joinGrant c p n h).mgmt.params = s.mgmt.params ∧ (s.joinGrant c p n h).mgmt.notify = s.mgmt.notify ∧
    (s.joinGrant c p n h).mgmt.cause = s.mgmt.cause := by
  simp only [State.joinGrant, State.answer]; (repeat' split) <;> simp

@[simp] theorem State.upgradeGrant_parts (c : CheckoutRequest) (p n : Nat) (h : Hold) :
    (s.upgradeGrant c p n h).farm.intake = s.farm.intake ∧ (s.upgradeGrant c p n h).farm.bridge = s.farm.bridge ∧
    (s.upgradeGrant c p n h).farm.paused = s.farm.paused ∧ (s.upgradeGrant c p n h).farm.pauseDue = s.farm.pauseDue ∧
    (s.upgradeGrant c p n h).farm.refreshAt = s.farm.refreshAt ∧ (s.upgradeGrant c p n h).farm.sending = s.farm.sending ∧
    (s.upgradeGrant c p n h).svc.intake = s.svc.intake ∧ (s.upgradeGrant c p n h).svc.bridge = s.svc.bridge ∧
    (s.upgradeGrant c p n h).svc.restartSlot = s.svc.restartSlot ∧ (s.upgradeGrant c p n h).svc.pauseEnd = s.svc.pauseEnd ∧
    (s.upgradeGrant c p n h).svc.sending = s.svc.sending ∧ (s.upgradeGrant c p n h).svc.peer = s.svc.peer ∧
    (s.upgradeGrant c p n h).mgmt.params = s.mgmt.params ∧ (s.upgradeGrant c p n h).mgmt.notify = s.mgmt.notify ∧
    (s.upgradeGrant c p n h).mgmt.cause = s.mgmt.cause := by
  simp only [State.upgradeGrant, State.answer, State.answerRetry]; (repeat' split) <;> simp

@[simp] theorem State.queueCheckout_parts (c : CheckoutRequest) (ps : List Nat) :
    (s.queueCheckout c ps).farm.intake = s.farm.intake ∧ (s.queueCheckout c ps).farm.bridge = s.farm.bridge ∧
    (s.queueCheckout c ps).farm.paused = s.farm.paused ∧ (s.queueCheckout c ps).farm.pauseDue = s.farm.pauseDue ∧
    (s.queueCheckout c ps).farm.refreshAt = s.farm.refreshAt ∧ (s.queueCheckout c ps).farm.sending = s.farm.sending ∧
    (s.queueCheckout c ps).svc.intake = s.svc.intake ∧ (s.queueCheckout c ps).svc.bridge = s.svc.bridge ∧
    (s.queueCheckout c ps).svc.restartSlot = s.svc.restartSlot ∧ (s.queueCheckout c ps).svc.pauseEnd = s.svc.pauseEnd ∧
    (s.queueCheckout c ps).svc.sending = s.svc.sending ∧ (s.queueCheckout c ps).svc.peer = s.svc.peer ∧
    (s.queueCheckout c ps).mgmt.params = s.mgmt.params ∧ (s.queueCheckout c ps).mgmt.notify = s.mgmt.notify ∧
    (s.queueCheckout c ps).mgmt.cause = s.mgmt.cause := by
  simp only [State.queueCheckout, State.answer]; (repeat' split) <;> simp

@[simp] theorem State.grantEntry_parts (e : WaitEntry) (n : Nat) :
    (s.grantEntry e n).farm.intake = s.farm.intake ∧ (s.grantEntry e n).farm.bridge = s.farm.bridge ∧
    (s.grantEntry e n).farm.paused = s.farm.paused ∧ (s.grantEntry e n).farm.pauseDue = s.farm.pauseDue ∧
    (s.grantEntry e n).farm.refreshAt = s.farm.refreshAt ∧ (s.grantEntry e n).farm.sending = s.farm.sending ∧
    (s.grantEntry e n).svc.intake = s.svc.intake ∧ (s.grantEntry e n).svc.bridge = s.svc.bridge ∧
    (s.grantEntry e n).svc.restartSlot = s.svc.restartSlot ∧ (s.grantEntry e n).svc.pauseEnd = s.svc.pauseEnd ∧
    (s.grantEntry e n).svc.sending = s.svc.sending ∧ (s.grantEntry e n).svc.peer = s.svc.peer ∧
    (s.grantEntry e n).mgmt.params = s.mgmt.params ∧ (s.grantEntry e n).mgmt.notify = s.mgmt.notify ∧
    (s.grantEntry e n).mgmt.cause = s.mgmt.cause := by
  simp only [State.grantEntry]; (repeat' split) <;> simp

@[simp] theorem State.joinEntry_parts (e : WaitEntry) (n : Nat) (h : Hold) :
    (s.joinEntry e n h).farm.intake = s.farm.intake ∧ (s.joinEntry e n h).farm.bridge = s.farm.bridge ∧
    (s.joinEntry e n h).farm.paused = s.farm.paused ∧ (s.joinEntry e n h).farm.pauseDue = s.farm.pauseDue ∧
    (s.joinEntry e n h).farm.refreshAt = s.farm.refreshAt ∧ (s.joinEntry e n h).farm.sending = s.farm.sending ∧
    (s.joinEntry e n h).mgmt.params = s.mgmt.params ∧ (s.joinEntry e n h).mgmt.notify = s.mgmt.notify ∧
    (s.joinEntry e n h).mgmt.cause = s.mgmt.cause := by
  simp only [State.joinEntry]; (repeat' split) <;> simp

@[simp] theorem State.upgradeEntry_parts (e : WaitEntry) (n : Nat) (h : Hold) (k : Nat) :
    (s.upgradeEntry e n h k).farm.intake = s.farm.intake ∧ (s.upgradeEntry e n h k).farm.bridge = s.farm.bridge ∧
    (s.upgradeEntry e n h k).farm.paused = s.farm.paused ∧ (s.upgradeEntry e n h k).farm.pauseDue = s.farm.pauseDue ∧
    (s.upgradeEntry e n h k).farm.refreshAt = s.farm.refreshAt ∧ (s.upgradeEntry e n h k).farm.sending = s.farm.sending ∧
    (s.upgradeEntry e n h k).svc.intake = s.svc.intake ∧ (s.upgradeEntry e n h k).svc.bridge = s.svc.bridge ∧
    (s.upgradeEntry e n h k).svc.restartSlot = s.svc.restartSlot ∧ (s.upgradeEntry e n h k).svc.pauseEnd = s.svc.pauseEnd ∧
    (s.upgradeEntry e n h k).svc.sending = s.svc.sending ∧ (s.upgradeEntry e n h k).svc.peer = s.svc.peer ∧
    (s.upgradeEntry e n h k).mgmt.params = s.mgmt.params ∧ (s.upgradeEntry e n h k).mgmt.notify = s.mgmt.notify ∧
    (s.upgradeEntry e n h k).mgmt.cause = s.mgmt.cause := by
  simp only [State.upgradeEntry]; (repeat' split) <;> simp

@[simp] theorem State.delegatePool_parts (p d : Nat) (m : DelegationState) :
    (s.delegatePool p d m).svc.intake = s.svc.intake ∧ (s.delegatePool p d m).svc.bridge = s.svc.bridge ∧
    (s.delegatePool p d m).svc.restartSlot = s.svc.restartSlot ∧ (s.delegatePool p d m).svc.pauseEnd = s.svc.pauseEnd ∧
    (s.delegatePool p d m).svc.sending = s.svc.sending ∧ (s.delegatePool p d m).svc.peer = s.svc.peer ∧
    (s.delegatePool p d m).mgmt.params = s.mgmt.params ∧ (s.delegatePool p d m).mgmt.notify = s.mgmt.notify ∧
    (s.delegatePool p d m).mgmt.cause = s.mgmt.cause := by
  simp only [State.delegatePool]; (repeat' split) <;> simp

@[simp] theorem State.sendTransferList_parts (k : Key) (u : State) (p n : Nat) (l : List Nat) :
    (l.foldl (fun t i => t.pushUp (UpEntry.transfer u.ownEth k (u.transferFrame p n i))) s).svc.intake = s.svc.intake ∧
    (l.foldl (fun t i => t.pushUp (UpEntry.transfer u.ownEth k (u.transferFrame p n i))) s).svc.bridge = s.svc.bridge ∧
    (l.foldl (fun t i => t.pushUp (UpEntry.transfer u.ownEth k (u.transferFrame p n i))) s).svc.restartSlot = s.svc.restartSlot ∧
    (l.foldl (fun t i => t.pushUp (UpEntry.transfer u.ownEth k (u.transferFrame p n i))) s).svc.pauseEnd = s.svc.pauseEnd ∧
    (l.foldl (fun t i => t.pushUp (UpEntry.transfer u.ownEth k (u.transferFrame p n i))) s).svc.sending = s.svc.sending ∧
    (l.foldl (fun t i => t.pushUp (UpEntry.transfer u.ownEth k (u.transferFrame p n i))) s).svc.peer = s.svc.peer := by
  induction l generalizing s with
  | nil => simp
  | cons a l ih => simp [ih]

@[simp] theorem State.sendTransfers_parts (k : Key) (p n : Nat) :
    (s.sendTransfers k p n).svc.intake = s.svc.intake ∧ (s.sendTransfers k p n).svc.bridge = s.svc.bridge ∧
    (s.sendTransfers k p n).svc.restartSlot = s.svc.restartSlot ∧ (s.sendTransfers k p n).svc.pauseEnd = s.svc.pauseEnd ∧
    (s.sendTransfers k p n).svc.sending = s.svc.sending ∧ (s.sendTransfers k p n).svc.peer = s.svc.peer := by
  simp only [State.sendTransfers]; (repeat' split) <;> simp

@[simp] theorem State.revokeEntries_parts (es : List WaitEntry) :
    (es.foldl (fun t e => t.revokeEntry e) s).farm.intake = s.farm.intake ∧
    (es.foldl (fun t e => t.revokeEntry e) s).farm.bridge = s.farm.bridge ∧
    (es.foldl (fun t e => t.revokeEntry e) s).farm.paused = s.farm.paused ∧
    (es.foldl (fun t e => t.revokeEntry e) s).farm.pauseDue = s.farm.pauseDue ∧
    (es.foldl (fun t e => t.revokeEntry e) s).farm.refreshAt = s.farm.refreshAt ∧
    (es.foldl (fun t e => t.revokeEntry e) s).farm.sending = s.farm.sending ∧
    (es.foldl (fun t e => t.revokeEntry e) s).mgmt.params = s.mgmt.params ∧
    (es.foldl (fun t e => t.revokeEntry e) s).mgmt.notify = s.mgmt.notify ∧
    (es.foldl (fun t e => t.revokeEntry e) s).mgmt.cause = s.mgmt.cause ∧
    (es.foldl (fun t e => t.revokeEntry e) s).svc.intake = s.svc.intake ∧
    (es.foldl (fun t e => t.revokeEntry e) s).svc.bridge = s.svc.bridge ∧
    (es.foldl (fun t e => t.revokeEntry e) s).svc.restartSlot = s.svc.restartSlot ∧
    (es.foldl (fun t e => t.revokeEntry e) s).svc.pauseEnd = s.svc.pauseEnd ∧
    (es.foldl (fun t e => t.revokeEntry e) s).svc.sending = s.svc.sending ∧
    (es.foldl (fun t e => t.revokeEntry e) s).svc.peer = s.svc.peer := by
  induction es generalizing s with
  | nil => simp
  | cons a l ih => simp [ih]

@[simp] theorem State.stripPool_parts (p : Nat) :
    (s.stripPool p).farm.intake = s.farm.intake ∧ (s.stripPool p).farm.bridge = s.farm.bridge ∧
    (s.stripPool p).farm.paused = s.farm.paused ∧ (s.stripPool p).farm.pauseDue = s.farm.pauseDue ∧
    (s.stripPool p).farm.refreshAt = s.farm.refreshAt ∧ (s.stripPool p).farm.sending = s.farm.sending ∧
    (s.stripPool p).mgmt.params = s.mgmt.params ∧ (s.stripPool p).mgmt.notify = s.mgmt.notify ∧
    (s.stripPool p).mgmt.cause = s.mgmt.cause ∧ (s.stripPool p).svc.intake = s.svc.intake ∧ (s.stripPool p).svc.bridge = s.svc.bridge ∧
    (s.stripPool p).svc.restartSlot = s.svc.restartSlot ∧ (s.stripPool p).svc.pauseEnd = s.svc.pauseEnd ∧
    (s.stripPool p).svc.sending = s.svc.sending ∧ (s.stripPool p).svc.peer = s.svc.peer := by
  simp only [State.stripPool]; (repeat' split) <;> simp

@[simp] theorem State.drainEntries_parts (es : List WaitEntry) :
    (es.foldl (fun t e => t.drainEntry e) s).farm.intake = s.farm.intake ∧
    (es.foldl (fun t e => t.drainEntry e) s).farm.bridge = s.farm.bridge ∧
    (es.foldl (fun t e => t.drainEntry e) s).farm.paused = s.farm.paused ∧
    (es.foldl (fun t e => t.drainEntry e) s).farm.pauseDue = s.farm.pauseDue ∧
    (es.foldl (fun t e => t.drainEntry e) s).farm.refreshAt = s.farm.refreshAt ∧
    (es.foldl (fun t e => t.drainEntry e) s).farm.sending = s.farm.sending ∧
    (es.foldl (fun t e => t.drainEntry e) s).mgmt.params = s.mgmt.params ∧
    (es.foldl (fun t e => t.drainEntry e) s).mgmt.notify = s.mgmt.notify ∧
    (es.foldl (fun t e => t.drainEntry e) s).mgmt.cause = s.mgmt.cause ∧
    (es.foldl (fun t e => t.drainEntry e) s).svc.intake = s.svc.intake ∧
    (es.foldl (fun t e => t.drainEntry e) s).svc.bridge = s.svc.bridge ∧
    (es.foldl (fun t e => t.drainEntry e) s).svc.restartSlot = s.svc.restartSlot ∧
    (es.foldl (fun t e => t.drainEntry e) s).svc.pauseEnd = s.svc.pauseEnd ∧
    (es.foldl (fun t e => t.drainEntry e) s).svc.sending = s.svc.sending ∧ (es.foldl (fun t e => t.drainEntry e) s).svc.peer = s.svc.peer := by
  induction es generalizing s with
  | nil => simp
  | cons a l ih => simp [ih]

@[simp] theorem State.enterDraining_parts :
    (s.enterDraining).farm.intake = s.farm.intake ∧ (s.enterDraining).farm.bridge = s.farm.bridge ∧
    (s.enterDraining).farm.paused = s.farm.paused ∧ (s.enterDraining).farm.pauseDue = s.farm.pauseDue ∧
    (s.enterDraining).farm.refreshAt = s.farm.refreshAt ∧ (s.enterDraining).farm.sending = s.farm.sending ∧
    (s.enterDraining).mgmt.params = s.mgmt.params ∧ (s.enterDraining).mgmt.notify = s.mgmt.notify ∧
    (s.enterDraining).mgmt.cause = s.mgmt.cause ∧ (s.enterDraining).svc.intake = s.svc.intake ∧
    (s.enterDraining).svc.bridge = s.svc.bridge ∧ (s.enterDraining).svc.restartSlot = s.svc.restartSlot ∧
    (s.enterDraining).svc.pauseEnd = s.svc.pauseEnd ∧ (s.enterDraining).svc.sending = s.svc.sending ∧
    (s.enterDraining).svc.peer = s.svc.peer := by
  simp only [State.enterDraining]; (repeat' split) <;> simp

@[simp] theorem State.setTimeSource_parts :
    (s.setTimeSource).svc.intake = s.svc.intake ∧ (s.setTimeSource).svc.bridge = s.svc.bridge ∧
    (s.setTimeSource).svc.restartSlot = s.svc.restartSlot ∧ (s.setTimeSource).svc.pauseEnd = s.svc.pauseEnd ∧
    (s.setTimeSource).svc.sending = s.svc.sending ∧ (s.setTimeSource).svc.peer = s.svc.peer ∧
    (s.setTimeSource).mgmt.params = s.mgmt.params ∧ (s.setTimeSource).mgmt.notify = s.mgmt.notify ∧
    (s.setTimeSource).mgmt.cause = s.mgmt.cause := by
  simp only [State.setTimeSource]; (repeat' split) <;> simp

@[simp] theorem State.setTimeStep_parts (n : Nat) :
    (s.setTimeStep n).svc.intake = s.svc.intake ∧ (s.setTimeStep n).svc.bridge = s.svc.bridge ∧
    (s.setTimeStep n).svc.restartSlot = s.svc.restartSlot ∧ (s.setTimeStep n).svc.pauseEnd = s.svc.pauseEnd ∧
    (s.setTimeStep n).svc.sending = s.svc.sending ∧ (s.setTimeStep n).svc.peer = s.svc.peer ∧
    (s.setTimeStep n).mgmt.params = s.mgmt.params ∧ (s.setTimeStep n).mgmt.notify = s.mgmt.notify ∧
    (s.setTimeStep n).mgmt.cause = s.mgmt.cause := by
  simp only [State.setTimeStep]; (repeat' split) <;> simp

@[simp] theorem State.setTimeRebase_parts (n : Nat) :
    (s.setTimeRebase n).svc.intake = s.svc.intake ∧ (s.setTimeRebase n).svc.bridge = s.svc.bridge ∧
    (s.setTimeRebase n).svc.restartSlot = s.svc.restartSlot ∧ (s.setTimeRebase n).svc.pauseEnd = s.svc.pauseEnd ∧
    (s.setTimeRebase n).svc.sending = s.svc.sending ∧ (s.setTimeRebase n).svc.peer = s.svc.peer ∧
    (s.setTimeRebase n).mgmt.params = s.mgmt.params ∧ (s.setTimeRebase n).mgmt.notify = s.mgmt.notify ∧
    (s.setTimeRebase n).mgmt.cause = s.mgmt.cause := by
  simp only [State.setTimeRebase]; (repeat' split) <;> simp

@[simp] theorem State.dropManagement_parts :
    (s.dropManagement).mgmt.params = s.mgmt.params ∧ (s.dropManagement).mgmt.notify = s.mgmt.notify ∧
    (s.dropManagement).mgmt.cause = s.mgmt.cause := by
  simp only [State.dropManagement]; (repeat' split) <;> simp

end Sys2Proof.Machine
end

