-- ==== Sys2Proof/Laws/PerInstr.lean ====
section
/-! SUPPORT. The checks on each command's operands, one lemma per constructor (R1, R170, R175). -/

set_option Elab.async false

namespace Sys2Proof.Laws.Checks

/-- A command is ill formed only as a pass on a pool number above 1023, or as a pause frame received at the Service Port under the
row FRAME_RECEIVE. -/
def Statement (i : Instr) : Prop :=
  i.wellFormed = false →
    (∃ pool, i = .queueServicePass pool ∧ 1024 ≤ pool) ∨ (∃ frame, i = .frameReceive .service frame ∧ frame.isPause = true)

theorem frameReceive (port : Port) (frame : Frame) : Statement (.frameReceive port frame) := by
  intro h
  cases port
  · simp [Instr.wellFormed] at h
  · exact .inr ⟨frame, rfl, by simpa [Instr.wellFormed] using h⟩

theorem farmPauseRefresh : Statement (.farmPauseRefresh) := by
  intro h; simp [Instr.wellFormed] at h

theorem bridgeFramePass (port : Port) : Statement (.bridgeFramePass port) := by
  intro h; simp [Instr.wellFormed] at h

theorem servicePauseFrame (quanta : Half) : Statement (.servicePauseFrame quanta) := by
  intro h; simp [Instr.wellFormed] at h

theorem servicePauseExpiry : Statement (.servicePauseExpiry) := by
  intro h; simp [Instr.wellFormed] at h

theorem frameTransmit (port : Port) : Statement (.frameTransmit port) := by
  intro h; simp [Instr.wellFormed] at h

theorem protocolError (port : Port) : Statement (.protocolError port) := by
  intro h; simp [Instr.wellFormed] at h

theorem checkout : Statement (.checkout) := by
  intro h; simp [Instr.wellFormed] at h

theorem checkin : Statement (.checkin) := by
  intro h; simp [Instr.wellFormed] at h

theorem renew : Statement (.renew) := by
  intro h; simp [Instr.wellFormed] at h

theorem cancel : Statement (.cancel) := by
  intro h; simp [Instr.wellFormed] at h

theorem query : Statement (.query) := by
  intro h; simp [Instr.wellFormed] at h

theorem serviceReplyRelay : Statement (.serviceReplyRelay) := by
  intro h; simp [Instr.wellFormed] at h

theorem probe : Statement (.probe) := by
  intro h; simp [Instr.wellFormed] at h

theorem windowExpiry : Statement (.windowExpiry) := by
  intro h; simp [Instr.wellFormed] at h

theorem autonomyLimitReached : Statement (.autonomyLimitReached) := by
  intro h; simp [Instr.wellFormed] at h

theorem renewDeadlineExpiry : Statement (.renewDeadlineExpiry) := by
  intro h; simp [Instr.wellFormed] at h

theorem graceEndReclaim : Statement (.graceEndReclaim) := by
  intro h; simp [Instr.wellFormed] at h

theorem lingerEnd : Statement (.lingerEnd) := by
  intro h; simp [Instr.wellFormed] at h

theorem waitDeadlineExpiry : Statement (.waitDeadlineExpiry) := by
  intro h; simp [Instr.wellFormed] at h

theorem forwardDeadlineExpiry : Statement (.forwardDeadlineExpiry) := by
  intro h; simp [Instr.wellFormed] at h

theorem queueServicePass (pool : Nat) : Statement (.queueServicePass pool) := by
  intro h
  refine .inl ⟨pool, rfl, ?_⟩
  have := of_decide_eq_false h
  simp only [Config.pools] at this
  omega

theorem epochBoundary : Statement (.epochBoundary) := by
  intro h; simp [Instr.wellFormed] at h

theorem dayChange : Statement (.dayChange) := by
  intro h; simp [Instr.wellFormed] at h

theorem identify : Statement (.identify) := by
  intro h; simp [Instr.wellFormed] at h

theorem readStatus : Statement (.readStatus) := by
  intro h; simp [Instr.wellFormed] at h

theorem readPool : Statement (.readPool) := by
  intro h; simp [Instr.wellFormed] at h

theorem setParameters : Statement (.setParameters) := by
  intro h; simp [Instr.wellFormed] at h

theorem setNotify : Statement (.setNotify) := by
  intro h; simp [Instr.wellFormed] at h

theorem clearEvents : Statement (.clearEvents) := by
  intro h; simp [Instr.wellFormed] at h

theorem restart : Statement (.restart) := by
  intro h; simp [Instr.wellFormed] at h

theorem powerOnReset : Statement (.powerOnReset) := by
  intro h; simp [Instr.wellFormed] at h

theorem lineReset (low : Bool) : Statement (.lineReset low) := by
  intro h; simp [Instr.wellFormed] at h

theorem loadPools : Statement (.loadPools) := by
  intro h; simp [Instr.wellFormed] at h

theorem loadGroups : Statement (.loadGroups) := by
  intro h; simp [Instr.wellFormed] at h

theorem clearShadow : Statement (.clearShadow) := by
  intro h; simp [Instr.wellFormed] at h

theorem switch : Statement (.switch) := by
  intro h; simp [Instr.wellFormed] at h

theorem delegate : Statement (.delegate) := by
  intro h; simp [Instr.wellFormed] at h

theorem census : Statement (.census) := by
  intro h; simp [Instr.wellFormed] at h

theorem revoke : Statement (.revoke) := by
  intro h; simp [Instr.wellFormed] at h

theorem listHolds : Statement (.listHolds) := by
  intro h; simp [Instr.wellFormed] at h

theorem listQueue : Statement (.listQueue) := by
  intro h; simp [Instr.wellFormed] at h

theorem evict : Statement (.evict) := by
  intro h; simp [Instr.wellFormed] at h

theorem drain : Statement (.drain) := by
  intro h; simp [Instr.wellFormed] at h

theorem undrain : Statement (.undrain) := by
  intro h; simp [Instr.wellFormed] at h

theorem setTime : Statement (.setTime) := by
  intro h; simp [Instr.wellFormed] at h

theorem injectEchoError : Statement (.injectEchoError) := by
  intro h; simp [Instr.wellFormed] at h

theorem reconcile : Statement (.reconcile) := by
  intro h; simp [Instr.wellFormed] at h

theorem imageRead : Statement (.imageRead) := by
  intro h; simp [Instr.wellFormed] at h

theorem imageWrite : Statement (.imageWrite) := by
  intro h; simp [Instr.wellFormed] at h

theorem resume : Statement (.resume) := by
  intro h; simp [Instr.wellFormed] at h

theorem seatFrameDrop (port : Port) : Statement (.seatFrameDrop port) := by
  intro h; simp [Instr.wellFormed] at h

end Sys2Proof.Laws.Checks
end

