-- ==== Sys2Proof/Laws/Table.lean ====
section
/-! SUPPORT. The laws of sparse tables: what a read sees after a write, and that the canonical form is kept. -/

set_option Elab.async false

namespace Sys2Proof

variable {α : Type}

theorem Table.get?_put (t : Table α) (k key : Nat) (v : α) :
    Table.get? (Table.put t k v) key = if k = key then some v else Table.get? t key := by
  induction t with
  | nil => simp [Table.put, Table.get?]
  | cons e t ih =>
    obtain ⟨a, b⟩ := e
    simp only [Table.put]
    split
    · simp [Table.get?]
    · split
      · subst_vars; simp only [Table.get?]; split <;> simp_all
      · simp only [Table.get?, ih]; grind

theorem Table.get?_remove (t : Table α) (k key : Nat) :
    Table.get? (Table.remove t k) key = if k = key then none else Table.get? t key := by
  induction t with
  | nil => simp [Table.remove, Table.get?]
  | cons e t ih =>
    obtain ⟨a, b⟩ := e
    simp only [Table.remove, List.filter_cons] at ih ⊢
    by_cases h : a = k <;> simp [h, Table.get?] <;> grind

theorem Table.getD_putD [DecidableEq α] (t : Table α) (d : α) (k key : Nat) (v : α) :
    Table.getD (Table.putD t d k v) d key = if k = key then v else Table.getD t d key := by
  simp only [Table.getD, Table.putD]
  split <;> simp only [Table.get?_put, Table.get?_remove] <;> split <;> simp_all

theorem Table.getD_nil (d : α) (key : Nat) : Table.getD [] d key = d := rfl

theorem Table.get?_mem {t : Table α} {key : Nat} {v : α} (h : Table.get? t key = some v) : (key, v) ∈ t := by
  induction t with
  | nil => simp [Table.get?] at h
  | cons e t ih =>
    obtain ⟨a, b⟩ := e
    simp only [Table.get?] at h
    split at h
    · simp_all
    · exact List.mem_cons_of_mem _ (ih h)

theorem Table.rising_cons {e : Nat × α} {t : Table α} :
    Table.Rising (e :: t) ↔ (∀ x ∈ t, e.1 < x.1) ∧ Table.Rising t := by
  simp [Table.Rising, List.pairwise_cons]

theorem Table.get?_of_mem {t : Table α} (h : Table.Rising t) {e : Nat × α} (he : e ∈ t) : Table.get? t e.1 = some e.2 := by
  induction t with
  | nil => simp at he
  | cons x t ih =>
    obtain ⟨a, b⟩ := x
    rw [Table.rising_cons] at h
    rcases List.mem_cons.1 he with rfl | he
    · simp [Table.get?]
    · have := h.1 e he
      simp only [Table.get?]
      rw [if_neg (by simp at this; omega)]
      exact ih h.2 he

theorem Table.rising_filter {t : Table α} (p : Nat × α → Bool) (h : Table.Rising t) : Table.Rising (t.filter p) :=
  List.Pairwise.filter p h

theorem Table.rising_remove {t : Table α} (k : Nat) (h : Table.Rising t) : Table.Rising (Table.remove t k) :=
  Table.rising_filter _ h

theorem Table.mem_put {t : Table α} {k : Nat} {v : α} {e : Nat × α} (h : e ∈ Table.put t k v) : e = (k, v) ∨ e ∈ t := by
  induction t with
  | nil => simpa [Table.put] using h
  | cons x t ih =>
    obtain ⟨a, b⟩ := x
    simp only [Table.put] at h
    split at h
    · simpa using h
    · split at h
      · rcases List.mem_cons.1 h with rfl | h
        · exact .inl rfl
        · exact .inr (List.mem_cons_of_mem _ h)
      · rcases List.mem_cons.1 h with rfl | h
        · exact .inr (List.mem_cons_self ..)
        · rcases ih h with h | h
          · exact .inl h
          · exact .inr (List.mem_cons_of_mem _ h)

theorem Table.rising_put {t : Table α} (k : Nat) (v : α) (h : Table.Rising t) : Table.Rising (Table.put t k v) := by
  induction t with
  | nil => simp [Table.put, Table.Rising]
  | cons x t ih =>
    obtain ⟨a, b⟩ := x
    rw [Table.rising_cons] at h
    simp only [Table.put]
    split
    · rw [Table.rising_cons, Table.rising_cons]
      refine ⟨?_, h⟩
      intro y hy
      rcases List.mem_cons.1 hy with rfl | hy
      · assumption
      · have := h.1 y hy; simp at this ⊢; omega
    · split
      · rw [Table.rising_cons]
        refine ⟨?_, h.2⟩
        intro y hy; have := h.1 y hy; simp at this ⊢; omega
      · rw [Table.rising_cons]
        refine ⟨?_, ih h.2⟩
        intro y hy
        rcases Table.mem_put hy with rfl | hy
        · simp; omega
        · exact h.1 y hy

theorem Table.canonical_nil (d : α) (bound : Nat) : Table.Canonical ([] : Table α) d bound := by
  simp [Table.Canonical, Table.Rising]

theorem Table.canonical_putD [DecidableEq α] {t : Table α} {d : α} {bound k : Nat} (v : α) (h : Table.Canonical t d bound) (hk : k < bound) :
    Table.Canonical (Table.putD t d k v) d bound := by
  simp only [Table.putD]
  split
  · refine ⟨Table.rising_remove k h.1, fun e he => h.2 e ?_⟩
    exact (List.mem_filter.1 he).1
  · refine ⟨Table.rising_put k v h.1, fun e he => ?_⟩
    rcases Table.mem_put he with rfl | he
    · exact ⟨hk, by assumption⟩
    · exact h.2 e he

/-- A rising table reads the same through a change of every value, under a default that the change keeps. -/
theorem Table.getD_mapD [DecidableEq α] {t : Table α} {d : α} (f : α → α) (hf : f d = d) (h : Table.Rising t) (key : Nat) :
    Table.getD (Table.mapD t d f) d key = f (Table.getD t d key) := by
  induction t with
  | nil => simp [Table.mapD, Table.getD, Table.get?, hf]
  | cons x t ih =>
    obtain ⟨a, b⟩ := x
    rw [Table.rising_cons] at h
    have ih := ih h.2
    have hn : ∀ v, Table.get? t a ≠ some v := by
      intro v hv
      have := h.1 _ (Table.get?_mem hv)
      simp at this
    simp only [Table.mapD, List.map_cons, List.filter_cons] at ih ⊢
    by_cases hk : a = key
    · subst hk
      have h0 : Table.getD t d a = d := by
        simp only [Table.getD]
        cases hg : Table.get? t a with
        | none => rfl
        | some v => exact absurd hg (hn v)
      split
      · simp [Table.getD, Table.get?]
      · rename_i hb
        simp only [decide_not, Bool.not_eq_true', decide_eq_false_iff_not, Decidable.not_not] at hb
        have hm : Table.getD (List.filter (fun e => decide (e.2 ≠ d)) (List.map (fun e => (e.1, f e.2)) t)) d a = d := by
          rw [ih, h0, hf]
        rw [hm]
        simp [Table.getD, Table.get?, hb]
    · have hr : Table.getD ((a, b) :: t) d key = Table.getD t d key := by simp [Table.getD, Table.get?, hk]
      rw [hr, ← ih]
      split
      · simp [Table.getD, Table.get?, hk]
      · rfl

theorem mem_insertNat (n m : Nat) (l : List Nat) : m ∈ insertNat n l ↔ m = n ∨ m ∈ l := by
  induction l with
  | nil => simp [insertNat]
  | cons a l ih =>
    simp only [insertNat]
    split
    · simp
    · split
      · subst_vars; simp
      · simp only [List.mem_cons, ih]; grind

/-- An insertion fold lists exactly what it is given. -/
theorem mem_foldl_insertNat {β : Type} (f : β → Nat) (l : List β) (acc : List Nat) (n : Nat) :
    n ∈ l.foldl (fun r e => insertNat (f e) r) acc ↔ n ∈ acc ∨ ∃ e ∈ l, f e = n := by
  induction l generalizing acc with
  | nil => simp
  | cons a l ih => simp only [List.foldl_cons, ih, mem_insertNat]; grind

/-- An insertion keeps the rising order. -/
theorem rising_insertNat (n : Nat) {l : List Nat} (h : l.Pairwise (· < ·)) : (insertNat n l).Pairwise (· < ·) := by
  induction l with
  | nil => simp [insertNat]
  | cons m l ih =>
    rw [List.pairwise_cons] at h
    simp only [insertNat]
    split
    · simp only [List.pairwise_cons, List.mem_cons]; grind
    · split
      · exact List.pairwise_cons.2 h
      · refine List.pairwise_cons.2 ⟨fun x hx => ?_, ih h.2⟩
        rcases (mem_insertNat ..).1 hx with rfl | hx
        · omega
        · exact h.1 x hx

theorem rising_foldl_insertNat {β : Type} (f : β → Nat) (l : List β) {acc : List Nat} (h : acc.Pairwise (· < ·)) :
    (l.foldl (fun r e => insertNat (f e) r) acc).Pairwise (· < ·) := by
  induction l generalizing acc with
  | nil => exact h
  | cons a l ih => exact ih (rising_insertNat (f a) h)

/-- Two lists in one rising order with the same members are one list. -/
theorem eq_of_rising_of_mem {a b : List Nat} (ha : a.Pairwise (· < ·)) (hb : b.Pairwise (· < ·)) (h : ∀ n, n ∈ a ↔ n ∈ b) : a = b :=
  List.Perm.eq_of_pairwise (fun _ _ _ _ hx hy => absurd hx (Nat.lt_asymm hy)) ha hb
    ((List.perm_ext_iff_of_nodup (ha.imp Nat.ne_of_lt) (hb.imp Nat.ne_of_lt)).2 h)

end Sys2Proof
end

