-- ==== Sys2Proof/Laws/Spec.lean ====
section
/-! SUPPORT. One lemma per shared operation that says what it does: accounts, events, room, charge, credit, removal, and the taking
and answering of a management request. -/

set_option Elab.async false

namespace Sys2Proof.Machine

variable (s : State)

/-! ### Accounts -/

theorem State.acct_congr {s t : State} (h : t.accounts = s.accounts) (p : Nat) : t.acct p = s.acct p := by simp [State.acct, h]

@[simp] theorem State.acct_setAcct (p q : Nat) (a : Account) : (s.setAcct p a).acct q = if p = q then a else s.acct q := by
  simp [State.acct, State.setAcct, Table.getD_putD]

@[simp] theorem State.acct_modAcct (p q : Nat) (f : Account → Account) :
    (s.modAcct p f).acct q = if p = q then f (s.acct p) else s.acct q := by simp [State.modAcct]

theorem State.record_congr {s t : State} (h : t.banks = s.banks) (p : Nat) : t.record p = s.record p := by
  simp [State.record, State.record?, h]

theorem State.ceiling_congr {s t : State} (hb : t.banks = s.banks) (p : Nat) (ha : (t.acct p).d = (s.acct p).d) :
    t.ceiling p = s.ceiling p := by
  simp [State.ceiling, State.allowance, State.record_congr hb, ha]

theorem State.effectiveCeiling_congr {s t : State} (hb : t.banks = s.banks) (hl : t.link.state = s.link.state) (p : Nat)
    (hd : (t.acct p).d = (s.acct p).d) (hs : (t.acct p).state = (s.acct p).state) :
    t.effectiveCeiling p = s.effectiveCeiling p := by
  simp [State.effectiveCeiling, State.ceiling_congr hb p hd, hl, hd, hs]

/-- The effective ceiling does not tell SOLE from SOLE_CHANGED (R28). -/
theorem State.effectiveCeiling_moved {s t : State} (hb : t.banks = s.banks) (hl : t.link.state = s.link.state) (p : Nat)
    (hd : (t.acct p).d = (s.acct p).d) (hs : (t.acct p).state = (s.acct p).state.moved) :
    t.effectiveCeiling p = s.effectiveCeiling p := by
  simp only [State.effectiveCeiling, State.ceiling_congr hb p hd, hl, hd, hs]
  cases (s.acct p).state <;> simp [DelegationState.moved]

theorem DelegationState.moved_ne_absent (d : DelegationState) : d.moved = .absent ↔ d = .absent := by
  cases d <;> simp [DelegationState.moved]

/-! ### Events -/

theorem Event.bit_inj {a b : Event} (h : a.bit = b.bit) : a = b := by cases a <;> cases b <;> simp_all [Event.bit]

@[simp] theorem State.eventPending_flagEvent (e e' : Event) :
    (s.flagEvent e).eventPending e' = (decide (e' = e) || s.eventPending e') := by
  simp only [State.eventPending, State.flagEvent, State.setMgmt_mgmt, BitVec.getLsbD_or, Event.mask, BitVec.getLsbD_twoPow]
  by_cases h : e' = e
  · subst h; have : e'.bit < 15 := by cases e' <;> simp [Event.bit]
    simp [this]
  · have : e.bit ≠ e'.bit := fun hb => h (Event.bit_inj hb.symm)
    simp [h, this]

@[simp] theorem State.eventPending_raise (e e' : Event) : (s.raise e).eventPending e' = (decide (e' = e) || s.eventPending e') := by
  simp only [State.raise]
  split
  · by_cases h : e' = e <;> simp_all
  · split
    · have : ((s.flagEvent e).notice e).eventPending e' = (s.flagEvent e).eventPending e' := by simp [State.eventPending]
      rw [this]; simp
    · simp

/-- Raising an event touches the pending flags, the kept notices, and the Upstream Queue or its drop count, alone (R189). -/
theorem State.raise_only (e : Event) : OnlyRaised s (s.raise e) := by
  simp only [OnlyRaised, State.raise]
  split
  · rfl
  · split
    · simp only [State.notice]
      split
      · rfl
      · simp only [State.offerUp]
        split <;> rfl
    · rfl

/-- What a raising adds to the Upstream Queue is notices (R189). -/
theorem State.raise_upstream (e : Event) :
    ∃ notices, (∀ x ∈ notices, UpEntry.isNotice x = true) ∧ (s.raise e).svc.upstream = s.svc.upstream ++ notices := by
  simp only [State.raise]
  split
  · exact ⟨[], by simp⟩
  · split
    · simp only [State.notice]
      split
      · exact ⟨[], by simp [State.flagEvent]⟩
      · simp only [State.offerUp]
        split
        · refine ⟨[UpEntry.event (s.flagEvent e).ownEth (s.flagEvent e).mgmt.events e (s.flagEvent e).time.now], ?_, ?_⟩
          · simp [UpEntry.isNotice]
          · simp [State.pushUp, State.flagEvent]
        · exact ⟨[], by simp [State.dropUp, State.flagEvent]⟩
    · exact ⟨[], by simp [State.flagEvent]⟩

/-- A raising whose flag is set already changes nothing (R189). -/
theorem State.raise_pending {e : Event} (h : s.eventPending e = true) : s.raise e = s := by simp [State.raise, h]

/-! ### The account's response -/

/-- After a re-evaluation the pool's overcommit flag is exact; nothing else of any account moves (R31). -/
theorem State.acct_reevaluate (p q : Nat) :
    (s.reevaluate p).acct q =
      if p = q then { s.acct p with overcommit := decide (s.effectiveCeiling p < (s.acct p).h) } else s.acct q := by
  simp only [State.reevaluate]
  by_cases h : s.effectiveCeiling p < (s.acct p).h <;> by_cases ho : (s.acct p).overcommit <;> simp only [h, ho, if_true, if_false]
  · by_cases hp : p = q
    · subst hp; cases ha : s.acct p; simp_all
    · simp [hp]
  · simp only [Bool.false_eq_true, if_false]
    rw [State.acct_congr (State.raise_kept _ _).2.2.2.2.2.1]; simp
  · have ha : ∀ t : State, (t.accountAsks p).acct q = t.acct q := fun t => State.acct_congr (by simp) q
    rw [ha]; simp
  · by_cases hp : p = q
    · subst hp; cases ha : s.acct p; simp_all
    · simp [hp]

/-- A re-evaluation that finds the flag exact does nothing (R31). -/
theorem State.reevaluate_exact {p : Nat} (h : (s.acct p).overcommit = decide (s.effectiveCeiling p < (s.acct p).h)) :
    s.reevaluate p = s := by
  simp only [State.reevaluate]
  split <;> simp_all

/-! ### The charge and the removal of a hold -/

theorem State.seatRoom_congr {s t : State} (hu : t.svc.upstream = s.svc.upstream) (hr : t.reserved = s.reserved) :
    t.seatRoom = s.seatRoom := by
  unfold State.seatRoom State.seatCount; rw [hu, hr]

theorem State.mgmtRoom_congr {s t : State} (hu : t.svc.upstream = s.svc.upstream) (hr : t.reserved = s.reserved) :
    t.mgmtRoom = s.mgmtRoom := by
  unfold State.mgmtRoom; rw [hu, hr]

theorem State.mem_askPasses (ps : List Nat) (t : State) (p : Nat) :
    p ∈ (t.askPasses ps).queues.marks ↔ p ∈ t.queues.marks ∨ p ∈ ps := by
  induction ps generalizing t with
  | nil => simp [State.askPasses]
  | cons a ps ih =>
    have hc : t.askPasses (a :: ps) = (t.askPass a).askPasses ps := rfl
    rw [hc, ih]
    simp only [State.askPass, State.setQueues_queues, mem_insertNat, List.mem_cons]
    grind

theorem State.mem_askAllOrdered (ps : List Nat) (t : State) (p : Nat) :
    p ∈ (t.askAllOrdered ps).queues.marks ↔ p ∈ t.queues.marks ∨ p ∈ ps := by
  induction ps generalizing t with
  | nil => simp [State.askAllOrdered]
  | cons a ps ih =>
    have hc : t.askAllOrdered (a :: ps) = (t.askOrdered a).askAllOrdered ps := rfl
    rw [hc, ih]
    simp only [State.askOrdered, State.setQueues_queues, mem_insertNat, List.mem_cons]
    grind

theorem State.mem_stalledPools {t : State} {p : Nat} (h : (t.acct p).stalled = true) : p ∈ t.stalledPools := by
  simp only [State.acct, Table.getD] at h
  cases hg : Table.get? t.accounts p with
  | none => simp [hg, Account.cleared] at h
  | some a =>
    simp [hg] at h
    exact List.mem_map.2 ⟨(p, a), List.mem_filter.2 ⟨Table.get?_mem hg, by simp [h]⟩, rfl⟩

theorem State.mem_waitingPools (t : State) (p : Nat) : p ∈ t.waitingPools ↔ ∃ e ∈ t.queues.entries, e.pool = p := by
  simp [State.waitingPools, mem_foldl_insertNat]

/-- Every way a pass is asked for only adds marks (R83). -/
theorem State.mem_accountAsks (t : State) (p q : Nat) :
    q ∈ (t.accountAsks p).queues.marks ↔ q ∈ t.queues.marks ∨ (q = p ∧ t.delegated p = true) := by
  simp only [State.accountAsks]
  split <;> simp_all [State.askPass, mem_insertNat]
  grind

theorem State.mem_reevaluate {t : State} {p q : Nat} (h : q ∈ t.queues.marks) : q ∈ (t.reevaluate p).queues.marks := by
  simp only [State.reevaluate]
  split
  · split <;> simpa using h
  · split
    · rw [State.mem_accountAsks]; left; simpa using h
    · exact h

/-- The credit of a removal in a pool whose overcommit flag is exact: the figures, the report or the gap flag, the marks (R22, R24,
R31, R32, R36, R109). -/
theorem State.acct_credit (p q : Nat) (change : ChangeKind) (hold : Hold) (handle : Handle)
    (hx : (s.acct p).overcommit = decide (s.effectiveCeiling p < (s.acct p).h)) :
    (s.credit p change hold handle).acct q =
      if p = q then
        { s.acct p with
          h := (s.acct p).h - hold.tokens, holdCount := (s.acct p).holdCount - 1, state := (s.acct p).state.moved,
          peakThis := max (s.acct p).peakThis ((s.acct p).h - hold.tokens),
          overcommit := decide (s.effectiveCeiling p < (s.acct p).h - hold.tokens),
          reported :=
            if (s.acct p).state = .shared ∧ s.seatRoom = true then (s.acct p).h - hold.tokens else (s.acct p).reported,
          gap := if (s.acct p).state = .shared then !s.seatRoom else (s.acct p).gap }
      else s.acct q := by
  have ha : ∀ (t : State), (t.accountAsks p).acct q = t.acct q := fun t => State.acct_congr (by simp) q
  have he : ((s.modAcct p (fun a => a.credited hold.tokens)).reevaluate p).acct q =
      if p = q then
        { s.acct p with
          h := (s.acct p).h - hold.tokens, holdCount := (s.acct p).holdCount - 1, state := (s.acct p).state.moved,
          peakThis := max (s.acct p).peakThis ((s.acct p).h - hold.tokens),
          overcommit := decide (s.effectiveCeiling p < (s.acct p).h - hold.tokens) }
      else s.acct q := by
    rw [State.acct_reevaluate, State.effectiveCeiling_moved (s := s) (by simp) (by simp) p (by simp [Account.credited])
      (by simp [Account.credited])]
    split
    · simp [Account.credited]
    · rename_i h; simp [h]
  have hu : ((s.modAcct p (fun a => a.credited hold.tokens)).reevaluate p).svc = s.svc := by
    simp only [State.reevaluate]
    rw [State.effectiveCeiling_moved (s := s) (by simp) (by simp) p (by simp [Account.credited]) (by simp [Account.credited])]
    by_cases hlt : s.effectiveCeiling p < (s.acct p).h - hold.tokens
    · have : s.effectiveCeiling p < (s.acct p).h := by omega
      simp [Account.credited, hlt, hx, this]
    · simp [Account.credited, hlt]; split <;> simp
  have hr : ((s.modAcct p (fun a => a.credited hold.tokens)).reevaluate p).reserved = s.reserved := by simp
  have hroom : ((s.modAcct p (fun a => a.credited hold.tokens)).reevaluate p).seatRoom = s.seatRoom := by
    exact State.seatRoom_congr (by rw [hu]) hr
  have hp := he
  simp only [State.credit]
  generalize hv : (s.modAcct p (fun a => a.credited hold.tokens)).reevaluate p = v at *
  have hif : ∀ (c : Prop) [Decidable c] (t : State), (if c then t.accountAsks p else t).acct q = t.acct q := by
    intro c _ t; split <;> simp [ha]
  rw [hif]
  by_cases hs : (s.acct p).state = .shared
  · simp only [hs, if_true, State.reportRelease, hroom]
    by_cases hm : s.seatRoom = true
    · simp only [hm, if_true, State.queueReport, State.acct_modAcct]
      by_cases hpq : p = q
      · subst hpq
        have hc : ∀ e, (State.pushUp e v).acct p = v.acct p := fun e => State.acct_congr (by simp) p
        simp only [if_true] at he
        simp [hc, he, hs]
      · simp only [hpq, if_false] at he ⊢
        rw [State.acct_congr (State.pushUp_kept _ _).2.2.2.2.2.1, he]
    · simp only [hm, State.setGap]
      by_cases hpq : p = q
      · subst hpq
        simp only [if_true] at he
        by_cases hg : (s.acct p).gap = true
        · simp [he, hg, hs, DelegationState.moved]
        · have hc : ∀ e (t : State), (t.raise e).acct p = t.acct p := fun e t => State.acct_congr (by simp) p
          simp [he, hg, hc, hs, DelegationState.moved]
      · simp only [hpq, if_false] at he ⊢
        by_cases hg : (v.acct p).gap = true
        · simp [hg, he]
        · have hc : ∀ e (t : State), (t.raise e).acct q = t.acct q := fun e t => State.acct_congr (by simp) q
          simp [hg, he, hc, hpq]
  · simp only [hs, if_false, he, false_and]

theorem State.mem_credit {t : State} {p q : Nat} (change : ChangeKind) (hold : Hold) (handle : Handle) (h : q ∈ t.queues.marks) :
    q ∈ (t.credit p change hold handle).queues.marks := by
  simp only [State.credit]
  have h1 : q ∈ ((t.modAcct p (fun a => a.credited hold.tokens)).reevaluate p).queues.marks := State.mem_reevaluate (by simpa using h)
  have h2 : ∀ (c : Prop) [Decidable c] (u : State), q ∈ u.queues.marks → q ∈ (if c then u.accountAsks p else u).queues.marks := by
    intro c _ u hu; split
    · rw [State.mem_accountAsks]; exact .inl hu
    · exact hu
  apply h2
  split
  · simpa using h1
  · exact h1

@[simp] theorem State.entries_askPasses (ps : List Nat) (t : State) : (t.askPasses ps).queues.entries = t.queues.entries := by
  induction ps generalizing t with
  | nil => rfl
  | cons a ps ih =>
    have hc : t.askPasses (a :: ps) = (t.askPass a).askPasses ps := rfl
    rw [hc, ih]; rfl

@[simp] theorem State.entries_askAllOrdered (ps : List Nat) (t : State) :
    (t.askAllOrdered ps).queues.entries = t.queues.entries := by
  induction ps generalizing t with
  | nil => rfl
  | cons a ps ih =>
    have hc : t.askAllOrdered (a :: ps) = (t.askOrdered a).askAllOrdered ps := rfl
    rw [hc, ih]; rfl

@[simp] theorem State.entries_accountAsks (p : Nat) : (s.accountAsks p).queues.entries = s.queues.entries := by
  simp only [State.accountAsks]; split <;> rfl

@[simp] theorem State.entries_reevaluate (p : Nat) : (s.reevaluate p).queues.entries = s.queues.entries := by
  simp only [State.reevaluate]; (repeat' split) <;> simp

@[simp] theorem State.entries_credit (p : Nat) (change : ChangeKind) (hold : Hold) (handle : Handle) :
    (s.credit p change hold handle).queues.entries = s.queues.entries := by
  simp only [State.credit]; (repeat' split) <;> simp

/-- The removal of a hold, where its pool's overcommit flag is exact (R67). -/
theorem State.removeHold_removed (slot : Nat) (hold : Hold) (change : ChangeKind)
    (hx : (s.acct hold.pool).overcommit = decide (s.effectiveCeiling hold.pool < (s.acct hold.pool).h)) :
    Removed s (s.removeHold slot hold change) slot hold := by
  have hacct : ∀ q, (s.removeHold slot hold change).acct q = ((s.freeSlot slot).credit hold.pool change hold (s.handleAt slot)).acct q :=
    fun q => State.acct_congr (by simp [State.removeHold, State.slotFreed]; split <;> simp) q
  have hf : ∀ q, (s.freeSlot slot).acct q = s.acct q := fun q => State.acct_congr (by simp) q
  have he : (s.freeSlot slot).effectiveCeiling hold.pool = s.effectiveCeiling hold.pool :=
    State.effectiveCeiling_congr (by simp) (by simp) _ (by rw [hf]) (by rw [hf])
  have hr : (s.freeSlot slot).seatRoom = s.seatRoom := State.seatRoom_congr (by simp) (by simp)
  have hc := fun q => State.acct_credit (s.freeSlot slot) hold.pool q change hold (s.handleAt slot) (by rw [hf, he, hx])
  simp only [hf, he, hr] at hc
  have hk : (s.removeHold slot hold change).holds = (s.freeSlot slot).holds := by simp [State.removeHold, State.slotFreed]; split <;> simp
  have hm : ∀ q, q ∈ ((s.freeSlot slot).credit hold.pool change hold (s.handleAt slot)).queues.marks →
      q ∈ (s.removeHold slot hold change).queues.marks := by
    intro q hq
    simp only [State.removeHold, State.slotFreed]
    split
    · rw [State.mem_askAllOrdered, State.mem_askPasses]; exact .inl (.inl hq)
    · rw [State.mem_askPasses]; exact .inl hq
  refine ⟨?_, ?_, ⟨?_, ?_⟩,
    ⟨if (s.acct hold.pool).state = .shared ∧ s.seatRoom = true then (s.acct hold.pool).h - hold.tokens
      else (s.acct hold.pool).reported,
      if (s.acct hold.pool).state = .shared then !s.seatRoom else (s.acct hold.pool).gap, ?_, ?_⟩, ?_, ?_, ?_, ?_, ?_⟩
  · rw [hk]; simp [State.freeSlot, Table.get?_remove]
  · simp only [State.generation, hk]; simp [State.freeSlot, Table.getD_putD, State.generation, Config.generations]
  · intro n hn; rw [hk]; simp [State.freeSlot, Table.get?_remove, Ne.symm hn]
  · intro n hn; simp only [State.generation, hk]; simp [State.freeSlot, Table.getD_putD, Ne.symm hn]
  · rw [hacct, hc, if_pos rfl]
  · intro hns; simp [hns]
  · intro q hq; rw [hacct, hc, if_neg (Ne.symm hq)]
  · simp only [State.removeHold, State.slotFreed]; split <;> simp
  · simp only [State.removeHold, State.slotFreed]; split <;> simp
  · intro p hp
    rcases hp with hp | hp | ⟨hfull, hp⟩
    · exact hm p (State.mem_credit change hold _ (by simpa using hp))
    · have : (((s.freeSlot slot).credit hold.pool change hold (s.handleAt slot)).acct p).stalled = true := by
        rw [hc]; split
        · rename_i h; subst h; exact hp
        · exact hp
      have := State.mem_stalledPools this
      simp only [State.removeHold, State.slotFreed]
      split
      · rw [State.mem_askAllOrdered, State.mem_askPasses]; exact .inl (.inr this)
      · rw [State.mem_askPasses]; exact .inr this
    · simp only [State.removeHold, State.slotFreed, hfull, if_true]
      rw [State.mem_askAllOrdered]; right
      rw [State.mem_waitingPools] at hp ⊢
      obtain ⟨e, he, hp⟩ := hp
      exact ⟨e, by simpa using he, hp⟩
  · intro ht hd
    apply hm
    simp only [State.credit, if_pos ht]
    rw [State.mem_accountAsks]
    right
    refine ⟨rfl, ?_⟩
    have h1 := hc hold.pool
    rw [if_pos rfl] at h1
    simp only [State.credit, if_pos ht] at h1
    rw [State.acct_congr (State.accountAsks_kept _ _).2.2.2.2.2.1] at h1
    simp only [State.delegated, h1, decide_eq_true_eq] at hd ⊢
    rw [ne_eq, DelegationState.moved_ne_absent]
    exact hd

/-- A credit in a pool whose overcommit flag is exact raises no POOL_OVERCOMMIT (R31). -/
theorem State.credited_quiet (p tokens : Nat) (hx : (s.acct p).overcommit = decide (s.effectiveCeiling p < (s.acct p).h)) :
    ((s.modAcct p (fun a => a.credited tokens)).reevaluate p).svc = s.svc ∧
      ((s.modAcct p (fun a => a.credited tokens)).reevaluate p).mgmt = s.mgmt := by
  simp only [State.reevaluate]
  rw [State.effectiveCeiling_moved (s := s) (by simp) (by simp) p (by simp [Account.credited]) (by simp [Account.credited])]
  by_cases hlt : s.effectiveCeiling p < (s.acct p).h - tokens
  · have : s.effectiveCeiling p < (s.acct p).h := by omega
    simp [Account.credited, hlt, hx, this]
  · simp [Account.credited, hlt]; split <;> simp

/-- The report of a removal (R109). -/
theorem State.removeHold_reports (slot : Nat) (hold : Hold) (change : ChangeKind)
    (hx : (s.acct hold.pool).overcommit = decide (s.effectiveCeiling hold.pool < (s.acct hold.pool).h)) :
    ReportsRemoval s (s.removeHold slot hold change) slot hold change := by
  have hf : ∀ q, (s.freeSlot slot).acct q = s.acct q := fun q => State.acct_congr (by simp) q
  have he : (s.freeSlot slot).effectiveCeiling hold.pool = s.effectiveCeiling hold.pool :=
    State.effectiveCeiling_congr (by simp) (by simp) _ (by rw [hf]) (by rw [hf])
  have hr : (s.freeSlot slot).seatRoom = s.seatRoom := State.seatRoom_congr (by simp) (by simp)
  have hc := State.acct_credit (s.freeSlot slot) hold.pool hold.pool change hold (s.handleAt slot) (by rw [hf, he, hx])
  have hq := State.credited_quiet (s.freeSlot slot) hold.pool hold.tokens (by rw [hf, he, hx])
  have hacct : (s.removeHold slot hold change).acct hold.pool =
      ((s.freeSlot slot).credit hold.pool change hold (s.handleAt slot)).acct hold.pool :=
    State.acct_congr (by simp [State.removeHold, State.slotFreed]; split <;> simp) _
  have hsvc : (s.removeHold slot hold change).svc = ((s.freeSlot slot).credit hold.pool change hold (s.handleAt slot)).svc := by
    simp [State.removeHold, State.slotFreed]; split <;> simp
  have hmg : (s.removeHold slot hold change).mgmt = ((s.freeSlot slot).credit hold.pool change hold (s.handleAt slot)).mgmt := by
    simp [State.removeHold, State.slotFreed]; split <;> simp
  rw [if_pos rfl] at hc
  simp only [hf, he, hr] at hc
  have hroom : (((s.freeSlot slot).modAcct hold.pool (fun a => a.credited hold.tokens)).reevaluate hold.pool).seatRoom = s.seatRoom :=
    State.seatRoom_congr (by rw [hq.1]; simp) (by simp)
  have hev := State.acct_reevaluate ((s.freeSlot slot).modAcct hold.pool (fun a => a.credited hold.tokens)) hold.pool hold.pool
  rw [if_pos rfl] at hev
  have hif : ∀ (c : Prop) [Decidable c] (t : State), (if c then t.accountAsks hold.pool else t).svc = t.svc := by
    intro c _ t; split <;> simp
  have hif2 : ∀ (c : Prop) [Decidable c] (t : State), (if c then t.accountAsks hold.pool else t).mgmt = t.mgmt := by
    intro c _ t; split <;> simp
  have hown : (((s.freeSlot slot).modAcct hold.pool (fun a => a.credited hold.tokens)).reevaluate hold.pool).ownEth = s.ownEth := by
    simp only [State.ownEth, hq.1, hq.2]; simp
  refine ⟨?_, ?_, ?_⟩
  · intro hs hm
    refine ⟨?_, ?_, ?_⟩
    · rw [hsvc]
      simp only [State.credit, hif, hf, hs, if_true, State.reportRelease, hroom, hm, State.queueReport]
      simp only [State.modAcct_kept, State.pushUp, State.setSvc_svc, hq.1, hev, hown]
      simp [Account.credited, hf, releaseReport, State.handleAt]
    · rw [hacct, hc]; simp [hs, hm]
    · rw [hacct, hc]; simp [hs, hm]
  · intro hs hm
    refine ⟨?_, ?_, ?_⟩
    · rw [hacct, hc]; simp [hm]
    · rw [hacct, hc]; simp [hs, hm]
    · intro hg
      simp only [State.eventPending, hmg]
      simp only [State.credit, hif2, hf, hs, if_true, State.reportRelease, hroom, hm, State.setGap]
      have : ((((s.freeSlot slot).modAcct hold.pool (fun a => a.credited hold.tokens)).reevaluate hold.pool).acct hold.pool).gap = false := by
        rw [hev]; simp [Account.credited, hf, hg]
      simp only [this]
      have hp := fun (u : State) => State.eventPending_raise u .reportGap .reportGap
      simp only [State.eventPending] at hp
      simpa using hp _
  · intro hs
    rw [hsvc]
    simp only [State.credit, hif, hf, hs, if_false, hq.1]
    simp

theorem State.ownEth_raise (e : Event) : (s.raise e).ownEth = s.ownEth := by simp [State.ownEth]

/-- A charge that fits, in a pool whose overcommit flag is exact, with the count of the grant (R22, R36, R108). -/
theorem State.charge_charged (p tokens newHolds : Nat) (change : ChangeKind) (hold : Hold) (handle : Handle)
    (hx : (s.acct p).overcommit = decide (s.effectiveCeiling p < (s.acct p).h))
    (hfit : tokens + (s.acct p).h ≤ s.effectiveCeiling p) :
    ChargedBy s ((s.charge p tokens newHolds change hold handle).countPoolGrant p) (s.acct p) p tokens newHolds change hold handle := by
  have hoc : (s.acct p).overcommit = false := by rw [hx]; simp; omega
  have key : ∀ (u : State), u.accounts = s.accounts → u.banks = s.banks → u.link = s.link →
      ∀ b : Bool, ((if b then (u.setAcct p ((s.acct p).charged tokens newHolds)).raise .poolOverdraft
        else u.setAcct p ((s.acct p).charged tokens newHolds)).reevaluate p) =
        (if b then (u.setAcct p ((s.acct p).charged tokens newHolds)).raise .poolOverdraft
        else u.setAcct p ((s.acct p).charged tokens newHolds)) := by
    intro u ha hb hl b
    apply State.reevaluate_exact
    have h1 : ∀ b : Bool, (if b then (u.setAcct p ((s.acct p).charged tokens newHolds)).raise .poolOverdraft
        else u.setAcct p ((s.acct p).charged tokens newHolds)).acct p = (s.acct p).charged tokens newHolds := by
      intro b; cases b
      · simp
      · simp only [if_true]; rw [State.acct_congr (State.raise_kept _ _).2.2.2.2.2.1]; simp
    rw [State.effectiveCeiling_moved (s := s) (by cases b <;> simp [hb]) (by cases b <;> simp [hl]) p
      (by rw [h1]; simp [Account.charged]) (by rw [h1]; simp [Account.charged])]
    rw [h1]
    simp [Account.charged, hoc]
    omega
  simp only [State.charge]
  by_cases hs : (s.acct p).state = .shared
  · simp only [hs, decide_true, if_true]
    have hk := key (s.setReserved (s.reserved + 1)) (by simp) (by simp) (by simp)
      (decide ((s.acct p).overdraftInUse = 0 ∧ 0 < ((s.acct p).charged tokens newHolds).overdraftInUse))
    simp only [decide_eq_true_eq] at hk
    rw [hk]
    generalize hv : (if (s.acct p).overdraftInUse = 0 ∧ 0 < ((s.acct p).charged tokens newHolds).overdraftInUse then
      ((s.setReserved (s.reserved + 1)).setAcct p ((s.acct p).charged tokens newHolds)).raise .poolOverdraft
      else (s.setReserved (s.reserved + 1)).setAcct p ((s.acct p).charged tokens newHolds)) = v
    have hva : ∀ q, v.acct q = if p = q then (s.acct p).charged tokens newHolds else s.acct q := by
      intro q; rw [← hv]; split
      · rw [State.acct_congr (State.raise_kept _ _).2.2.2.2.2.1]; simp; rfl
      · simp; rfl
    have hvo : v.ownEth = s.ownEth := by
      rw [← hv]; split
      · rw [State.ownEth_raise]; simp [State.ownEth]
      · simp [State.ownEth]
    have hvu : ∃ notices, (∀ x ∈ notices, UpEntry.isNotice x = true) ∧ v.svc.upstream = s.svc.upstream ++ notices := by
      rw [← hv]; split
      · obtain ⟨n, hn, hu⟩ := State.raise_upstream
          ((s.setReserved (s.reserved + 1)).setAcct p ((s.acct p).charged tokens newHolds)) .poolOverdraft
        exact ⟨n, hn, by rw [hu]; simp⟩
      · exact ⟨[], by simp⟩
    obtain ⟨n, hn, hu⟩ := hvu
    have hrs : (v.setReserved s.reserved).ownEth = s.ownEth := by rw [← hvo]; rfl
    refine ⟨?_, ?_, ⟨n, hn, ?_⟩, ?_, ?_⟩
    · simp only [State.countPoolGrant, State.queueReport, State.acct_modAcct, if_true]
      rw [State.acct_congr (State.pushUp_kept _ _).2.2.2.2.2.1, State.acct_congr (State.setReserved_accounts _ _), hva, if_pos rfl]
      simp [Account.charged, hs]
    · intro q hq
      simp only [State.countPoolGrant, State.queueReport, State.acct_modAcct, if_neg (Ne.symm hq)]
      rw [State.acct_congr (State.pushUp_kept _ _).2.2.2.2.2.1, State.acct_congr (State.setReserved_accounts _ _), hva,
        if_neg (Ne.symm hq)]
    · have hrep : (v.setReserved s.reserved).acct p = (s.acct p).charged tokens newHolds := by
        rw [State.acct_congr (State.setReserved_accounts _ _), hva, if_pos rfl]
      simp only [State.countPoolGrant, State.queueReport, State.modAcct_kept]
      simp [State.pushUp, hu, hrs, hrep, Account.charged, hs]
    · intro h
      rw [← hv, if_pos (by simp [Account.overdraftInUse, Account.charged]; omega)]
      simp [State.countPoolGrant, State.queueReport, State.eventPending]
      have hp := fun (u : State) => State.eventPending_raise u .poolOverdraft .poolOverdraft
      simp only [State.eventPending] at hp
      simpa using hp _
    · intro h
      rw [← hv, if_neg (by simp [Account.overdraftInUse, Account.charged]; omega)]
      simp [State.countPoolGrant, State.queueReport]
  · simp only [hs, decide_false, Bool.false_eq_true, if_false]
    have hk := key s rfl rfl rfl
      (decide ((s.acct p).overdraftInUse = 0 ∧ 0 < ((s.acct p).charged tokens newHolds).overdraftInUse))
    simp only [decide_eq_true_eq] at hk
    rw [hk]
    generalize hv : (if (s.acct p).overdraftInUse = 0 ∧ 0 < ((s.acct p).charged tokens newHolds).overdraftInUse then
      (s.setAcct p ((s.acct p).charged tokens newHolds)).raise .poolOverdraft
      else s.setAcct p ((s.acct p).charged tokens newHolds)) = v
    have hva : ∀ q, v.acct q = if p = q then (s.acct p).charged tokens newHolds else s.acct q := by
      intro q; rw [← hv]; split
      · rw [State.acct_congr (State.raise_kept _ _).2.2.2.2.2.1]; simp
      · simp
    have hvu : ∃ notices, (∀ x ∈ notices, UpEntry.isNotice x = true) ∧ v.svc.upstream = s.svc.upstream ++ notices := by
      rw [← hv]; split
      · obtain ⟨n, hn, hu⟩ := State.raise_upstream (s.setAcct p ((s.acct p).charged tokens newHolds)) .poolOverdraft
        exact ⟨n, hn, by rw [hu]; simp⟩
      · exact ⟨[], by simp⟩
    obtain ⟨n, hn, hu⟩ := hvu
    refine ⟨?_, ?_, ⟨n, hn, ?_⟩, ?_, ?_⟩
    · simp only [State.countPoolGrant, State.acct_modAcct, if_true, hva]
      simp [Account.charged, hs]
    · intro q hq
      simp only [State.countPoolGrant, State.acct_modAcct, if_neg (Ne.symm hq), hva]
    · simp [State.countPoolGrant, hu, hs]
    · intro h
      rw [← hv, if_pos (by simp [Account.overdraftInUse, Account.charged]; omega)]
      simp [State.countPoolGrant, State.eventPending]
      have hp := fun (u : State) => State.eventPending_raise u .poolOverdraft .poolOverdraft
      simp only [State.eventPending] at hp
      simpa using hp _
    · intro h
      rw [← hv, if_neg (by simp [Account.overdraftInUse, Account.charged]; omega)]
      simp [State.countPoolGrant]

/-! ### Farm messages -/

/-- The Farm Port once the message at its head has been taken (R170, R174). -/
theorem State.takeMessage_farm (f : Frame) :
    s.takeMessage .farm f = s.setFarm (s.takeMessage .farm f).farm ∧ (s.takeMessage .farm f).farm.intake = s.farm.intake.tail ∧
      (s.takeMessage .farm f).farm.stats = { s.farm.stats with seatMessages := bump s.farm.stats.seatMessages } ∧
      (s.takeMessage .farm f).farm.bridge = s.farm.bridge ∧ (s.takeMessage .farm f).farm.sending = s.farm.sending ∧
      (s.takeMessage .farm f).farm.replies = s.farm.replies := by
  simp only [State.takeMessage, State.takeSeat, State.popIntake, State.countPort, State.pauseRelease, State.duePause]
  split <;> refine ⟨?_, ?_, ?_, ?_, ?_, ?_⟩ <;> rfl

/-- A reply that joins or misses the Farm Reply Queue of a state whose Farm Port stands as the taking of a message left it (R45,
R177). -/
theorem State.toFarm_answers (s : State) (f : Frame) (u : State) (a : Addrs) (k : Key) (b : FarmBody)
    (hf : u.farm = (s.takeMessage .farm f).farm) (hp : u.mgmt.params = s.mgmt.params) :
    TakenFromFarm s (u.toFarm a k b) ∧ Answers s (u.toFarm a k b) a k b := by
  obtain ⟨_, h1, h2, h3, h4, h5⟩ := State.takeMessage_farm s f
  simp only [State.toFarm, State.offerFarm, State.setMgmt_farm, hf, h5]
  split
  · rename_i h
    simp [TakenFromFarm, Answers, State.answerEth, h, h1, h2, h3, h4, hp]
  · rename_i h
    simp [TakenFromFarm, Answers, h, h1, h2, h3, h4]

/-- A reply leaves everything but the Farm Port and the engine's counters alone (R45, R192). -/
theorem State.toFarm_only (u : State) (a : Addrs) (k : Key) (b : FarmBody) :
    u.toFarm a k b =
      { u with farm := (u.toFarm a k b).farm, mgmt := { u.mgmt with stats := u.mgmt.stats.countReply b } } := by
  simp only [State.toFarm, State.offerFarm]
  split <;> rfl

/-- A message that is taken and answered, and nothing else (R45). -/
theorem State.answered_only (f : Frame) (a : Addrs) (k : Key) (b : FarmBody) :
    AnsweredOnly s ((s.takeMessage .farm f).toFarm a k b) a k b := by
  obtain ⟨h1, h2⟩ := State.toFarm_answers s f (s.takeMessage .farm f) a k b rfl (by rw [(State.takeMessage_farm s f).1]; rfl)
  refine ⟨h1, h2, ?_, ?_⟩
  · rw [OnlyFarmPort, State.toFarm_only]
    have := (State.takeMessage_farm s f).1
    generalize (s.takeMessage .farm f).farm = x at *
    rw [this]; rfl
  · rw [State.toFarm_only, (State.takeMessage_farm s f).1]; rfl

/-! ### Management requests -/

/-- What a request finds once it has been taken with room for its reply (R184; log 16). -/
def State.managed (s : State) (f : Frame) : State := ((s.tookRequest f).setReserved 1).setDeferred (some [])

theorem State.takeMessage_service (f : Frame) : s.takeMessage .service f = s.tookRequest f := by
  simp [State.takeMessage, State.takeSeat, State.popIntake, State.countPort, State.tookRequest, ServicePort.took, State.setSvc]

theorem State.manage_of_room {s : State} {f : Frame} {k : Key} {r : MgmtRequest} (h : Manages s f k r) (act : State → State) :
    s.manage f act = act (s.managed f) := by
  obtain ⟨_, ⟨h0, _⟩, hl⟩ := h
  have hm : (s.takeMessage .service f).mgmtRoom = true := by
    rw [State.takeMessage_service]; simp [State.mgmtRoom, State.tookRequest, ServicePort.took, h0, hl]
  rw [State.takeMessage_service] at hm
  simp [State.manage, hm, State.takeMessage_service, State.managed]

/-- A request that raised nothing is answered, and that is all (R184). -/
theorem State.answerMgmt_clean {s : State} (k : Key) (r : MgmtReply) (h : s.deferred = some []) :
    s.answerMgmt k r = ((s.setReserved 0).setDeferred none).pushUp (UpEntry.reply s.ownEth k r) := by
  simp [State.answerMgmt, h]

theorem State.offerAll_upstream (l : List UpEntry) (t : State) :
    t.svc.upstream <+: (l.foldl (fun t e => t.offerUp e) t).svc.upstream := by
  induction l generalizing t with
  | nil => exact List.prefix_refl _
  | cons a l ih =>
    rw [List.foldl_cons]
    refine List.IsPrefix.trans ?_ (ih (t.offerUp a))
    simp only [State.offerUp]
    split
    · simp [State.pushUp]
    · simp [State.dropUp]

theorem State.offerAll_only (l : List UpEntry) (t : State) :
    (l.foldl (fun t e => t.offerUp e) t) =
      { t with
        svc :=
          { t.svc with
            upstream := (l.foldl (fun t e => t.offerUp e) t).svc.upstream,
            stats :=
              { t.svc.stats with
                droppedReplies := (l.foldl (fun t e => t.offerUp e) t).svc.stats.droppedReplies } } } := by
  induction l generalizing t with
  | nil => rfl
  | cons a l ih =>
    rw [List.foldl_cons, ih]
    simp only [State.offerUp]
    split <;> rfl

/-- A reply after whatever a request did, where that left the Service Port as the taking of the request left it: the reply stands
behind what waited, notices may follow it, and no place is kept any more (R184). -/
theorem State.answerMgmt_answered (s u : State) (f : Frame) (k : Key) (r : MgmtReply) (hu : u.svc = s.svc.took f [])
    (hp : u.mgmt.params = s.mgmt.params) :
    Answered s (u.answerMgmt k r) f k r ∧
      u.answerMgmt k r = { u with svc := (u.answerMgmt k r).svc, reserved := 0, deferred := none } := by
  simp only [State.answerMgmt]
  generalize hw : (((u.setReserved 0).setDeferred none).pushUp (UpEntry.reply u.ownEth k r)) = w
  have hwu : w.svc.upstream = s.svc.upstream ++ [replyTo f s.mgmt.params.seatType k r] := by
    rw [← hw]; simp [State.pushUp, State.ownEth, hu, hp, ServicePort.took, replyTo, addrsOf]
  have hwi : w.svc.intake = s.svc.intake.tail ∧ w.svc.peer = addrsOf f := by
    rw [← hw]; simp [hu, ServicePort.took]
  have hwk : w = { u with svc := w.svc, reserved := 0, deferred := none } := by rw [← hw]; rfl
  refine ⟨⟨?_, ?_, ?_, ?_⟩, ?_⟩
  · rw [← hwu]; exact State.offerAll_upstream _ w
  · rw [State.offerAll_only]; exact hwi.1
  · rw [State.offerAll_only]; exact hwi.2
  · rw [State.offerAll_only, hwk]; exact ⟨rfl, rfl⟩
  · rw [State.offerAll_only, hwk]

/-- A request that did nothing before its reply leaves only its reply (R184). -/
theorem State.managed_answer {s : State} {f : Frame} {k : Key} {q : MgmtRequest} (h : Manages s f k q) (r : MgmtReply) :
    (s.managed f).answerMgmt k r = onlyAnswered s f k r := by
  obtain ⟨_, ⟨h0, hd⟩, _⟩ := h
  rw [State.answerMgmt_clean k r (by rfl)]
  cases s
  simp_all [State.managed, State.tookRequest, onlyAnswered, State.pushUp, ServicePort.took, replyTo, State.ownEth, addrsOf,
    State.setSvc, State.setReserved, State.setDeferred]

/-! ### Invariants read off the listed accounts -/

theorem State.acct_of_unlisted {s : State} {p : Nat} (h : ∀ e ∈ s.accounts, e.1 ≠ p) : s.acct p = Account.cleared := by
  simp only [State.acct, Table.getD]
  cases hg : Table.get? s.accounts p with
  | none => rfl
  | some a => exact absurd rfl (h (p, a) (Table.get?_mem hg))

theorem State.acct_of_listed {s : State} (hr : Table.Rising s.accounts) {e : Nat × Account} (h : e ∈ s.accounts) :
    s.acct e.1 = e.2 := by simp [State.acct, Table.getD, Table.get?_of_mem hr h]

/-- The overcommit flags are exact where those of the listed accounts are (R31). -/
theorem overcommitExact_of_listed {s : State} (hr : Table.Rising s.accounts)
    (h : ∀ e ∈ s.accounts, e.2.overcommit = decide (s.effectiveCeiling e.1 < e.2.h)) : OvercommitExact s := by
  intro p
  by_cases hp : ∃ e ∈ s.accounts, e.1 = p
  · obtain ⟨e, he, rfl⟩ := hp
    rw [State.acct_of_listed hr he, h e he]
  · have hc := State.acct_of_unlisted (s := s) (p := p) (fun e he hq => hp ⟨e, he, hq⟩)
    simp [hc, State.effectiveCeiling, Account.cleared]

/-- The queues are counted where those of the listed accounts are and every entry's pool is listed (R81). -/
theorem queuesCounted_of_listed {s : State} (hr : Table.Rising s.accounts) (hk : KeysUnique s)
    (hl : s.queues.entries.length ≤ Config.waitPlaces) (h : ∀ e ∈ s.accounts, e.2.queueLength = (s.poolQueue e.1).length)
    (hp : ∀ e ∈ s.queues.entries, ∃ a ∈ s.accounts, a.1 = e.pool) : QueuesCounted s := by
  refine ⟨hk, hl, fun p => ?_⟩
  by_cases hq : ∃ e ∈ s.accounts, e.1 = p
  · obtain ⟨e, he, rfl⟩ := hq
    rw [State.acct_of_listed hr he, h e he]
  · have hc := State.acct_of_unlisted (s := s) (p := p) (fun e he hn => hq ⟨e, he, hn⟩)
    have : s.poolQueue p = [] := by
      rw [State.poolQueue, List.filter_eq_nil_iff]
      intro e he hn
      obtain ⟨a, ha, hap⟩ := hp e he
      exact hq ⟨a, ha, by rw [hap]; simpa using hn⟩
    simp [hc, this, Account.cleared]

/-- The tokens are counted where those of the listed accounts are and every hold's pool is listed (R22). -/
theorem tokensHeld_of_listed {s : State} (hr : Table.Rising s.accounts) (hs : SlotsListed s)
    (h : ∀ e ∈ s.accounts, e.2.h = ((s.holdsOf e.1).map (fun x => x.2.tokens)).sum ∧ e.2.holdCount = (s.holdsOf e.1).length)
    (hp : ∀ e ∈ s.holds.slots, ∃ a ∈ s.accounts, a.1 = e.2.pool) : TokensHeld s := by
  refine ⟨hs, fun p => ?_⟩
  by_cases hq : ∃ e ∈ s.accounts, e.1 = p
  · obtain ⟨e, he, rfl⟩ := hq
    rw [State.acct_of_listed hr he]; exact h e he
  · have hc := State.acct_of_unlisted (s := s) (p := p) (fun e he hn => hq ⟨e, he, hn⟩)
    have : s.holdsOf p = [] := by
      rw [State.holdsOf, List.filter_eq_nil_iff]
      intro e he hn
      obtain ⟨a, ha, hap⟩ := hp e he
      exact hq ⟨a, ha, by rw [hap]; simpa using hn⟩
    simp [hc, this, Account.cleared]

/-- The peaks cover where those of the listed accounts do (R30). -/
theorem peakCovers_of_listed {s : State} (hr : Table.Rising s.accounts) (h : ∀ e ∈ s.accounts, e.2.h - e.2.d ≤ e.2.peak) :
    PeakCovers s := by
  intro p
  by_cases hq : ∃ e ∈ s.accounts, e.1 = p
  · obtain ⟨e, he, rfl⟩ := hq
    rw [State.acct_of_listed hr he]; exact h e he
  · rw [State.acct_of_unlisted (s := s) (p := p) (fun e he hn => hq ⟨e, he, hn⟩)]; simp [Account.cleared]

/-! ### The vocabulary of the statements -/

/-- A counter raised `k` times, one at a time (R36, R192). -/
theorem bump_iterate (k n : Nat) (h : n ≤ Config.maxCount) : Nat.repeat bump k n = counted n k := by
  induction k with
  | zero => simp only [Nat.repeat, counted]; omega
  | succ k ih => simp only [Nat.repeat, ih, counted, bump]; split <;> omega

/-- The pools that the queue store lists are the pools with a waiting queue, in pool-number order (R43). -/
theorem State.poolOrder_waitingPools (s : State) : PoolOrder s s.waitingPools := by
  refine ⟨rising_foldl_insertNat _ _ List.Pairwise.nil, fun p => ?_⟩
  rw [State.mem_waitingPools, State.poolQueue, Ne, List.filter_eq_nil_iff]
  simp

theorem PoolOrder.eq_waitingPools {s : State} {pools : List Nat} (h : PoolOrder s pools) : pools = s.waitingPools :=
  eq_of_rising_of_mem h.1 s.poolOrder_waitingPools.1 (fun p => by rw [h.2, s.poolOrder_waitingPools.2])

/-- The entries pool by pool, in queue order (R43, R166). -/
theorem PoolOrder.entries {s : State} {pools : List Nat} (h : PoolOrder s pools) : pools.flatMap s.poolQueue = s.entriesByPool := by
  rw [State.entriesByPool, h.eq_waitingPools]

/-- The counts of the link are those that its state holds (R140). -/
theorem linkCounts_of {s : State}
    (h : (match s.link.state with
      | .arming _ n => n == 1 || n == 2
      | .suspect n => n == 1 || n == 2
      | _ => true) = true) : LinkCounts s := by
  refine ⟨fun o n ho => ?_, fun n hn => ?_⟩ <;> simp_all

/-- The banks are listed where the records of each are (R1). -/
theorem banksListed_of {s : State} (hs : Table.Rising s.banks.shadow.records)
    (ha : Table.Rising ((s.banks.active.map (fun b => b.records)).getD [])) : BanksListed s :=
  ⟨hs, fun b hb => by simpa [hb] using ha⟩

/-- A notice counts nothing at the Management Port (R190). -/
@[simp] theorem State.stats_raise (s : State) (e : Event) : (s.raise e).mgmt.stats = s.mgmt.stats := by
  exact congrArg (fun t => t.mgmt.stats) (State.raise_only s e)

/-- A return of tokens counts nothing there. -/
@[simp] theorem State.stats_credit (s : State) (p : Nat) (c : ChangeKind) (h : Hold) (x : Handle) :
    (s.credit p c h x).mgmt.stats = s.mgmt.stats := by
  simp only [State.credit, State.reportRelease, State.queueReport, State.setGap, State.reevaluate]
  (repeat' split) <;> simp [State.pushUp]

/-- Nor does a removal: a reclaim is counted beside it (R61). -/
@[simp] theorem State.stats_removeHold (s : State) (n : Nat) (h : Hold) (c : ChangeKind) :
    (s.removeHold n h c).mgmt.stats = s.mgmt.stats := by
  simp only [State.removeHold, State.slotFreed]; split <;> simp

/-- No answer leaves the Farm Port as it was. -/
theorem answersAll_nil {s t : State} (hr : t.farm.replies = s.farm.replies)
    (hd : t.farm.stats.droppedReplies = s.farm.stats.droppedReplies) : AnswersAll s t [] := by
  intro hl
  refine ⟨by simp [hr, List.take_of_length_le hl], ?_⟩
  rw [hd, counted, List.length_nil]
  omega

/-- One answer and then the others (R45, R177). -/
theorem AnswersAll.cons {s u t : State} {e : WaitEntry} {b : FarmBody} {rest : List (WaitEntry × FarmBody)}
    (h : Answers s u e.addrs e.key b) (ht : u.mgmt.params.seatType = s.mgmt.params.seatType) (hr : AnswersAll u t rest) :
    AnswersAll s t ((e, b) :: rest) := by
  intro hl
  obtain ⟨h1, h2⟩ := h
  by_cases hlt : s.farm.replies.length < Config.farmReplies
  · rw [if_pos hlt] at h1 h2
    obtain ⟨h3, h4⟩ := hr (by rw [h1, List.length_append]; exact hlt)
    rw [h3, h4, h1, h2, ht]
    refine ⟨by simp, ?_⟩
    rw [List.length_append, List.length_singleton, List.length_cons, Nat.add_assoc, Nat.add_comm 1]
  · rw [if_neg hlt] at h1 h2
    have he : s.farm.replies.length = Config.farmReplies := by omega
    obtain ⟨h3, h4⟩ := hr (by rw [h1]; exact hl)
    rw [h3, h4, h1, h2, ht]
    refine ⟨by simp [he], ?_⟩
    simp only [he, counted, bump, List.length_cons]
    split <;> omega
/-- The overcommit flags stay exact through a removal (R31). -/
theorem OvercommitExact.removed {u v : State} {slot : Nat} {h : Hold} (hx : OvercommitExact u) (hr : Removed u v slot h)
    (hb : v.banks = u.banks) (hl : v.link = u.link) : OvercommitExact v := by
  obtain ⟨-, -, -, ⟨_, _, ha, -⟩, ho, -⟩ := hr
  intro p
  by_cases hp : p = h.pool
  · subst hp
    rw [State.effectiveCeiling_moved hb (by rw [hl]) h.pool (by rw [ha]) (by rw [ha]), ha]
  · rw [State.effectiveCeiling_congr hb (by rw [hl]) p (by rw [ho p hp]) (by rw [ho p hp]), ho p hp]
    exact hx p

/-- The processing of overdue holds (R75). -/
theorem State.endHolds_ended (hs : List (Nat × Hold)) {s : State} (hx : OvercommitExact s) (hn : ∀ e ∈ hs, e.2.state ≠ .active) :
    HoldsEnded hs s (s.endHolds hs) := by
  induction hs generalizing s with
  | nil => rfl
  | cons e rest ih =>
    have hr := State.removeHold_removed s e.1 e.2 (if e.2.state = .stale then .reclaim else .lingerEnd) (hx _)
    have hp := State.removeHold_reports s e.1 e.2 (if e.2.state = .stale then .reclaim else .lingerEnd) (hx _)
    have he := hn e (List.mem_cons_self ..)
    have hk : Removed s (s.endHold e.1 e.2) e.1 e.2 ∧
        ReportsRemoval s (s.endHold e.1 e.2) e.1 e.2 (if e.2.state = .stale then .reclaim else .lingerEnd) := by
      cases hc : e.2.state <;> simp_all [State.endHold]
      constructor
      · simpa [Removed, State.reclaim, OtherSlots, OtherAccounts, State.acct, State.generation] using hr
      · simpa [ReportsRemoval, State.reclaim, State.acct, State.eventPending] using hp
    refine ⟨s.endHold e.1 e.2, hk.1, hk.2, ?_, by simp, by simp, by simp, by simp, by simp, by simp, by simp, ?_⟩
    · cases hc : e.2.state <;> simp_all [State.endHold, State.reclaim]
    · exact ih (hx.removed hk.1 (by simp) (by simp)) (fun x h => hn x (List.mem_cons_of_mem _ h))

/-- An entry that leaves the store takes one from the queue length of its pool (R82). -/
@[simp] theorem State.acct_unlink (s : State) (e : WaitEntry) (p : Nat) :
    (s.unlink e).acct p = if p = e.pool then { s.acct p with queueLength := (s.acct p).queueLength - 1 } else s.acct p := by
  simp only [State.unlink, State.acct_modAcct]
  by_cases h : p = e.pool
  · subst h; simp [State.acct]
  · rw [if_neg (Ne.symm h), if_neg h]; rfl

/-- A reply toward the farm raises no event (R45). -/
@[simp] theorem State.events_toFarm (s : State) (a : Addrs) (k : Key) (b : FarmBody) : (s.toFarm a k b).mgmt.events = s.mgmt.events := by
  simp only [State.toFarm, State.offerFarm]; split <;> simp

/-- A charge that fits, made by the upgrade of the hold in a slot, in the hold's pool (R22, R51, R108). -/
theorem State.upgradeHold_charged {s : State} (slot : Nat) (h : Hold) (tokens interval : Nat)
    (hx : (s.acct h.pool).overcommit = decide (s.effectiveCeiling h.pool < (s.acct h.pool).h))
    (hf : s.fits h.pool (tokens - h.tokens) = true) :
    ChargedBy s (s.upgradeHold slot h tokens interval) (s.acct h.pool) h.pool (tokens - h.tokens) 0 .upgrade h (s.handleAt slot) :=
  State.charge_charged (s := s.putHold slot (h.joined tokens interval (s.renewDeadline interval))) h.pool (tokens - h.tokens) 0 .upgrade
    (h.joined tokens interval (s.renewDeadline interval)) (s.handleAt slot) hx (of_decide_eq_true hf)

/-- What an upgrade granted by a pass does to the accounts, the Upstream Queue and the events (R87). -/
theorem State.upgradeEntry_charged {s : State} (e : WaitEntry) (slot : Nat) (h : Hold) (tokens : Nat)
    (hx : (s.acct h.pool).overcommit = decide (s.effectiveCeiling h.pool < (s.acct h.pool).h))
    (hf : s.fits h.pool (tokens - h.tokens) = true) :
    ∃ w, ChargedBy s w (s.acct h.pool) h.pool (tokens - h.tokens) 0 .upgrade h (s.handleAt slot) ∧
      (s.upgradeEntry e slot h tokens).svc.upstream = w.svc.upstream ∧
      (s.upgradeEntry e slot h tokens).mgmt.events = w.mgmt.events ∧
      ∀ p, (s.upgradeEntry e slot h tokens).acct p =
        if p = e.pool then { w.acct p with queueLength := (w.acct p).queueLength - 1 } else w.acct p := by
  refine ⟨_, State.upgradeHold_charged slot h tokens (s.entryInterval e) hx hf, ?_, ?_, fun p => ?_⟩
  · simp [State.upgradeEntry, State.unlink]
  · simp [State.upgradeEntry, State.unlink]
  · rw [State.upgradeEntry, State.acct_congr (State.toFarm_kept _ _ _ _).2.2.2.2.2.1, State.acct_unlink]

/-- What a plain join granted by a pass does to the accounts (R36, R87). -/
theorem State.joinEntry_acct {s : State} (e : WaitEntry) (slot : Nat) (h : Hold) (p : Nat) :
    (s.joinEntry e slot h).acct p =
      { s.acct p with
        queueLength := if p = e.pool then (s.acct p).queueLength - 1 else (s.acct p).queueLength,
        grantsThis := if p = h.pool then bump (s.acct p).grantsThis else (s.acct p).grantsThis } := by
  rw [State.joinEntry, State.acct_congr (State.toFarm_kept _ _ _ _).2.2.2.2.2.1, State.acct_unlink, State.joinHold, State.countPoolGrant,
    State.acct_modAcct]
  by_cases hh : p = h.pool
  · subst hh; split <;> simp [State.acct, State.putHold]
  · rw [if_neg (Ne.symm hh), if_neg hh]; split <;> simp [State.acct, State.putHold]

end Sys2Proof.Machine
end

