-- ==== Sys2Proof/Tests/Slice0.lean ====
section
/-! SUPPORT. The tests: the smoke test of WellFormed, for each statement with hypotheses a concrete state that meets them
(witness_…), and for the commands one step each on a small state (test_…). -/

set_option Elab.async false

namespace Sys2Proof.Tests

open Sys2Proof Sys2Proof.Machine Host

/-! ### Helpers -/

/-- The request key of every message below. -/
def key : Key := { node := 5, process := 6, tag := 7 }

/-- A seat message with a right check and a right frame check sequence. -/
def seat (kind : Nat) (body : List Byte) : Frame := mkFrame 2 1 0x88B5 (seatMessage kind 7 5 6 0 body false)

/-- A frame that is no seat frame. -/
def foreign : Frame := { dst := 2, src := 1, etype := 0x0800, payload := [], fcs := 0 }

/-- A pause frame of `quanta`. -/
def pauseOf (quanta : Nat) : Frame := { dst := 2, src := 1, etype := 0x8808, payload := beBytes 2 1 ++ beBytes 2 quanta, fcs := 0 }

/-- A frame with a wrong frame check sequence. -/
def broken (f : Frame) : Frame := { f with fcs := f.fcs + 1 }

/-- A seat frame around any header and body, with a right frame check sequence. -/
def rawSeat (payload : List Byte) : Frame := mkFrame 2 1 0x88B5 payload

/-- A PROBE that fails the message check. -/
def badProbe : Frame := mkFrame 2 1 0x88B5 (seatMessage 0x40 7 5 6 0 (beBytes 4 9 ++ beBytes 6 0) true)

/-- A PROBE. -/
def probeFrame (sequence mark : Nat) : Frame := seat 0x40 (beBytes 4 sequence ++ beBytes 6 mark)

/-- The frame at the head of the Farm intake queue, alone. -/
def atFarm (f : Frame) (s : State) : State := s.setFarm { s.farm with intake := [f] }

/-- The frame at the head of the Service intake queue, alone. -/
def atSvc (f : Frame) (s : State) : State := s.setSvc { s.svc with intake := [f] }

/-- The record of pool 17. -/
def rec17 : PoolRecord :=
  { feature := 4410, versionFloor := 2300, versionCeiling := 2499, tokensPerSeat := 5, coreStep := 16, coreCap := 4, overdraft := 50,
    groupMask := 0xFFFFFFFF, sharing := .perProcess, renewMin := 60, renewMax := 600, grace := 60, linger := 0, queueLimit := 8,
    maxWait := 600, policy := .fifo, protectAge := 0, startDay := 0, endDay := 65535 }

/-- A bank that holds pool 17 alone. -/
def bankOf (r : PoolRecord) : Bank := { records := [(17, r)], ranges := [] }

/-- The account of pool 17: D, H and hold count, and the rest cleared. -/
def acctOf (state : DelegationState) (d h holds : Nat) : Account := { Account.cleared with state, d, h, holdCount := holds, reported := h }

/-- An engine in SERVING with pool 17 alone. -/
def base (r : PoolRecord) (a : Account) : State :=
  { State.reset with
    mode := .serving, banks := { active := some (bankOf r), shadow := Bank.blank, index := (bankOf r).index, pendingSwitch := none },
    accounts := [(17, a)] }

/-- A CHECKOUT of one seat and eight cores of feature 4410. -/
def ask (seats wait : Nat) (flags : Byte) : CheckoutBody :=
  { feature := 4410, flags, version := 2400, seats, cores := 8, waitLimit := wait, interval := 60 }

/-- Its bytes. -/
def askBytes (b : CheckoutBody) : List Byte :=
  beBytes 3 b.feature ++ [b.flags] ++ beBytes 2 b.version ++ beBytes 2 b.seats ++ beBytes 2 b.cores ++ beBytes 2 b.waitLimit ++
    beBytes 2 b.interval

/-- The CHECKOUT as a request. -/
def reqOf (b : CheckoutBody) : CheckoutRequest := { frame := seat 0x01 (askBytes b), key, body := b }

/-- A hold of pool 17. -/
def holdOf (tokens uses : Nat) (state : HoldState) (deadline : Nat) : Hold :=
  { pool := 17, node := 5, process := 6, tokens, useCount := uses, state, interval := 60, deadline, granted := 0, tag := 3 }

/-- The state with this hold alone, in slot 0. -/
def withHold (h : Hold) (s : State) : State := s.setHolds { slots := [(0, h)], gens := [] }

/-- The handle of slot 0. -/
def slot0 : Handle := { service := false, gen := 0, slot := 0 }

/-- A wait entry of pool 17. -/
def waitOf (k : Key) (demand enqueued deadline : Nat) : WaitEntry :=
  { key := k, pool := 17, seats := 1, cores := 8, demand, target := none, version := 2400, interval := 60, flags := 0, enqueued, deadline,
    addrs := { src := 1, dst := 2 }, stepPassed := false }

/-- A forward. -/
def forwardOf (k : Key) (deadline : Nat) : Forward :=
  { key := k, kind := .checkin, feature := 0, deadline, addrs := { src := 1, dst := 2 } }

/-- The state with these wait entries, counted in pool 17's account. -/
def withQueue (es : List WaitEntry) (s : State) : State :=
  (s.setQueues { s.queues with entries := es }).modAcct 17 (fun a => { a with queueLength := es.length })

/-- The state with this many notices in the Upstream Queue. -/
def noticesUp (n : Nat) (s : State) : State :=
  s.setSvc { s.svc with upstream := List.replicate n (UpEntry.event { dst := 0, src := 0, etype := 0 } 0 .restarted 0) }

/-- The state with this many entries of seat traffic in the Upstream Queue. -/
def trafficUp (n : Nat) (s : State) : State := s.setSvc { s.svc with upstream := List.replicate n (UpEntry.forward foreign) }

/-- A REPORT entry. -/
def report : UpEntry :=
  UpEntry.report { dst := 1, src := 2, etype := 0x88B5 } key { pool := 17, change := .release, gap := false, handle := slot0, delta := -5, resultingH := 0 }

/-- The state with the link in a state. -/
def linkIn (l : LinkState) (s : State) : State := s.setLink { s.link with state := l, windowExpiry := some 0 }

/-- The state after one command. -/
def run (c : Instr) (s : State) : State :=
  match exec c s with
  | .next t => t
  | .fault _ => s
  | .refused _ => s

/-- A table with this many holds of another pool. -/
def crowded (n : Nat) (s : State) : State :=
  s.setHolds { slots := List.replicate n (1, { holdOf 1 1 .active 0 with pool := 9 }), gens := [] }

theorem crowded_joinTarget (n : Nat) (s : State) (node process : Word) : (crowded n s).joinTarget 17 node process = none := by
  simp [State.joinTarget, State.holdsOf, crowded, State.setHolds]

theorem crowded_full (n : Nat) (s : State) (h : 16384 ≤ n) : (crowded n s).tableFull = true := by
  simp [State.tableFull, State.occupied, crowded, State.setHolds, Config.holdSlots, h]

/-- A table in which every slot is taken. -/
def fullTable (s : State) : State := crowded 16384 s

/-- An engine in SERVING with pool 17 SOLE at D = 200, H = 0. -/
def open17 : State := base rec17 (acctOf .sole 200 0 0)

/-- The same, SHARED. -/
def shared17 : State := base rec17 (acctOf .shared 200 0 0)

/-- Pool 17 SOLE at D = 200 with the hold `h`, its tokens charged. -/
def held17 (h : Hold) : State := withHold h (base rec17 (acctOf .sole 200 h.tokens 1))

/-- A request key that is not `key`. -/
def other : Key := { node := 5, process := 6, tag := 8 }

/-- The OvercommitExact of a state whose accounts are few. -/
theorem exact_of (s : State) (hr : List.Pairwise (fun (a b : Nat × Account) => a.1 < b.1) s.accounts)
    (h : ∀ e ∈ s.accounts, e.2.overcommit = decide (s.effectiveCeiling e.1 < e.2.h)) : OvercommitExact s := overcommitExact_of_listed hr h

/-- The QueuesCounted of a state whose accounts are few. -/
theorem counted_of (s : State) (hr : List.Pairwise (fun (a b : Nat × Account) => a.1 < b.1) s.accounts)
    (hk : ((s.queues.entries.map (fun e => e.key)) ++ (s.fwd.entries.map (fun e => e.key))).Nodup)
    (hl : s.queues.entries.length ≤ 2048) (h : ∀ e ∈ s.accounts, e.2.queueLength = (s.poolQueue e.1).length)
    (hp : ∀ e ∈ s.queues.entries, ∃ a ∈ s.accounts, a.1 = e.pool) : QueuesCounted s := queuesCounted_of_listed hr hk hl h hp

/-- The hypothesis of the statements about a management request, checked by evaluation. -/
theorem manages_of {s : State} {f : Frame} {k : Key} {r : MgmtRequest}
    (h : s.headRequest = some (f, k, r) ∧ (s.reserved = 0 ∧ s.deferred = none) ∧ s.svc.upstream.length < 1024) : Manages s f k r := h

/-- The pools with a waiting queue, read off the queue store. -/
theorem pools_of {s : State} {pools : List Nat} (h : s.waitingPools = pools) : PoolOrder s pools := h ▸ s.poolOrder_waitingPools

/-! ### WellFormed and decodeTableWord -/

/-- A pass on a pool number beyond 1023 is refused (R1). -/
theorem test_pool_number_checked : (Instr.queueServicePass 1024).wellFormed = false ∧ (Instr.queueServicePass 1023).wellFormed = true := by
  decide

/-- A pause frame at the Service Port is not FRAME_RECEIVE (R170, R175). -/
theorem test_pause_frame_checked :
    (Instr.frameReceive .service (pauseOf 9)).wellFormed = false ∧ (Instr.frameReceive .farm (pauseOf 9)).wellFormed = true ∧
      (Instr.frameReceive .service foreign).wellFormed = true := by decide

/-- No word spells a command. -/
theorem test_no_word_decodes : decodeTableWord 8 1 = none ∧ decodeTableWord 0 0 = none := by decide

/-! ### The wire -/

/-- The frame check sequence of the nine digits is the well-known one (R172; log 8). -/
theorem test_crc32_of_the_digits : crc32 [0x31, 0x32, 0x33, 0x34, 0x35, 0x36, 0x37, 0x38, 0x39] = 0xCBF43926 := by decide +kernel

/-- End-around carry, and an odd last byte (R182). -/
theorem test_message_check : onesSum 0 [0xFF, 0xFF, 0, 2] = 2 ∧ onesSum 0 [1, 2, 3] = 0x0402 := by decide

/-- A GRANT, byte by byte (R180, R181). -/
theorem test_grant_frame :
    let payload := (FarmEntry.reply { dst := 1, src := 2, etype := 0x88B5 } key (.grant { service := false, gen := 1, slot := 2 } 20 60 60000)).frame.payload
    payload.take 16 = [1, 0x81, 0, 16, 0, 0, 0, 7, 0, 0, 0, 5, 0, 0, 0, 6] ∧
      (payload.drop 18).take 18 = [0, 0, 0, 1, 0, 2, 0, 0, 0, 20, 0, 60, 0, 0, 0, 0, 0xEA, 0x60] := by decide +kernel

/-- A REPORT of a release of five tokens, byte by byte (R107, R181). -/
theorem test_report_body :
    ReportBody.bytes { pool := 17, change := .release, gap := true, handle := { service := false, gen := 3, slot := 9 }, delta := -5, resultingH := 300 } =
      [0, 17, 3, 1, 0, 3, 0, 9, 0xFF, 0xFF, 0xFF, 0xFB, 0, 0, 1, 0x2C] := by decide +kernel

/-- The lengths that R181 states: ECHO, CENSUS summary, LIST_HOLDS entry, full TRANSFER. -/
theorem test_body_lengths :
    let hold : TransferHold := { handle := slot0, node := 0, process := 0, tokens := 0, useCount := 0, state := .active, left := 0 }
    (EchoBody.bytes { sequence := 0, mark := 0, solicited := true, digest := State.reset.digest }).length = 52 ∧
      (State.reset.summary 0).bytes.length = 17 ∧ ((held17 (holdOf 5 1 .active 9)).holdLine (0, holdOf 5 1 .active 9)).bytes.length = 34 ∧
      (TransferBody.bytes { pool := 0, number := 1, count := 1, holds := List.replicate 40 hold }).length = 968 := by decide +kernel

/-! ### The step and the invariants -/

/-- An idle engine in which all the invariants hold: a hold, a wait entry, a forward, a loaded bank, and a CHECKIN to take. -/
def busy : State :=
  atFarm (seat 0x02 [0, 0, 0, 0, 0])
    ((withQueue [waitOf other 500 0 90000] (held17 (holdOf 20 1 .active 60000))).setFwd { entries := [forwardOf { key with tag := 9 } 500], late := [] })

/-- The clock runs to the next millisecond from reset, and stops before it where a probe window ends. -/
theorem witness_ClockRunsOnEmptyQueue :
    (State.reset.pending = [] ∧ State.reset.dueCommand = none) ∧
      (let s := State.reset.setLink { State.reset.link with state := .up, windowExpiry := some 5 }
       s.pending = [] ∧ s.dueCommand = none ∧ s.tick.clk = 5 ∧ 5 < s.nextMs) ∧
      State.reset.tick.clk = State.reset.nextMs ∧ State.reset.tick.time.now = 1 := by decide +kernel

/-- The millisecond in which the day changes, and with it the epoch, the time source set; and one at the top of engine time. -/
theorem witness_ClockRunsOnEmptyQueue_owed :
    (let s := State.reset.setTime { State.reset.time with now := 86399999, source := .tracking }
     s.pending = [] ∧ s.dueCommand = none ∧ s.tick.clk = s.nextMs ∧ s.time.now < 2 ^ 48 - 1 ∧
       s.tick.time = { now := 86400000, source := .tracking, epochOwed := 1, dayOwed := [{ old := some 0, new := 1 }] } ∧
       s.boundariesOwed 86400000 = 1 ∧ s.daysOwed 86400000 = [{ old := some 0, new := 1 }]) ∧
      (let s := State.reset.setTime { State.reset.time with now := 281474976710655 }
       s.pending = [] ∧ s.dueCommand = none ∧ s.tick.clk = s.nextMs ∧ 2 ^ 48 - 1 ≤ s.time.now ∧ s.tick.time = s.time) := by
  decide +kernel

theorem witness_invariants_listed :
    AccountsListed busy ∧ RoomKept busy ∧ IndexFollows busy ∧ UsesCounted busy ∧ PauseFollows busy ∧ IntakeKept busy := by
  unfold AccountsListed RoomKept Quiet IndexFollows UsesCounted PauseFollows IntakeKept Table.Rising
  decide +kernel

theorem witness_invariants_link_and_banks :
    LinkCounts busy ∧ LinkCounts (linkIn (.arming .lost 2) busy) ∧ LinkCounts (linkIn (.suspect 1) busy) ∧ BanksListed busy := by
  refine ⟨linkCounts_of ?_, linkCounts_of ?_, linkCounts_of ?_, banksListed_of ?_ ?_⟩ <;> (try unfold Table.Rising) <;> decide +kernel

theorem witness_invariants_counted : PeakCovers busy ∧ OvercommitExact busy ∧ TokensHeld busy ∧ QueuesCounted busy := by
  refine ⟨peakCovers_of_listed ?_ ?_, exact_of _ ?_ ?_, tokensHeld_of_listed ?_ ?_ ?_ ?_, counted_of _ ?_ ?_ ?_ ?_ ?_⟩ <;>
    (try unfold SlotsListed) <;> (try unfold Table.Rising) <;> decide +kernel

/-- From that state a step moves. -/
theorem witness_invariants_step :
    (match step (busy.setPending [.checkin]) with
      | .next t => decide (t ≠ busy)
      | .fault _ => false
      | .refused _ => false) = true := by decide +kernel

theorem witness_EngineTimeNeverDecreases :
    restarts .probe = false ∧ (run .probe (atSvc (probeFrame 1 500) State.reset)).time.now = 500 := by decide +kernel

theorem witness_NoTokensMoveInReconciliation :
    AccountsListed (busy.setMode .entering) ∧ restarts .checkin = false ∧ Instr.checkin ≠ .resume ∧
      run .checkin (busy.setMode .entering) ≠ busy.setMode .entering := by
  unfold AccountsListed Table.Rising
  decide +kernel

/-! ### Frames -/

/-- A frame for each clause, at its boundary. -/
theorem witness_SeatFrameChecksInOrder :
    classify .farm 0x88B5 foreign = .bridge ∧ classify .farm 0x88B5 (broken (seat 0x01 [])) = .badFcs ∧
      classify .farm 0x88B5 (rawSeat ([1, 1, 0, 27] ++ List.replicate 42 0)) = .badLength ∧
      classify .service 0x88B5 badProbe = .badProbe ∧ classify .farm 0x88B5 badProbe = .badCheck ∧
      classify .farm 0x88B5 (probeFrame 1 1) = .wrongPort ∧ classify .service 0x88B5 (seat 0x05 []) = .wrongPort ∧
      classify .farm 0x88B5 (seat 0x06 []) = .protocolError key ∧
      classify .farm 0x88B5 (seat 0x01 (List.replicate 13 0)) = .protocolError key := by decide +kernel

/-- A frame that passes every check, its body one byte longer than its kind needs at the least. -/
theorem witness_SeatFrameChecksInOrder_passes :
    let f := seat 0x05 [0, 0, 9, 0, 0, 7, 1]
    f.etype = 0x88B5 ∧ f.fcsGood = true ∧ lengthGood f = true ∧ checkGood f = true ∧ wrongPort .farm (kindGroup (kindOf f)) = false ∧
      field f.payload 0 1 = 1 ∧ kindGroup (kindOf f) ≠ .unknown ∧ bodyNeeds (kindOf f) + 1 = (bodyOf f).length ∧
      classify .farm 0x88B5 f = .message key (.query 9 7) ∧ commandOfKind .farm (kindOf f) = some .query := by decide +kernel

theorem witness_OwnFramesPassTheirChecks :
    (255 < 256 ∧ 65535 < 65536 ∧ (List.replicate 1024 (0 : Byte)).length ≤ 1024) ∧
      checkGood (ownFrame { dst := 1, src := 2, etype := 0x88B5 } key 255 65535 [1] false) = true ∧
      checkGood (ownFrame { dst := 1, src := 2, etype := 0x88B5 } key 255 65535 [1] true) = false := by decide +kernel

theorem witness_RebuiltCheckoutReadsBack :
    let b : CheckoutBody := { feature := 16777215, flags := 1, version := 65535, seats := 65535, cores := 65535, waitLimit := 65535, interval := 65535 }
    (b.feature < 2 ^ 24 ∧ b.version < 65536 ∧ b.seats < 65536 ∧ b.cores < 65536 ∧ b.waitLimit < 65536 ∧ b.interval < 65536) ∧
      classify .farm 0x88B5 (UpEntry.rebuilt { dst := 1, src := 2, etype := 0x88B5 } key b).frame = .message key (.checkout b) := by
  decide +kernel

/-! ### Ports -/

/-- The Farm intake queue with this many frames. -/
def farmFull (n : Nat) (paused : Bool) : State :=
  State.reset.setFarm { State.reset.farm with intake := List.replicate n foreign, paused, refreshAt := if paused then some 100 else none }

theorem witness_FrameReceiveQueuesOrOverruns :
    (State.reset.setResetLow true).resetLow = true ∧ State.reset.resetLow = false ∧ foreign.isPause = false ∧ (pauseOf 0).isPause = true ∧
      (pauseOf 65535).isPause = true ∧ ((farmFull 511 true).intake .farm).length < intakeCapacity .farm ∧
      intakeCapacity .farm ≤ ((farmFull 512 true).intake .farm).length ∧
      (List.replicate 255 foreign).length < intakeCapacity .service ∧ intakeCapacity .service ≤ (List.replicate 256 foreign).length ∧
      (run (.frameReceive .farm foreign) ((farmFull 512 true).setMgmt { State.reset.mgmt with notify := 0xFFFF })).svc.upstream.length = 1 := by
  decide +kernel

theorem witness_FarmPauseControlCloses_receive :
    (farmFull 447 false).farm.paused = false ∧ (farmFull 447 false).farm.intake.length = 447 ∧ (farmFull 446 false).farm.intake.length < 447 ∧
      (farmFull 447 false).resetLow = false ∧ (run (.frameReceive .farm foreign) (farmFull 447 false)).farm.paused = true ∧
      (run (.frameReceive .farm foreign) (farmFull 446 false)).farm.paused = false := by decide +kernel

theorem witness_FarmPauseControlCloses_refresh :
    (farmFull 448 true).farm.paused = true ∧ (farmFull 448 true).farm.refreshAt = some 100 ∧ 100 ≤ ((farmFull 448 true).setClk 100).clk ∧
      ((farmFull 448 true).setClk 99).clk < 100 := by decide +kernel

theorem witness_FarmPauseControlCloses_open :
    (farmFull 257 true).head .farm = some (foreign, .bridge) ∧ (farmFull 257 true).svc.bridge = none ∧
      (farmFull 258 true).head .farm = some (foreign, .bridge) ∧ 257 < (farmFull 258 true).farm.intake.length ∧
      (run (.bridgeFramePass .farm) (farmFull 257 true)).farm.paused = false ∧
      (run (.bridgeFramePass .farm) (farmFull 258 true)).farm.paused = true := by decide +kernel

theorem witness_ServicePauseStopsTheTransmitter :
    let s := State.reset.setSvc { State.reset.svc with pauseEnd := some 8, bridge := some foreign }
    s.svc.pauseEnd = some 8 ∧ s.resetLow = false ∧ 8 ≤ (s.setClk 8).clk ∧ (s.setClk 7).clk < 8 ∧
      (run (.servicePauseFrame 1) State.reset).svc.pauseEnd = some 8 ∧ (run (.servicePauseFrame 0) s).svc.pauseEnd = none ∧
      (run (.frameTransmit .service) s).svc.sending = none := by decide +kernel

theorem witness_BridgeFramePasses :
    (atFarm foreign State.reset).head .farm = some (foreign, .bridge) ∧ (atFarm foreign State.reset).oppositeSlot .farm = none ∧
      (atSvc (seat 0xC4 []) State.reset).head .service = some (seat 0xC4 [], .message key .outbound) ∧
      (atSvc (seat 0xC4 []) (State.reset.setFarm { State.reset.farm with bridge := some foreign })).oppositeSlot .service = some foreign ∧
      (run (.bridgeFramePass .farm) (atFarm foreign State.reset)).svc.bridge = some foreign := by decide +kernel

theorem witness_FarmPortSendsInOrder :
    let e := FarmEntry.relay foreign
    let s := State.reset.setFarm { State.reset.farm with pauseDue := [0], replies := [e], bridge := some foreign }
    s.resetLow = false ∧ s.farm.pauseDue = 0 :: [] ∧ (s.setFarm { s.farm with pauseDue := [] }).farm.replies = e :: [] ∧
      (run (.frameTransmit .farm) s).farm.replies = [e] ∧
      (run (.frameTransmit .farm) (run (.frameTransmit .farm) (run (.frameTransmit .farm) s))).farm.bridge = none := by decide +kernel

/-- A Service Port with something in each of its three places. -/
def sends (e : UpEntry) : State :=
  (base rec17 (acctOf .shared 200 0 0)).setSvc { State.reset.svc with restartSlot := some report, upstream := [e], bridge := some foreign }

/-- The same without the restart reply slot, in ENTERING under `key`. -/
def lastReport : State :=
  (((sends report).setSvc { (sends report).svc with restartSlot := none }).setMode .entering).setRecon
    { State.reset.recon with originKey := some key, entryTime := some 0 }

theorem witness_ServicePortSendsInOrder :
    (sends report).resetLow = false ∧ (sends report).svc.pauseEnd = none ∧ (sends report).svc.restartSlot = some report ∧
      lastReport.svc.restartSlot = none ∧ lastReport.svc.upstream = report :: [] ∧ report.isReport = true ∧
      ((lastReport.modAcct 17 (fun a => { a with stalled := true })).acct 17).stalled = true ∧
      (State.reset.svc.restartSlot = none ∧ State.reset.svc.upstream = []) ∧
      (run (.frameTransmit .service) (sends report)).svc.restartSlot = none ∧
      (run (.frameTransmit .service) (sends report)).svc.upstream = [report] := by decide +kernel

theorem witness_LastReportBuildsTheImage :
    lastReport.resetLow = false ∧ lastReport.svc.pauseEnd = none ∧ (lastReport.reserved = 0 ∧ lastReport.deferred = none) ∧
      lastReport.svc.restartSlot = none ∧ lastReport.svc.upstream = report :: [] ∧ report.isReport = true ∧ lastReport.mode = .entering ∧
      lastReport.recon.originKey = some key ∧ lastReport.recon.entryTime = some 0 ∧
      (run (.frameTransmit .service) lastReport).mode = .reconciling ∧
      ((run (.frameTransmit .service) lastReport).recon.image.map (fun i => i.length)) = some 24 := by decide +kernel

theorem witness_LastReportBuildsTheImage_listed :
    AccountsListed lastReport ∧ ((run (.frameTransmit .service) lastReport).recon.image.map (fun i => (i.drop 16).map BitVec.toNat)) =
      some [17, 1, 200, 1, 0, 0, 0, 0] := by
  unfold AccountsListed Table.Rising
  decide +kernel

/-- Each class of fault at a head, at the port where it can stand. -/
theorem witness_FaultyFramesAreAnsweredOrDropped :
    (atFarm (seat 0x06 []) State.reset).head .farm = some (seat 0x06 [], .protocolError key) ∧
      (atSvc (seat 0x39 []) State.reset).head .service = some (seat 0x39 [], .protocolError key) ∧
      (State.reset.reserved = 0 ∧ State.reset.deferred = none) ∧
      (atSvc (broken (seat 0x05 [])) State.reset).head .service = some (broken (seat 0x05 []), .badFcs) ∧
      (atFarm badProbe State.reset).head .farm = some (badProbe, .badCheck) ∧
      (atFarm (rawSeat ([1, 1, 0, 27] ++ List.replicate 42 0)) State.reset).head .farm =
        some (rawSeat ([1, 1, 0, 27] ++ List.replicate 42 0), .badLength) ∧
      (atSvc (seat 0x05 []) State.reset).head .service = some (seat 0x05 [], .wrongPort) ∧
      (run (.protocolError .farm) (atFarm (seat 0x06 []) State.reset)).farm.replies =
        [FarmEntry.reply { dst := 1, src := 2, etype := 0x88B5 } key .protocolError] ∧
      (run (.seatFrameDrop .service) (atSvc (seat 0x05 []) State.reset)).svc.stats.framingErrors = 1 := by decide +kernel

/-- A faulty frame that leaves the Farm intake queue at occupancy 257, which opens the pause control, and at 258, which does not. -/
theorem witness_FaultyFramesAreAnsweredOrDropped_pause :
    let s (n : Nat) := (farmFull n true).setFarm { (farmFull n true).farm with intake := seat 0x06 [] :: List.replicate (n - 1) foreign }
    (s 257).head .farm = some (seat 0x06 [], .protocolError key) ∧ (s 257).farm.paused = true ∧ (s 257).farm.intake.length ≤ 257 ∧
      257 < (s 258).farm.intake.length ∧ (run (.protocolError .farm) (s 257)).farm.paused = false ∧
      (run (.protocolError .farm) (s 257)).farm.pauseDue = [0] ∧ (run (.protocolError .farm) (s 258)).farm.paused = true := by
  decide +kernel

/-- The addresses of what the engine originates stay as they were when a faulty frame is answered (R173). -/
theorem test_protocol_error_sets_no_addresses :
    (run (.protocolError .service) (atSvc (seat 0x39 []) State.reset)).svc.peer = { src := 0, dst := 0 } ∧
      (run (.protocolError .service) (atSvc (seat 0x39 []) State.reset)).svc.stats.seatMessages = 0 := by decide +kernel

/-! ### CHECKOUT -/

/-- The CHECKOUT of one seat, waiting up to 60 seconds. -/
def ask1 : CheckoutBody := ask 1 60 0

/-- A CHECKOUT at the head of the Farm intake queue. -/
def asking (b : CheckoutBody) (s : State) : State := atFarm (seat 0x01 (askBytes b)) s

/-- The CHECKOUT of `ask1` at the head. -/
def asks (s : State) : State := asking ask1 s

/-- The head of `asks` is that CHECKOUT. -/
theorem witness_checkout_head : (asks open17).headMessage .farm = some (seat 0x01 (askBytes ask1), key, .checkout ask1) := by decide +kernel

theorem witness_CheckoutIsRefusedInOrder_duplicate :
    let s := asks (withQueue [waitOf key 5 0 90000] open17)
    s.headMessage .farm = some (seat 0x01 (askBytes ask1), key, .checkout ask1) ∧ s.mode ≠ .unconfigured ∧ s.mode ≠ .faultHold ∧
      s.keyStands key = true ∧
      (run .checkout s).farm.replies =
        [FarmEntry.reply { dst := 1, src := 2, etype := 0x88B5 } key (.retry .duplicateTag 200)] := by decide +kernel

/-- A pool whose versions, groups or window shut the CHECKOUT out, one after the other. -/
theorem witness_CheckoutIsRefusedInOrder_denied :
    (let s := asks (base { rec17 with versionFloor := 2401 } (acctOf .sole 200 0 0))
     s.keyStands key = false ∧ s.candidates 4410 2400 5 = [] ∧ s.versionMatched 4410 2400 = []) ∧
      (let s := asks (base { rec17 with groupMask := 0 } (acctOf .sole 200 0 0))
       s.candidates 4410 2400 5 = [] ∧ s.versionMatched 4410 2400 ≠ [] ∧ s.eligible 4410 2400 5 = [] ∧
         (run .checkout s).farm.replies = [FarmEntry.reply { dst := 1, src := 2, etype := 0x88B5 } key (.deny .notEligible)]) ∧
      (let s := asks (base { rec17 with startDay := 1 } (acctOf .sole 200 0 0))
       s.candidates 4410 2400 5 = [] ∧ s.eligible 4410 2400 5 ≠ [] ∧
         (run .checkout s).farm.replies = [FarmEntry.reply { dst := 1, src := 2, etype := 0x88B5 } key (.deny .outOfWindow)]) := by
  decide +kernel

theorem witness_CheckoutIsRefusedInOrder_turned_away :
    (let s := asks (open17.setMode .entering)
     s.mode ≠ .unconfigured ∧ s.mode ≠ .faultHold ∧ s.keyStands key = false ∧ s.mode = .entering ∧ 17 ∈ s.candidates 4410 2400 5 ∧
       (s.acct 17).state ≠ .absent) ∧
      (let s := asks (open17.setLink { open17.link with autonomyPassed := true })
       s.mode = .serving ∧ s.keyStands key = false ∧ s.candidates 4410 2400 5 ≠ [] ∧ s.link.autonomyPassed = true ∧
         (run .checkout s).farm.replies =
           [FarmEntry.reply { dst := 1, src := 2, etype := 0x88B5 } key (.retry .autonomyExpired 200)]) := by decide +kernel

theorem witness_CheckoutIsRefusedInOrder_matching : IndexFollows open17 ∧ BanksListed open17 ∧ open17.versionMatched 4410 2499 = [17] := by
  refine ⟨rfl, banksListed_of ?_ ?_, ?_⟩ <;> (try unfold Table.Rising) <;> decide +kernel

/-- The hypotheses of the statements about the trial, for a state that `asks`. -/
theorem trial_of (s : State) (b : CheckoutBody)
    (h : s.headMessage .farm = some (seat 0x01 (askBytes b), key, .checkout b) ∧ s.keyStands key = false ∧
      (s.link.autonomyPassed = false ∨ s.mode = .entering ∨ s.mode = .reconciling))
    (hc : s.candidates 4410 b.version 5 = [17]) (hd : s.delegated 17 = true) (hb : b.feature = 4410) :
    s.TakesCheckout (reqOf b) ∧ s.TrialReaches (reqOf b) 17 := by
  refine ⟨h, [], [], ?_, by simp⟩
  rw [State.candidatesOf, show (reqOf b).body.feature = 4410 from hb, show (reqOf b).body.version = b.version from rfl,
    show (reqOf b).key.node = 5 from rfl, hc]
  simp [hd]

theorem witness_CheckoutGrantsANewHold :
    ((asks open17).TakesCheckout (reqOf ask1) ∧ (asks open17).TrialReaches (reqOf ask1) 17) ∧ OvercommitExact (asks open17) ∧
      (asks open17).mode = .serving ∧ (asks open17).joinTarget 17 5 6 = none ∧
      (asks open17).admits 17 ((asks open17).demandOf (reqOf ask1) 17) = true ∧ (asks open17).tableFull = false ∧
      (run .checkout (asks open17)).farm.replies =
        [FarmEntry.reply { dst := 1, src := 2, etype := 0x88B5 } key (.grant slot0 5 60 60000)] := by
  refine ⟨trial_of _ _ ?_ ?_ ?_ ?_, exact_of _ ?_ ?_, ?_⟩ <;> decide +kernel

theorem witness_CheckoutGrantsANewHold_slots :
    let s := held17 (holdOf 5 0 .lingering 60000)
    SlotsListed s ∧ s.tableFull = false ∧ s.lowestSlot = 1 ∧ s.joinTarget 17 5 6 = some (0, holdOf 5 0 .lingering 60000) ∧
      s.joinTarget 17 5 7 = none := by
  unfold SlotsListed Table.Rising
  decide +kernel

/-- A demand that fits exactly, in a SHARED pool with and without report room. -/
theorem witness_CheckoutGrantsANewHold_shared :
    (let s := trafficUp 991 (asks (base rec17 (acctOf .shared 200 205 1)))
     (s.TakesCheckout (reqOf ask1) ∧ s.TrialReaches (reqOf ask1) 17) ∧ s.admits 17 (s.demandOf (reqOf ask1) 17) = true ∧
       s.joinTarget 17 5 6 = none ∧ (s.acct 17).state = .shared ∧ s.seatRoom = true ∧ OvercommitExact s ∧ s.tableFull = false) ∧
      (let s := trafficUp 992 (asks shared17)
       (s.TakesCheckout (reqOf ask1) ∧ s.TrialReaches (reqOf ask1) 17) ∧ s.admits 17 (s.demandOf (reqOf ask1) 17) = true ∧
         s.joinTarget 17 5 6 = none ∧ (s.acct 17).state = .shared ∧ s.seatRoom = false ∧ OvercommitExact s ∧ s.tableFull = false) := by
  refine ⟨⟨trial_of _ _ ?_ ?_ ?_ ?_, ?_, ?_, ?_, ?_, exact_of _ ?_ ?_, ?_⟩, ⟨trial_of _ _ ?_ ?_ ?_ ?_, ?_, ?_, ?_, ?_, exact_of _ ?_ ?_, ?_⟩⟩ <;>
    decide +kernel

theorem witness_CheckoutGrantsANewHold_full :
    ((fullTable (asks open17)).TakesCheckout (reqOf ask1) ∧ (fullTable (asks open17)).TrialReaches (reqOf ask1) 17) ∧
      OvercommitExact (fullTable (asks open17)) ∧ (fullTable (asks open17)).mode = .serving ∧
      (fullTable (asks open17)).admits 17 ((fullTable (asks open17)).demandOf (reqOf ask1) 17) = true ∧
      (fullTable (asks open17)).joinTarget 17 5 6 = none ∧ (fullTable (asks open17)).tableFull = true := by
  refine ⟨trial_of _ _ ?_ ?_ ?_ ?_, exact_of _ ?_ ?_, by decide +kernel, by decide +kernel, ?_, ?_⟩
  rotate_right 2
  · exact crowded_joinTarget _ _ _ _
  · exact crowded_full _ _ (Nat.le_refl _)
  all_goals decide +kernel

/-- A PER_NODE pool whose hold is the join target. -/
def joins (h : Hold) (state : DelegationState) : State :=
  asks (withHold h (base { rec17 with sharing := .perNode } (acctOf state 200 h.tokens 1)))

theorem joins_takes (s : State) (slot : Nat) (h : Hold) (ht : s.TakesCheckout (reqOf ask1) ∧ s.TrialReaches (reqOf ask1) 17)
    (he : OvercommitExact s) (hm : s.mode = .serving ∨ s.mode = .draining) (hj : s.joinTarget 17 5 6 = some (slot, h)) :
    s.TakesCheckout (reqOf ask1) ∧ OvercommitExact s ∧ (s.mode = .serving ∨ s.mode = .draining) ∧ s.TrialReaches (reqOf ask1) 17 ∧
      s.joinTarget 17 (reqOf ask1).key.node (reqOf ask1).key.process = some (slot, h) := ⟨ht.1, he, hm, ht.2, hj⟩

/-- Use counts of 255 and 254, a demand equal to the hold's tokens and one above. -/
theorem witness_CheckoutJoinsOrUpgrades :
    (let h := holdOf 5 255 .active 60000
     let s := joins h .sole
     (s.TakesCheckout (reqOf ask1) ∧ OvercommitExact s ∧ (s.mode = .serving ∨ s.mode = .draining) ∧ s.TrialReaches (reqOf ask1) 17 ∧
       s.joinTarget 17 (reqOf ask1).key.node (reqOf ask1).key.process = some (0, h)) ∧ h.useCount = 255) ∧
    (let h := holdOf 5 254 .active 60000
     let s := joins h .sole
     (s.TakesCheckout (reqOf ask1) ∧ OvercommitExact s ∧ (s.mode = .serving ∨ s.mode = .draining) ∧ s.TrialReaches (reqOf ask1) 17 ∧
       s.joinTarget 17 (reqOf ask1).key.node (reqOf ask1).key.process = some (0, h)) ∧ h.useCount ≠ 255 ∧
       s.demandOf (reqOf ask1) 17 ≤ h.tokens ∧
       (run .checkout s).farm.replies = [FarmEntry.reply { dst := 1, src := 2, etype := 0x88B5 } key (.grant slot0 5 60 60000)] ∧
       (run .checkout s).holds.slots.map (fun e => e.2.useCount) = [255]) ∧
    (let h := holdOf 4 1 .stale 60000
     let s := joins h .shared
     (s.TakesCheckout (reqOf ask1) ∧ OvercommitExact s ∧ (s.mode = .serving ∨ s.mode = .draining) ∧ s.TrialReaches (reqOf ask1) 17 ∧
       s.joinTarget 17 (reqOf ask1).key.node (reqOf ask1).key.process = some (0, h)) ∧ h.tokens < s.demandOf (reqOf ask1) 17 ∧
       s.admits 17 (s.demandOf (reqOf ask1) 17 - h.tokens) = true ∧ s.seatRoom = true ∧ (trafficUp 992 s).seatRoom = false ∧
       (run .checkout s).holds.slots.map (fun e => (e.2.useCount, e.2.tokens)) = [(2, 5)] ∧ ((run .checkout s).acct 17).h = 5 ∧
       (run .checkout s).svc.upstream.length = 1) := by
  refine ⟨⟨joins_takes _ _ _ (trial_of _ _ ?_ ?_ ?_ ?_) (exact_of _ ?_ ?_) ?_ ?_, ?_⟩,
    ⟨joins_takes _ _ _ (trial_of _ _ ?_ ?_ ?_ ?_) (exact_of _ ?_ ?_) ?_ ?_, ?_⟩,
    ⟨joins_takes _ _ _ (trial_of _ _ ?_ ?_ ?_ ?_) (exact_of _ ?_ ?_) ?_ ?_, ?_⟩⟩ <;> decide +kernel

/-- Pool 17 with D = 40 and H = 40, so that a seat of 5 does not fit and a ceiling of 42 takes it. -/
def tight : State := base rec17 (acctOf .sole 40 40 1)

/-- A CHECKOUT that no candidate admits: too large at D = 4, no wait by its flag, by a wait limit of 0; queued at queue length 7 of 8
and turned away at 8; turned away by a full store. -/
theorem witness_CheckoutQueuesOrIsDenied :
    (let s := asks (base rec17 (acctOf .sole 4 0 0))
     (s.TakesCheckout (reqOf ask1) ∧ s.TrialReaches (reqOf ask1) 17) ∧ s.candidatesOf (reqOf ask1) = [17] ∧
       s.passesOver (reqOf ask1) 17 = true ∧ s.ceiling 17 < s.demandOf (reqOf ask1) 17) ∧
    (let b := ask 1 60 1
     let s := asking b tight
     (s.TakesCheckout (reqOf b) ∧ s.TrialReaches (reqOf b) 17) ∧ s.candidatesOf (reqOf b) = [17] ∧ s.passesOver (reqOf b) 17 = true ∧
       s.demandOf (reqOf b) 17 ≤ s.ceiling 17 ∧ b.flags.getLsbD 0 = true) ∧
    (let b := ask 1 0 0
     let s := asking b tight
     (s.TakesCheckout (reqOf b) ∧ s.TrialReaches (reqOf b) 17) ∧ s.passesOver (reqOf b) 17 = true ∧
       min (s.record 17).maxWait b.waitLimit = 0 ∧ b.flags.getLsbD 0 = false) ∧
    (let s := asks (tight.modAcct 17 (fun a => { a with queueLength := 7 }))
     (s.TakesCheckout (reqOf ask1) ∧ s.TrialReaches (reqOf ask1) 17) ∧ s.mode = .serving ∧ s.candidatesOf (reqOf ask1) = [] ++ 17 :: [] ∧
       s.passesOver (reqOf ask1) 17 = true ∧ (s.acct 17).state ≠ .absent ∧ s.queues.entries.length < 2048 ∧ s.queuesOn (reqOf ask1) 17 = true ∧
       (asks (tight.modAcct 17 (fun a => { a with queueLength := 8 }))).queuesOn (reqOf ask1) 17 = false ∧
       (run .checkout s).farm.replies = [FarmEntry.reply { dst := 1, src := 2, etype := 0x88B5 } key (.queued 8 5)]) ∧
    (let s := asks (tight.setQueues { tight.queues with entries := List.replicate 2048 (waitOf other 5 0 9) })
     s.keyStands key = false ∧ s.passesOver (reqOf ask1) 17 = true ∧ 2048 ≤ s.queues.entries.length) := by
  refine ⟨⟨trial_of _ _ ?_ ?_ ?_ ?_, ?_⟩, ⟨trial_of _ _ ?_ ?_ ?_ ?_, ?_⟩, ⟨trial_of _ _ ?_ ?_ ?_ ?_, ?_⟩,
    ⟨trial_of _ _ ?_ ?_ ?_ ?_, ?_⟩, ?_⟩ <;> decide +kernel

/-- The delta and the handle that are remembered in a PER_NODE pool with a join target, and the full demand without one. -/
theorem witness_CheckoutQueuesOrIsDenied_remembered :
    (let s := joins (holdOf 4 1 .active 60000) .sole
     (s.record 17).sharing = .perNode ∧ s.joinTarget 17 (reqOf ask1).key.node (reqOf ask1).key.process = some (0, holdOf 4 1 .active 60000) ∧
       s.rememberedDemand (reqOf ask1) 17 = (1, some slot0)) ∧
      (open17.record 17).sharing = .perProcess ∧ open17.rememberedDemand (reqOf ask1) 17 = (5, none) := by decide +kernel

/-! ### The other farm requests -/

/-- A CHECKIN, RENEW, CANCEL and QUERY at the head of the Farm intake queue. -/
def checkinOf (slot noLinger : Nat) : Frame := seat 0x02 (beBytes 4 slot ++ beBytes 1 noLinger)
def renewOf (slot : Nat) (interval : List Byte) : Frame := seat 0x03 (beBytes 4 slot ++ interval)
def cancelOf (tag : Nat) : Frame := seat 0x04 (beBytes 4 tag)
def queryOf (feature : Nat) : Frame := seat 0x05 (beBytes 3 feature ++ [0] ++ beBytes 2 2400)

/-- Pool 17 ABSENT. -/
def absent17 : State := base rec17 (acctOf .absent 0 0 0)

/-- Every form that goes upstream. -/
theorem witness_RequestsAreForwarded :
    (let s := asks absent17
     s.headMessage .farm = some (seat 0x01 (askBytes ask1), key, .checkout ask1) ∧ s.keyStands key = false ∧ s.link.autonomyPassed = false ∧
       s.candidatesOf (reqOf ask1) = [17] ∧ (s.acct 17).state = .absent ∧ s.mode = .serving ∧
       (run .checkout s).svc.upstream = [UpEntry.forward (seat 0x01 (askBytes ask1))]) ∧
    (let s := atFarm (checkinOf 9 0) open17
     s.headMessage .farm = some (checkinOf 9 0, key, .checkin { service := false, gen := 0, slot := 9 } false) ∧
       s.namedHold { service := false, gen := 0, slot := 9 } = none ∧
       (run .checkin s).svc.upstream = [UpEntry.forward (checkinOf 9 0)]) ∧
    (let s := atFarm (renewOf 16383 []) open17
     s.headMessage .farm = some (renewOf 16383 [], key, .renew { service := false, gen := 0, slot := 16383 } none) ∧
       s.namedHold { service := false, gen := 0, slot := 16383 } = none ∧ (run .renew s).fwd.entries.length = 1) ∧
    (let s := (atFarm (cancelOf 8) open17).setFwd { entries := [forwardOf other 500], late := [] }
     s.headMessage .farm = some (cancelOf 8, key, .cancel 8) ∧ (∀ e ∈ s.queues.entries, e.key ≠ { key with tag := 8 }) ∧
       s.fwd.entries.any (fun e => e.key = { key with tag := 8 }) = true ∧ (run .cancel s).fwd.entries.length = 2) ∧
    (let s := atFarm (queryOf 4410) absent17
     s.headMessage .farm = some (queryOf 4410, key, .query 4410 2400) ∧ s.candidates 4410 2400 5 = [17] ∧ (s.acct 17).state = .absent ∧
       (run .query s).fwd.entries.length = 1) := by decide +kernel

/-- Each outcome of a forwarding: LOST, a standing key, no place, no room, and the last place of each. -/
theorem witness_RequestsAreForwarded_outcomes :
    (linkIn .lost (asks absent17)).link.state = .lost ∧
      (List.replicate 256 (forwardOf other 0)).length = 256 ∧ (List.replicate 255 (forwardOf other 0)).length < 256 ∧
      (trafficUp 992 (asks absent17)).seatRoom = false ∧ (trafficUp 991 (asks absent17)).seatRoom = true ∧
      (noticesUp 1024 (asks absent17)).seatRoom = false ∧ (noticesUp 1023 (asks absent17)).seatRoom = true ∧
      (run .checkout (linkIn .lost (asks absent17))).farm.replies =
        [FarmEntry.reply { dst := 1, src := 2, etype := 0x88B5 } key .unreachable] := by decide +kernel

/-- A CHECKIN of the hold in slot 0. -/
def checksIn (r : PoolRecord) (h : Hold) (noLinger : Nat) : State :=
  atFarm (checkinOf 0 noLinger) (withHold h (base r (acctOf .sole 200 h.tokens 1)))

/-- Every clause: use counts 2 and 1, with and without linger, a hold that lingers already, a foreign process. -/
theorem witness_CheckinAndRenewServeTheHold :
    (let s := checksIn rec17 (holdOf 5 2 .active 60000) 0
     s.headMessage .farm = some (checkinOf 0 0, key, .checkin slot0 false) ∧ s.namedHold slot0 = some (holdOf 5 2 .active 60000) ∧
       s.mode = .serving ∧ s.matches (holdOf 5 2 .active 60000) key = true ∧ 1 < (holdOf 5 2 .active 60000).useCount ∧
       (run .checkin s).holds.slots.map (fun e => e.2.useCount) = [1]) ∧
    (let s := checksIn { rec17 with linger := 1 } (holdOf 5 1 .stale 60000) 0
     s.namedHold slot0 = some (holdOf 5 1 .stale 60000) ∧ 0 < (s.record 17).linger ∧
       (run .checkin s).holds.slots.map (fun e => (e.2.state, e.2.deadline)) = [(.lingering, 1000)]) ∧
    (let s := checksIn { rec17 with linger := 1 } (holdOf 5 1 .active 60000) 1
     s.headMessage .farm = some (checkinOf 0 1, key, .checkin slot0 true) ∧
       (run .checkin s).holds = { slots := [], gens := [(0, 1)] } ∧ ((run .checkin s).acct 17).h = 0) ∧
    (let s := checksIn rec17 (holdOf 5 0 .lingering 60000) 0
     s.namedHold slot0 = some (holdOf 5 0 .lingering 60000) ∧
       (run .checkin s).farm.replies = [FarmEntry.reply { dst := 1, src := 2, etype := 0x88B5 } key .unknownHold]) ∧
    (let h := { holdOf 5 1 .active 60000 with process := 7 }
     (checksIn rec17 h 0).namedHold slot0 = some h ∧ (checksIn rec17 h 0).matches h key = false) := by decide +kernel

theorem witness_CheckinAndRenewServeTheHold_exact :
    OvercommitExact (checksIn rec17 (holdOf 5 1 .active 60000) 0) ∧
      OvercommitExact ((checksIn rec17 (holdOf 5 1 .active 60000) 0).setMode .entering) := by
  refine ⟨exact_of _ ?_ ?_, exact_of _ ?_ ?_⟩ <;> decide +kernel

/-- A RENEW with no interval, with 0, and with one above the longest. -/
theorem witness_RenewServesTheHold :
    (let s := atFarm (renewOf 0 []) (held17 (holdOf 5 1 .stale 60000))
     s.headMessage .farm = some (renewOf 0 [], key, .renew slot0 none) ∧ s.namedHold slot0 = some (holdOf 5 1 .stale 60000) ∧
       s.matches (holdOf 5 1 .stale 60000) key = true ∧
       (run .renew s).holds.slots.map (fun e => (e.2.state, e.2.interval)) = [(.active, 60)]) ∧
    (let s := atFarm (renewOf 0 [0, 0]) (held17 (holdOf 5 1 .active 60000))
     s.headMessage .farm = some (renewOf 0 [0, 0], key, .renew slot0 (some 0)) ∧ s.namedHold slot0 = some (holdOf 5 1 .active 60000)) ∧
    (let s := atFarm (renewOf 0 [255, 255]) (held17 (holdOf 5 1 .active 60000))
     s.headMessage .farm = some (renewOf 0 [255, 255], key, .renew slot0 (some 65535)) ∧
       (run .renew s).holds.slots.map (fun e => (e.2.interval, e.2.deadline)) = [(600, 600000)]) := by decide +kernel

theorem witness_CancelAndQueryAnswer :
    (let s := atFarm (cancelOf 8) (withQueue [waitOf other 5 0 90000] open17)
     s.headMessage .farm = some (cancelOf 8, key, .cancel 8) ∧ s.waiting? { key with tag := 8 } = some (waitOf other 5 0 90000) ∧
       s.isHead (waitOf other 5 0 90000) = true ∧ (run .cancel s).queues.marks = [17] ∧
       (run .cancel s).farm.replies = [FarmEntry.reply { dst := 1, src := 2, etype := 0x88B5 } key (.cancelled 8)]) ∧
    (let s := atFarm (cancelOf 8) (withQueue [waitOf { other with tag := 9 } 5 0 90000, waitOf other 5 0 90000] open17)
     s.waiting? { key with tag := 8 } = some (waitOf other 5 0 90000) ∧ s.isHead (waitOf other 5 0 90000) = false ∧
       ((run .cancel s).acct 17).queueLength = 1) ∧
    (let s := atFarm (cancelOf 8) open17
     s.headMessage .farm = some (cancelOf 8, key, .cancel 8) ∧ s.keyStands { key with tag := 8 } = false) ∧
    (let s := atFarm (queryOf 4410) open17
     s.headMessage .farm = some (queryOf 4410, key, .query 4410 2400) ∧
       (s.candidates 4410 2400 5).find? (fun q => (s.acct q).state ≠ .absent) = some 17 ∧
       (run .query s).farm.replies = [FarmEntry.reply { dst := 1, src := 2, etype := 0x88B5 } key (.poolStatus 17 210 0 .sole)]) := by
  decide +kernel

/-- Each farm request kind, and a farm reply kind, in UNCONFIGURED, with the slot free and full. -/
theorem witness_FarmKindsAreBridged :
    (atFarm (seat 0x01 (askBytes ask1)) State.reset).headMessage .farm = some (seat 0x01 (askBytes ask1), key, .checkout ask1) ∧
      (Message.checkout ask1).command .farm = .checkout ∧ (Message.checkin slot0 true).command .farm = .checkin ∧
      (Message.renew slot0 none).command .farm = .renew ∧ (Message.cancel 0).command .farm = .cancel ∧
      (Message.query 0 0).command .farm = .query ∧ State.reset.mode = .unconfigured ∧ State.reset.svc.bridge = none ∧
      (State.reset.setSvc { State.reset.svc with bridge := some foreign }).svc.bridge ≠ none ∧
      (atSvc (seat 0x8E []) State.reset).headMessage .service = some (seat 0x8E [], key, .farmReply) ∧ State.reset.farm.bridge = none ∧
      (run .query (atFarm (queryOf 1) (State.reset.setMode .faultHold))).svc.bridge = some (queryOf 1) ∧
      (run .serviceReplyRelay (atSvc (seat 0x8E []) State.reset)).farm.bridge = some (seat 0x8E []) := by decide +kernel

/-- A relayed reply with its forward, with a late key alone, and at a Farm Reply Queue of 1023 and of 1024. -/
theorem witness_ServiceReplyIsRelayed :
    (let s := (atSvc (seat 0x81 []) open17).setFwd { entries := [forwardOf key 500], late := [] }
     s.headMessage .service = some (seat 0x81 [], key, .farmReply) ∧ s.mode ≠ .unconfigured ∧ s.mode ≠ .faultHold ∧
       (run .serviceReplyRelay s).farm.replies = [FarmEntry.relay (seat 0x81 [])] ∧ (run .serviceReplyRelay s).fwd.entries = []) ∧
    (let s := (atSvc (seat 0x81 []) open17).setFwd { entries := [], late := [key] }
     (∀ e ∈ s.fwd.entries, e.key ≠ key) ∧ key ∈ s.fwd.late ∧ (run .serviceReplyRelay s).mgmt.stats.lateReplies = 1) ∧
    (List.replicate 1023 (FarmEntry.relay foreign)).length < 1024 ∧ ¬(List.replicate 1024 (FarmEntry.relay foreign)).length < 1024 := by
  decide +kernel

/-- A pool in each delegation state, and the figures of R27 and R28 at D = 200 and an overdraft of 50. -/
theorem witness_FiguresFollowTheirRules :
    absent17.effectiveCeiling 17 = 0 ∧ open17.effectiveCeiling 17 = 210 ∧ shared17.effectiveCeiling 17 = 210 ∧
      (linkIn .lost shared17).effectiveCeiling 17 = 200 ∧ open17.allowance 17 = 10 ∧
      demand rec17 (clampSeats 20) (clampCores 17) = 160 ∧ demand rec17 (clampSeats 0) (clampCores 0) = 5 ∧
      (base rec17 (acctOf .soleChanged 200 211 1)).free 17 = 0 := by decide +kernel

/-! ### The service link and the time marks -/

/-- A good PROBE of mark 0 at the head. -/
def probed (l : LinkState) (s : State) : State := atSvc (probeFrame 9 0) (linkIn l s)

/-- A good PROBE in every link state, and the queue with the last place free and full. -/
theorem witness_GoodProbeMovesTheLinkAndIsEchoed :
    (probed .down open17).head .service = some (probeFrame 9 0, .message key (.probe 9 0)) ∧
      (run .probe (probed .down open17)).link.state = .arming .down 1 ∧
      (run .probe (probed (.arming .down 2) open17)).link.state = .up ∧ (run .probe (probed (.suspect 2) open17)).link.state = .up ∧
      (run .probe (probed .lost open17)).link.state = .arming .lost 1 ∧
      (probed .up (noticesUp 1023 open17)).svc.upstream.length + 0 + 0 < 1024 ∧
      1024 ≤ (probed .up (noticesUp 1024 open17)).svc.upstream.length := by decide +kernel

theorem witness_GoodProbeMovesTheLinkAndIsEchoed_counts :
    LinkCounts (probed .down open17) ∧ LinkCounts (probed (.arming .lost 1) shared17) ∧ LinkCounts (probed (.arming .down 2) open17) ∧
      LinkCounts (probed (.suspect 2) open17) ∧ LinkCounts (probed .lost open17) ∧ LinkCounts (probed .up (noticesUp 1024 open17)) := by
  refine ⟨linkCounts_of ?_, linkCounts_of ?_, linkCounts_of ?_, linkCounts_of ?_, linkCounts_of ?_, linkCounts_of ?_⟩ <;> decide +kernel

/-- The time source states, and marks at the step limit and beyond it. -/
theorem witness_TimeMarksAreTaken :
    (let s := (atSvc (probeFrame 9 86400000) State.reset)
     s.head .service = some (probeFrame 9 86400000, .message key (.probe 9 86400000)) ∧ s.time.source = .unset ∧ s.time.now ≤ 86400000 ∧
       (run .probe s).time.source = .tracking ∧ (run .probe s).time.dayOwed = [{ old := none, new := 1 }]) ∧
    (let s := (atSvc (probeFrame 9 4) State.reset).setTime { State.reset.time with now := 5 }
     s.head .service = some (probeFrame 9 4, .message key (.probe 9 4)) ∧ 4 < s.time.now) ∧
    (let s := (atSvc (probeFrame 9 6000) (linkIn .up State.reset)).setTime { State.reset.time with now := 5000, source := .holdover }
     6000 ≤ s.time.now + s.mgmt.params.stepLimit ∧ s.time.now ≤ 6000 + s.mgmt.params.stepLimit ∧ (run .probe s).time.now = 6000 ∧
       (run .probe s).time.source = .tracking) ∧
    (let s := (atSvc (probeFrame 9 6001) (linkIn .up State.reset)).setTime { State.reset.time with now := 5000, source := .holdover }
     s.time.now + s.mgmt.params.stepLimit < 6001 ∧ (run .probe s).time = s.time) ∧
    (let s := (atSvc (probeFrame 9 3999) (linkIn .up State.reset)).setTime { State.reset.time with now := 5000, source := .tracking }
     3999 + s.mgmt.params.stepLimit < s.time.now ∧ (run .probe s).time = s.time) := by decide +kernel

/-- A step across a day and an epoch; and a rebase of the entry time and of image words 1 and 2. -/
theorem witness_TimeMarksAreTaken_owed :
    (let s := (atSvc (probeFrame 9 86400000) (linkIn .up State.reset)).setTime { State.reset.time with now := 86399500, source := .tracking }
     s.head .service = some (probeFrame 9 86400000, .message key (.probe 9 86400000)) ∧
       (run .probe s).time = { now := 86400000, source := .tracking, epochOwed := 1, dayOwed := [{ old := some 0, new := 1 }] }) ∧
    (let s := (atSvc (probeFrame 9 4294967301) shared17).setRecon
        { State.reset.recon with originKey := some key, entryTime := some 0, image := some shared17.builtImage }
     s.head .service = some (probeFrame 9 4294967301, .message key (.probe 9 4294967301)) ∧ 3 ≤ shared17.builtImage.length ∧
       (run .probe s).recon.entryTime = some 4294967301 ∧
       (run .probe s).recon.image.map (fun i => (imageWord i 1, imageWord i 2)) = some (1, 5)) := by decide +kernel

/-- A window that has run out, and a bad PROBE. -/
theorem failure_window (l : LinkState) (s : State) : (linkIn l s).FailureTaken .windowExpiry := ⟨0, rfl, Nat.zero_le _⟩

theorem failure_probe (s : State) (h : s.head .service = some (badProbe, .badProbe)) : s.FailureTaken .probe := ⟨badProbe, h⟩

theorem witness_FailureMovesTheLink :
    (linkIn .down open17).FailureTaken .windowExpiry ∧ (atSvc badProbe (linkIn .up open17)).FailureTaken .probe ∧
      (run .windowExpiry (linkIn .down open17)).link.windowExpiry = none ∧
      (run .windowExpiry (linkIn (.arming .down 1) open17)).link.state = .down ∧
      (run .windowExpiry (linkIn (.arming .lost 2) open17)).link.state = .lost ∧
      (run .probe (atSvc badProbe (linkIn .up open17))).link.state = .suspect 1 ∧
      (run .windowExpiry (linkIn (.suspect 1) open17)).link.state = .suspect 2 ∧
      (linkIn .lost open17).svc.upstream.length + (linkIn .lost open17).reserved < 1024 ∧
      (run .windowExpiry (linkIn .lost open17)).svc.upstream.length = 1 := by
  refine ⟨failure_window _ _, failure_probe _ ?_, ?_⟩ <;> decide +kernel

/-- The link about to be lost, with a forward and a SHARED pool above its D. -/
def losing : State :=
  (linkIn (.suspect 2) (base rec17 (acctOf .shared 200 201 1))).setFwd { entries := [forwardOf key 500], late := [] }

theorem witness_EntryIntoLostIsTaken :
    losing.FailureTaken .windowExpiry ∧ AccountsListed losing ∧ OvercommitExact losing ∧
      losing.farm.replies.length ≤ 1024 ∧ losing.link.state = .suspect 2 ∧ (linkIn (.arming .lost 1) losing).link.state = .arming .lost 1 ∧
      (run .windowExpiry losing).farm.replies = [FarmEntry.reply { dst := 1, src := 2, etype := 0x88B5 } key .unreachable] ∧
      ((run .windowExpiry losing).acct 17).overcommit = true ∧ (run .windowExpiry losing).link.autonomyStart = some 0 := by
  refine ⟨⟨0, rfl, Nat.zero_le _⟩, ?_, exact_of _ ?_ ?_, ?_⟩ <;> (try unfold AccountsListed Table.Rising) <;> decide +kernel

/-- An entry into LOST by a window expiry with room for its ECHO and without, by a bad PROBE, and with an autonomy limit of 0. -/
theorem witness_EntryIntoLostIsTaken_echo :
    (run .windowExpiry losing).svc.upstream.length = 1 ∧ (run .windowExpiry (noticesUp 1023 losing)).svc.upstream.length = 1024 ∧
      1024 ≤ (noticesUp 1024 losing).svc.upstream.length ∧
      (run .windowExpiry (noticesUp 1024 losing)).svc.stats.droppedReplies = 1 ∧
      (atSvc badProbe losing).FailureTaken .probe ∧ (run .probe (atSvc badProbe losing)).svc.upstream = [] ∧
      (run .windowExpiry
        (losing.setMgmt { losing.mgmt with params := { Params.default with autonomyLimit := 0 } })).link.autonomyPassed = true := by
  refine ⟨?_, ?_, ?_, ?_, failure_probe _ ?_, ?_⟩ <;> decide +kernel

theorem witness_LinkIsRegained :
    AccountsListed (probed .lost shared17) ∧
      (probed .lost shared17).head .service = some (probeFrame 9 0, .message key (.probe 9 0)) ∧
      (probed (.arming .lost 2) shared17).head .service = some (probeFrame 9 0, .message key (.probe 9 0)) ∧
      (probed .lost shared17).link.state = .lost ∧ ((probed .lost shared17).acct 17).d < (probed .lost shared17).ceiling 17 ∧
      (run .probe (probed .lost shared17)).queues.marks = [17] ∧
      ((run .probe (probed (.arming .lost 2) shared17)).acct 17).gap = true := by
  unfold AccountsListed Table.Rising
  decide +kernel

/-- The autonomy clock one millisecond short of 14400 seconds, at them, and once passed. -/
theorem witness_AutonomyLimitIsTakenOnce :
    let s := State.reset.setLink { State.reset.link with state := .lost, autonomyStart := some 0 }
    s.link.autonomyStart = some 0 ∧ s.mgmt.params.autonomyLimit * 1000 ≤ ((s.setClk 2250000000000).clk - 0) / 156250 ∧
      ((s.setClk 2249999999999).clk - 0) / 156250 < s.mgmt.params.autonomyLimit * 1000 ∧ s.link.autonomyPassed = false ∧
      (run .autonomyLimitReached (s.setClk 2250000000000)).link.autonomyPassed = true := by decide +kernel

/-! ### Deadlines, passes, boundaries and day changes -/

/-- The hold in slot 0 with its deadline reached, at engine time 1000. -/
def reached (r : PoolRecord) (h : Hold) : State :=
  (withHold h (base r (acctOf .sole 200 h.tokens 1))).setTime { State.reset.time with now := 1000 }

theorem witness_HoldDeadlinesAreTaken :
    (let s := reached rec17 (holdOf 5 1 .active 1000)
     s.nextDeadline = some (0, holdOf 5 1 .active 1000) ∧ (s.record 17).grace ≠ 0 ∧ OvercommitExact s ∧
       (run .renewDeadlineExpiry s).holds.slots.map (fun e => (e.2.state, e.2.deadline)) = [(.stale, 61000)]) ∧
    (let s := reached { rec17 with grace := 0 } (holdOf 5 1 .active 1000)
     s.nextDeadline = some (0, holdOf 5 1 .active 1000) ∧ (s.record 17).grace = 0 ∧ s.mode ≠ .entering ∧ s.mode ≠ .reconciling ∧
       OvercommitExact s ∧ (run .renewDeadlineExpiry s).holds.slots = []) ∧
    (let s := reached rec17 (holdOf 5 1 .stale 1000)
     s.nextDeadline = some (0, holdOf 5 1 .stale 1000) ∧ OvercommitExact s ∧ (run .graceEndReclaim s).mgmt.stats.reclaims = 1) ∧
    (let s := reached rec17 (holdOf 5 0 .lingering 1000)
     s.nextDeadline = some (0, holdOf 5 0 .lingering 1000) ∧ OvercommitExact s ∧ (run .lingerEnd s).holds.slots = [] ∧
       (run .lingerEnd s).mgmt.stats.reclaims = 0) := by
  refine ⟨⟨?_, ?_, exact_of _ ?_ ?_, ?_⟩, ⟨?_, ?_, ?_, ?_, exact_of _ ?_ ?_, ?_⟩, ⟨?_, exact_of _ ?_ ?_, ?_⟩,
    ⟨?_, exact_of _ ?_ ?_, ?_⟩⟩ <;> decide +kernel

/-- The slots are listed; of equal deadlines the lowest slot is taken, and in ENTERING no STALE hold's. -/
theorem witness_HoldDeadlinesAreTaken_order :
    let s := (reached rec17 (holdOf 5 1 .active 1000)).setHolds
      { slots := [(0, holdOf 5 1 .stale 900), (1, holdOf 5 1 .active 1000), (2, holdOf 5 1 .active 1000)], gens := [] }
    SlotsListed s ∧ s.nextDeadline = some (0, holdOf 5 1 .stale 900) ∧
      (s.setMode .entering).nextDeadline = some (1, holdOf 5 1 .active 1000) ∧ (s.setMode .unconfigured).nextDeadline = none := by
  unfold SlotsListed Table.Rising
  decide +kernel

/-- After a boundary a credit leaves the peak H of the epoch at the new H (R22, R36). -/
theorem test_credit_raises_peak :
    ((run .lingerEnd (reached rec17 (holdOf 5 0 .lingering 1000))).acct 17).peakThis = 0 ∧
      ((run .lingerEnd ((reached rec17 (holdOf 5 0 .lingering 1000)).modAcct 17 (fun a => { a with h := 95 }))).acct 17).peakThis = 90 := by
  decide +kernel

/-- A wait deadline at the head and behind it, and forward deadlines with a late-key record of 63 and of 64. -/
theorem witness_WaitAndForwardDeadlinesAreTaken :
    (let s := withQueue [waitOf other 5 0 0] open17
     s.nextExpiry = some (waitOf other 5 0 0) ∧ s.isHead (waitOf other 5 0 0) = true ∧
       (run .waitDeadlineExpiry s).farm.replies = [FarmEntry.reply { dst := 1, src := 2, etype := 0x88B5 } other .waitExpired]) ∧
    (let s := withQueue [waitOf key 5 0 9, waitOf other 5 0 0] open17
     s.nextExpiry = some (waitOf other 5 0 0) ∧ s.isHead (waitOf other 5 0 0) = false) ∧
    (let s := open17.setFwd { entries := [forwardOf key 0], late := List.replicate 64 other }
     s.nextTimeout = some (forwardOf key 0) ∧ s.fwd.late.length = 64 ∧ (run .forwardDeadlineExpiry s).fwd.late.length = 64 ∧
       (run .forwardDeadlineExpiry s).fwd.late.getLast? = some key) ∧
    (let s := open17.setFwd { entries := [forwardOf key 0], late := List.replicate 63 other }
     s.nextTimeout = some (forwardOf key 0) ∧ s.fwd.late.length < 64 ∧ (run .forwardDeadlineExpiry s).mgmt.stats.forwardTimeouts = 1) := by
  decide +kernel

/-- A pass asked for on pool 17. -/
def asked (s : State) : State := s.askPass 17

theorem witness_PassServesTheQueue_blocked :
    (let s := asked (open17.setMode .draining)
     17 ∈ s.queues.marks ∧ 17 ∉ s.queues.ordered ∧ s.mode = .draining ∧ (run (.queueServicePass 17) s).queues.marks = []) ∧
    (let s := (open17.setMode .faultHold).askOrdered 17
     17 ∈ s.queues.marks ∧ s.queues.ordered.head? = some 17) ∧
    ((asked (base { rec17 with startDay := 1 } (acctOf .sole 200 0 0))).record 17).validOn none = false := by decide +kernel

/-- A head that does not fit, one that fits, and one behind a head that BACKFILL lets it pass. -/
theorem witness_PassServesTheQueue_serves :
    (let s := asked (withQueue [waitOf other 5 0 90000] tight)
     17 ∈ s.queues.marks ∧ s.mode = .serving ∧ s.link.autonomyPassed = false ∧ (s.record 17).validOn s.today = true ∧
       s.poolQueue 17 = waitOf other 5 0 90000 :: [] ∧ (s.record 17).policy = .fifo ∧ s.fits 17 5 = false ∧
       (run (.queueServicePass 17) s).queues.entries = s.queues.entries) ∧
    (let s := asked (withQueue [waitOf other 2 0 90000] tight)
     s.poolQueue 17 = [] ++ [waitOf other 2 0 90000] ∧ s.fits 17 2 = true ∧ s.tableFull = false ∧ (s.acct 17).state ≠ .shared ∧
       OvercommitExact s ∧
       (run (.queueServicePass 17) s).farm.replies =
         [FarmEntry.reply { dst := 1, src := 2, etype := 0x88B5 } other (.grant slot0 2 60 60000)]) ∧
    (let s := asked (withQueue [waitOf key 5 0 90000, waitOf other 2 0 90000]
        (base { rec17 with policy := .backfill, protectAge := 1 } (acctOf .sole 40 40 1)))
     s.poolQueue 17 = [waitOf key 5 0 90000] ++ [waitOf other 2 0 90000] ∧ s.fits 17 5 = false ∧ s.fits 17 2 = true ∧
       (s.record 17).policy = .backfill ∧ s.time.now - 0 < (s.record 17).protectAge * 1000 ∧ OvercommitExact s ∧
       (run (.queueServicePass 17) s).queues.entries = [waitOf key 5 0 90000]) := by
  refine ⟨?_, ⟨?_, ?_, ?_, ?_, exact_of _ ?_ ?_, ?_⟩, ⟨?_, ?_, ?_, ?_, ?_, exact_of _ ?_ ?_, ?_⟩⟩ <;> decide +kernel

theorem witness_PassServesTheQueue_stalls :
    let s := fullTable (asked (withQueue [waitOf other 2 0 90000] tight))
    17 ∈ s.queues.marks ∧ s.mode = .serving ∧ s.poolQueue 17 = [waitOf other 2 0 90000] ∧ s.fits 17 2 = true ∧ s.tableFull = true := by
  refine ⟨?_, ?_, ?_, ?_, crowded_full _ _ (Nat.le_refl _)⟩ <;> decide +kernel

/-- A wait entry of two seats, ten tokens, that joins or upgrades the hold in slot 0, whose key stands under `tag`. -/
def joiner (tag : Word) : WaitEntry := { waitOf { key with tag } 6 0 90000 with seats := 2, target := some slot0 }

/-- A pass asked for on pool 17, PER_NODE, with this hold in slot 0 and these entries. -/
def passes (d : Nat) (h : Hold) (es : List WaitEntry) (state : DelegationState) : State :=
  asked (withQueue es (withHold h (base { rec17 with sharing := .perNode } (acctOf state d h.tokens 1))))

/-- A pass with a join target: denied USE_LIMIT, upgraded and then joined by the entry behind, unfit; and a target that is gone. -/
theorem witness_PassServesTheQueue_targets :
    (let s := passes 40 (holdOf 4 255 .active 60000) [joiner 8] .sole
     OvercommitExact s ∧ 17 ∈ s.queues.marks ∧ s.mode = .serving ∧ (s.record 17).validOn s.today = true ∧
       s.targetOf (joiner 8) = some (0, holdOf 4 255 .active 60000) ∧ (run (.queueServicePass 17) s).queues.entries = [] ∧
       (run (.queueServicePass 17) s).mgmt.stats.denials = 1) ∧
    (let s := passes 40 (holdOf 4 1 .active 60000) [joiner 8, joiner 9] .sole
     OvercommitExact s ∧ s.fullDemand (joiner 8) = 10 ∧ s.grantDemand (joiner 8) = 6 ∧
       (run (.queueServicePass 17) s).queues.entries = [] ∧
       (run (.queueServicePass 17) s).holds.slots.map (fun e => (e.2.tokens, e.2.useCount)) = [(10, 3)] ∧
       ((run (.queueServicePass 17) s).acct 17).h = 10) ∧
    (let s := passes 9 (holdOf 4 1 .active 60000) [joiner 8] .sole
     OvercommitExact s ∧ s.effectiveCeiling 17 < s.grantDemand (joiner 8) + (s.acct 17).h ∧
       (run (.queueServicePass 17) s).queues.entries = [joiner 8]) ∧
    (let s := (passes 40 (holdOf 4 1 .active 60000) [joiner 8] .sole).setHolds { slots := [], gens := [(0, 1)] }
     OvercommitExact s ∧ s.targetOf (joiner 8) = none ∧ s.grantDemand (joiner 8) = 10 ∧
       (run (.queueServicePass 17) s).holds.slots.map (fun e => (e.1, e.2.tokens)) = [(0, 10)]) := by
  refine ⟨⟨exact_of _ ?_ ?_, ?_⟩, ⟨exact_of _ ?_ ?_, ?_⟩, ⟨exact_of _ ?_ ?_, ?_⟩, ⟨exact_of _ ?_ ?_, ?_⟩⟩ <;> decide +kernel

/-- Two grants in one pass, a stall for want of report room with the plain join before it still made, and an entry whose wait deadline
a forward step has reached. -/
theorem witness_PassServesTheQueue_several :
    (let s := asked (withQueue [waitOf key 5 0 90000, waitOf other 5 0 90000] open17)
     OvercommitExact s ∧ (run (.queueServicePass 17) s).holds.slots.length = 2 ∧ ((run (.queueServicePass 17) s).acct 17).h = 10) ∧
    (let s := trafficUp 992 (passes 40 (holdOf 10 1 .active 60000) [joiner 8, waitOf key 5 0 90000] .shared)
     OvercommitExact s ∧ s.seatRoom = false ∧ (s.acct 17).state = .shared ∧
       (run (.queueServicePass 17) s).queues.entries = [waitOf key 5 0 90000] ∧
       ((run (.queueServicePass 17) s).acct 17).stalled = true ∧
       (run (.queueServicePass 17) s).holds.slots.map (fun e => e.2.useCount) = [2]) ∧
    (let e := { waitOf key 5 0 0 with stepPassed := true }
     let s := asked (withQueue [e] open17)
     OvercommitExact s ∧ s.poolQueue 17 = [e] ∧ (run (.queueServicePass 17) s).queues.entries = [e]) := by
  refine ⟨⟨exact_of _ ?_ ?_, ?_⟩, ⟨exact_of _ ?_ ?_, ?_⟩, ⟨exact_of _ ?_ ?_, ?_⟩⟩ <;> decide +kernel

/-- A join target in slot 0 that is a hold of pool 9, whose D is `d`: pool 9 is tested and charged, with its report, and pool 17's queue
is served (log 41). -/
def strays (d : Nat) (h : Hold) : State :=
  let s := passes 40 { h with pool := 9 } [joiner 8] .sole
  { s with accounts := [(9, acctOf .shared d h.tokens 1), (17, { acctOf .sole 40 0 0 with queueLength := 1 })] }

theorem witness_PassServesTheQueue_strays :
    (let s := strays 10 (holdOf 4 1 .active 60000)
     OvercommitExact s ∧ s.chargedPool (joiner 8) = 9 ∧ (run (.queueServicePass 17) s).queues.entries = [] ∧
       ((run (.queueServicePass 17) s).acct 9).h = 10 ∧ ((run (.queueServicePass 17) s).acct 9).reported = 10 ∧
       ((run (.queueServicePass 17) s).acct 17).queueLength = 0 ∧ (run (.queueServicePass 17) s).svc.upstream.length = 1) ∧
    (let s := strays 9 (holdOf 4 1 .active 60000)
     OvercommitExact s ∧ s.effectiveCeiling 9 < s.grantDemand (joiner 8) + (s.acct 9).h ∧
       (run (.queueServicePass 17) s).queues.entries = [joiner 8]) ∧
    (let s := trafficUp 992 (strays 10 (holdOf 4 1 .active 60000))
     OvercommitExact s ∧ s.seatRoom = false ∧ (run (.queueServicePass 17) s).queues.entries = [joiner 8] ∧
       ((run (.queueServicePass 17) s).acct 17).stalled = true) ∧
    (let s := strays 10 (holdOf 10 1 .active 60000)
     OvercommitExact s ∧ (run (.queueServicePass 17) s).queues.entries = [] ∧ ((run (.queueServicePass 17) s).acct 9).grantsThis = 1) := by
  refine ⟨⟨exact_of _ ?_ ?_, ?_⟩, ⟨exact_of _ ?_ ?_, ?_⟩, ⟨exact_of _ ?_ ?_, ?_⟩, ⟨exact_of _ ?_ ?_, ?_⟩⟩ <;> decide +kernel

/-- A boundary that is owed, with no switch pending, with one that fails, and with one that passes. -/
def owes (b : Banks) (a : Account) (es : List WaitEntry) : State :=
  (withQueue es ((base rec17 a).setBanks b)).setTime { State.reset.time with epochOwed := 1 }

/-- The banks of `base` with this shadow bank and a pending switch that expects one record. -/
def pendingBanks (shadow : Bank) : Banks :=
  { active := some (bankOf rec17), shadow, index := (bankOf rec17).index, pendingSwitch := some { expected := 1, held := none } }

theorem witness_EpochBoundaryRollsAndSwitches :
    (let s := owes (base rec17 Account.cleared).banks (acctOf .sole 200 0 0) []
     AccountsListed s ∧ QueuesCounted s ∧ 0 < s.time.epochOwed ∧ s.banks.pendingSwitch = none) ∧
    (let s := owes (pendingBanks Bank.blank) (acctOf .sole 200 0 0) []
     AccountsListed s ∧ QueuesCounted s ∧ 0 < s.time.epochOwed ∧ s.banks.pendingSwitch = some { expected := 1, held := none } ∧
       s.mode ≠ .entering ∧ s.mode ≠ .reconciling ∧ s.switchFailure 1 = some { test := .recordCount, item := 0 } ∧
       (run .epochBoundary s).banks.active = some (bankOf rec17)) ∧
    (let s := owes (pendingBanks (bankOf { rec17 with queueLimit := 1 })) (acctOf .sole 200 0 0) [waitOf key 5 0 9, waitOf other 5 0 9]
     AccountsListed s ∧ QueuesCounted s ∧ 0 < s.time.epochOwed ∧ s.banks.pendingSwitch = some { expected := 1, held := none } ∧
       s.switchFailure 1 = none ∧ (run .epochBoundary s).queues.entries = [waitOf key 5 0 9] ∧
       (run .epochBoundary s).banks.active = some (bankOf { rec17 with queueLimit := 1 }) ∧
       (run .epochBoundary s).time.epochOwed = 0) := by
  refine ⟨⟨?_, counted_of _ ?_ ?_ ?_ ?_ ?_, ?_⟩, ⟨?_, counted_of _ ?_ ?_ ?_ ?_ ?_, ?_⟩, ⟨?_, counted_of _ ?_ ?_ ?_ ?_ ?_, ?_⟩⟩ <;>
    (try unfold AccountsListed Table.Rising) <;> decide +kernel

/-- A switch applied on day 1 to a window that ended on day 0, with more entries than the new limit: each entry's answer. -/
theorem witness_EpochBoundaryRollsAndSwitches_answers :
    let s := (owes (pendingBanks (bankOf { rec17 with queueLimit := 1, endDay := 0 })) { acctOf .sole 200 0 0 with grantsThis := 3, peakThis := 9 }
      [waitOf key 5 0 9, waitOf other 5 0 9]).setTime { State.reset.time with now := 86400000, source := .tracking, epochOwed := 1 }
    AccountsListed s ∧ QueuesCounted s ∧ 0 < s.time.epochOwed ∧ s.switchFailure 1 = none ∧ PoolOrder s [17] ∧
      s.farm.replies.length ≤ 1024 ∧
      (run .epochBoundary s).farm.replies =
        [FarmEntry.reply { dst := 1, src := 2, etype := 0x88B5 } other .withdrawn,
          FarmEntry.reply { dst := 1, src := 2, etype := 0x88B5 } key (.deny .outOfWindow)] ∧
      ((run .epochBoundary s).acct 17).grantsLast = 3 ∧ ((run .epochBoundary s).acct 17).peakLast = 9 ∧
      ((run .epochBoundary s).acct 17).peakThis = 0 ∧ ((run .epochBoundary s).acct 17).queueLength = 0 := by
  refine ⟨?_, counted_of _ ?_ ?_ ?_ ?_ ?_, ?_, ?_, pools_of ?_, ?_⟩ <;> (try unfold AccountsListed Table.Rising) <;> decide +kernel

/-- Day 1 has come: a pool whose window ended on day 0, and one whose window opens on day 1. -/
theorem witness_DayChangeClosesAndOpensPools :
    (let s := (withQueue [waitOf key 5 0 9] (base { rec17 with endDay := 0 } (acctOf .sole 200 0 0))).setTime
        { State.reset.time with now := 86400000, source := .tracking, dayOwed := [{ old := some 0, new := 1 }] }
     QueuesCounted s ∧ s.time.dayOwed = { old := some 0, new := 1 } :: [] ∧ (s.record 17).endDay < 1 ∧
       s.farm.replies.length + s.queues.entries.length ≤ 1024 ∧ (run .dayChange s).queues.entries = [] ∧
       (run .dayChange s).farm.replies = [FarmEntry.reply { dst := 1, src := 2, etype := 0x88B5 } key (.deny .outOfWindow)]) ∧
    (let s := (withQueue [waitOf key 5 0 9] (base { rec17 with startDay := 1 } (acctOf .sole 200 0 0))).setTime
        { State.reset.time with now := 86400000, source := .tracking, dayOwed := [{ old := some 0, new := 1 }] }
     QueuesCounted s ∧ s.record? 17 = some { rec17 with startDay := 1 } ∧ (s.record 17).validOn (some 0) = false ∧
       (s.record 17).validOn (some 1) = true ∧ (run .dayChange s).queues.marks = [17]) := by
  refine ⟨⟨counted_of _ ?_ ?_ ?_ ?_ ?_, ?_⟩, ⟨counted_of _ ?_ ?_ ?_ ?_ ?_, ?_⟩⟩ <;> decide +kernel

/-! ### Management requests -/

/-- A management request at the head of the Service intake queue. -/
def mgmt (kind : Nat) (body : List Byte) (s : State) : State := atSvc (seat kind body) s

/-- A state that manages the request, as the statements ask it. -/
abbrev manages (s : State) (kind : Nat) (body : List Byte) (r : MgmtRequest) : Prop := Manages (mgmt kind body s) (seat kind body) key r

/-- An engine in RECONCILING with the image of `shared17`. -/
def imaged : State :=
  (shared17.setMode .reconciling).setRecon
    { State.reset.recon with originKey := some key, entryTime := some 0, image := some shared17.builtImage }

theorem witness_ReadingRequestsAnswer :
    manages State.reset 0x20 [] .identify ∧ manages State.reset 0x21 [] .readStatus ∧
      manages State.reset 0x22 (beBytes 2 1023) (.readPool 1023) ∧ manages State.reset 0x22 (beBytes 2 1024) (.readPool 1024) ∧
      manages State.reset 0x2E (beBytes 2 1023 ++ beBytes 2 65535) (.listHolds 1023 65535) ∧
      manages State.reset 0x2E (beBytes 2 1024 ++ beBytes 2 0) (.listHolds 1024 0) ∧
      manages State.reset 0x2F (beBytes 2 17 ++ beBytes 2 0) (.listQueue 17 0) ∧
      manages State.reset 0x2F (beBytes 2 1024 ++ beBytes 2 0) (.listQueue 1024 0) ∧
      manages State.reset 0x36 (beBytes 2 0 ++ beBytes 2 1) (.imageRead 0 1) := by
  refine ⟨?_, ?_, ?_, ?_, ?_, ?_, ?_, ?_, ?_⟩ <;> refine manages_of ?_ <;> decide +kernel

/-- IMAGE_READ up to the last word of an image of 24, one beyond it, and a count of 0 and of 256. -/
theorem witness_ReadingRequestsAnswer_image :
    imaged.mode = .reconciling ∧ imaged.recon.image = some shared17.builtImage ∧ shared17.builtImage.length = 24 ∧
      manages imaged 0x36 (beBytes 2 23 ++ beBytes 2 1) (.imageRead 23 1) ∧ 23 + 1 ≤ 24 ∧
      manages imaged 0x36 (beBytes 2 24 ++ beBytes 2 1) (.imageRead 24 1) ∧ manages imaged 0x36 (beBytes 2 0 ++ beBytes 2 0) (.imageRead 0 0) ∧
      manages imaged 0x36 (beBytes 2 0 ++ beBytes 2 256) (.imageRead 0 256) := by
  refine ⟨?_, ?_, ?_, manages_of ?_, ?_, manages_of ?_, manages_of ?_, manages_of ?_⟩ <;> decide +kernel

/-- READ_STATUS shows a running autonomy clock in milliseconds, and none for a stopped one; its four bytes carry the value up to their
end. -/
theorem test_status_shows_autonomy_clock :
    let s := (State.reset.setLink { State.reset.link with autonomyStart := some 156250 }).setClk (156250 * 1502)
    s.statusReport.autonomyMs = some 1501 ∧ State.reset.statusReport.autonomyMs = none ∧ clockValue 4294967295 = 4294967295 := by
  decide +kernel

theorem witness_RequestWithoutRoomIsDropped :
    (mgmt 0x31 [] (noticesUp 1024 open17)).headRequest = some (seat 0x31 [], key, .drain) ∧ MgmtRequest.drain.command ≠ .restart ∧
      1024 ≤ (mgmt 0x31 [] (noticesUp 1024 open17)).svc.upstream.length + (mgmt 0x31 [] (noticesUp 1024 open17)).reserved ∧
      (run .drain (mgmt 0x31 [] (noticesUp 1024 open17))).mgmt.stats.droppedManagement = 1 ∧
      (run .drain (mgmt 0x31 [] (noticesUp 1024 open17))).mode = .serving := by decide +kernel

/-- A SET_PARAMETERS with every value below its range, and one that owes a boundary and meets the autonomy clock. -/
def lowParams : List Byte := [0x7F, 0] ++ List.replicate 16 0

theorem witness_SettingRequestsWrite :
    (∃ v, manages State.reset 0x23 lowParams (.setParameters 127 v)) ∧
      manages State.reset 0x24 [0x7F, 0xFF] (.setNotify 0x7FFF) ∧ manages State.reset 0x25 [0x40, 0] (.clearEvents 0x4000) ∧
      manages State.reset 0x34 [] .injectEchoError ∧
      (run .setParameters (mgmt 0x23 lowParams State.reset)).mgmt.params =
        { seatType := 0, probeInterval := 100, forwardTimeout := 50, epochPeriod := 1, autonomyLimit := 0, stepLimit := 100, retryHint := 10 } ∧
      (run .setNotify (mgmt 0x24 [0x7F, 0xFF] State.reset)).mgmt.notify = 0x7FFF ∧
      (run .clearEvents (mgmt 0x25 [0x40, 0] State.reset)).mgmt.events = 0 ∧
      (run .injectEchoError (mgmt 0x34 [] State.reset)).link.echoError = true := by
  refine ⟨⟨paramsBody lowParams, manages_of ?_⟩, manages_of ?_, manages_of ?_, manages_of ?_, ?_⟩ <;> decide +kernel

/-- The five values below their ranges are counted (an autonomy limit of 0 lies in its range). -/
theorem witness_SettingRequestsWrite_clamps :
    (run .setParameters (mgmt 0x23 lowParams State.reset)).svc.upstream.head? =
      some (UpEntry.reply { dst := 1, src := 2, etype := 0 } key
        { kind := .setParameters, status := .okClamped,
          body := .parameters 5 (run .setParameters (mgmt 0x23 lowParams State.reset)).mgmt.params }) := by decide +kernel

theorem witness_SettingRequestsWrite_autonomy :
    let s := mgmt 0x23 lowParams (State.reset.setLink { State.reset.link with state := .lost, autonomyStart := some 0 })
    s.link.autonomyStart = some 0 ∧ (run .setParameters s).mgmt.params.autonomyLimit * 1000 ≤ (s.clk - 0) / 156250 ∧
      s.link.autonomyPassed = false ∧ (run .setParameters s).link.autonomyPassed = true := by decide +kernel

/-- The 44 bytes of a pool record's fields for pool `p`: feature 4410, mask of ones, the rest 1. -/
def record44 (p feature : Nat) : List Byte :=
  beBytes 2 p ++ beBytes 3 feature ++ [0] ++ beBytes 2 0 ++ beBytes 2 9 ++ beBytes 2 5 ++ beBytes 2 16 ++ beBytes 2 4 ++ beBytes 2 50 ++
    [255, 255, 255, 255, 1, 1] ++ beBytes 2 60 ++ beBytes 2 600 ++ beBytes 2 60 ++ beBytes 4 0 ++ beBytes 2 8 ++ beBytes 2 600 ++
    beBytes 2 0 ++ beBytes 2 0 ++ beBytes 2 65535

theorem witness_LoadingRequestsWriteShadow_pools :
    manages State.reset 0x27 [0, 0] (.loadPools 0 []) ∧ manages State.reset 0x27 [9, 0] (.loadPools 9 []) ∧
      manages State.reset 0x27 ([1, 0] ++ (record44 17 4410).take 43) (.loadPools 1 ((record44 17 4410).take 43)) ∧
      manages State.reset 0x27 ([1, 0] ++ record44 17 4410) (.loadPools 1 (record44 17 4410)) ∧
      manages State.reset 0x27 ([2, 0] ++ record44 1023 4410 ++ record44 1024 4410)
        (.loadPools 2 (record44 1023 4410 ++ record44 1024 4410)) ∧
      (carriedRecords 1 (record44 17 4410)).map (fun x => x.atFault) = [false] ∧
      (carriedRecords 2 (record44 1023 4410 ++ record44 1024 4410)).map (fun x => x.atFault) = [false, true] ∧
      (run .loadPools (mgmt 0x27 ([1, 0] ++ record44 17 4410) State.reset)).banks.shadow.records.map (fun e => e.1) = [17] ∧
      (run .loadPools (mgmt 0x27 ([2, 0] ++ record44 1023 4410 ++ record44 1024 4410) State.reset)).banks = State.reset.banks := by
  refine ⟨manages_of ?_, manages_of ?_, manages_of ?_, manages_of ?_, manages_of ?_, ?_⟩ <;> decide +kernel

/-- The record of the spec's pool 40 (10.4): core step 0, overdraft beyond its range, and both renewal limits below theirs; then with a
version ceiling below its floor, and with no sharing rule of the two. -/
def record40 (overdraft renewMax floor sharing : Nat) : CarriedRecord :=
  { pool := 40, feature := 4410, versionFloor := floor, versionCeiling := 9, tokensPerSeat := 0, coreStep := 0, coreCap := 65, overdraft,
    groupMask := 0xFFFFFFFF, sharing, policy := 2, renewMin := 5, renewMax, grace := 60, linger := 0, queueLimit := 8, maxWait := 600,
    protectAge := 0, startDay := 0, endDay := 65535 }

theorem witness_LoadingRequestsWriteShadow_ranges :
    (record40 750 7 0 1).atFault = false ∧ (record40 750 7 0 1).clamps = 5 ∧ (record40 500 10 0 2).clamps = 3 ∧
      ((record40 750 7 0 1).taken.map (fun r => (r.tokensPerSeat, r.coreStep, r.coreCap, r.overdraft, r.renewMin, r.renewMax))) =
        some (1, 0, 64, 500, 10, 10) ∧
      (record40 500 10 10 1).atFault = true ∧ (record40 500 10 9 1).atFault = false ∧ (record40 500 10 0 3).atFault = true ∧
      { record40 500 9 0 1 with renewMin := 11 }.atFault = true ∧ { record40 500 10 0 1 with pool := 1024 }.atFault = true ∧
      (carriedRecords 1 (record44 17 4410))[0]?.map (fun r => (r.pool, r.feature, r.endDay)) = some (17, 4410, 65535) := by
  decide +kernel

/-- A range of nodes 1 to 2 in group `g`. -/
def range10 (g : Nat) : List Byte := beBytes 4 1 ++ beBytes 4 2 ++ beBytes 1 g ++ [0]

/-- The shadow bank with this many ranges. -/
def rangesIn (n : Nat) : State :=
  State.reset.setBanks { State.reset.banks with shadow := { records := [], ranges := List.replicate n { low := 1, high := 2, group := 3 } } }

theorem witness_LoadingRequestsWriteShadow_groups :
    manages State.reset 0x28 [0, 0] (.loadGroups 0 []) ∧ manages State.reset 0x28 [33, 0] (.loadGroups 33 []) ∧
      manages State.reset 0x28 ([1, 0] ++ range10 32) (.loadGroups 1 (range10 32)) ∧
      (carriedRanges 1 (range10 32)).map (fun x => x.group) = [32] ∧
      manages (rangesIn 512) 0x28 ([1, 0] ++ range10 31) (.loadGroups 1 (range10 31)) ∧
      512 < (rangesIn 512).banks.shadow.ranges.length + 1 ∧
      manages (rangesIn 511) 0x28 ([1, 0] ++ range10 31) (.loadGroups 1 (range10 31)) ∧
      (rangesIn 511).banks.shadow.ranges.length + 1 ≤ 512 ∧ manages State.reset 0x29 [] .clearShadow ∧
      (run .loadGroups (mgmt 0x28 ([1, 0] ++ range10 31) State.reset)).banks.shadow.ranges = [{ low := 1, high := 2, group := 31 }] ∧
      (run .clearShadow (mgmt 0x29 [] (rangesIn 1))).banks.shadow = Bank.blank := by
  refine ⟨manages_of ?_, manages_of ?_, manages_of ?_, ?_, manages_of ?_, ?_, manages_of ?_, ?_, manages_of ?_, ?_⟩ <;> decide +kernel

/-- An engine with pool 17 loaded in SHADOW. -/
def shadowed (s : State) : State := s.setBanks { s.banks with shadow := bankOf { rec17 with feature := 7 } }

theorem witness_SwitchIsRefusedAppliedOrPending :
    manages (shadowed State.reset) 0x2A [0, 1] (.switch 1) ∧ manages (shadowed State.reset) 0x2A [0, 2] (.switch 2) ∧
      manages (shadowed open17) 0x2A [0, 1] (.switch 1) ∧ AccountsListed (shadowed open17) ∧
      (shadowed State.reset).switchFailure 2 = some { test := .recordCount, item := 1 } ∧ (shadowed State.reset).switchFailure 1 = none ∧
      State.reset.banks.active = none ∧ (shadowed (base rec17 Account.cleared)).switchFailure 1 = none ∧
      (run .switch (mgmt 0x2A [0, 1] (shadowed State.reset))).mode = .serving ∧
      ((run .switch (mgmt 0x2A [0, 1] (shadowed (base rec17 Account.cleared)))).acct 17).reassign = true := by
  refine ⟨manages_of ?_, manages_of ?_, manages_of ?_, ?_⟩ <;> (try unfold AccountsListed Table.Rising) <;> decide +kernel

/-- Nine records of one feature, the pools 1 to 9. -/
def nine : Table PoolRecord := (List.range 9).map (fun i => (i + 1, rec17))

theorem witness_SwitchIsRefusedAppliedOrPending_ninth : NinthAt nine 9 := by
  refine ⟨nine.take 8, rec17, [], by decide, by decide, fun before q x after h => Nat.lt_of_le_of_lt (List.length_filter_le ..) ?_⟩
  have : (nine.take 8).length = 8 := by decide
  rw [h] at this
  simp at this
  omega

/-- Ranges of nodes 1 to 2 and 2 to 3. -/
def crossing : List NodeRange := [{ low := 1, high := 2, group := 3 }, { low := 2, high := 3, group := 4 }]

theorem witness_SwitchIsRefusedAppliedOrPending_overlap : OverlapAt crossing 2 := by
  refine ⟨crossing.take 1, { low := 2, high := 3, group := 4 }, [], rfl, rfl,
    ⟨_, List.mem_singleton.2 rfl, 2, by unfold NodeRange.Has; decide, by unfold NodeRange.Has; decide⟩, fun before y after h x hx => ?_⟩
  have : before = [] := by
    have := congrArg List.length h
    simp [crossing] at this
    exact List.eq_nil_of_length_eq_zero (by omega)
  simp [this] at hx

/-- No ninth record and no overlap, and the pool whose reassignment fails; then none. -/
theorem witness_SwitchIsRefusedAppliedOrPending_reassigned :
    (∀ p, ¬NinthAt (shadowed open17).banks.shadow.records p) ∧ (∀ n, ¬OverlapAt (shadowed open17).banks.shadow.ranges n) ∧
      (shadowed open17).ReassignedAt 17 ∧ (shadowed open17).switchFailure 1 = some { test := .reassignment, item := 17 } ∧
      ∀ p, ¬(shadowed absent17).ReassignedAt p := by
  refine ⟨fun p => ?_, fun n => ?_, ?_, by decide +kernel, fun p => ?_⟩
  · rintro ⟨before, r, after, h, h8, -⟩
    have hl := congrArg List.length h
    have hf := List.length_filter_le (fun e : Nat × PoolRecord => decide (e.2.feature = r.feature)) before
    simp [shadowed, bankOf] at hl
    omega
  · rintro ⟨before, r, after, h, -⟩
    simp [shadowed, bankOf] at h
  · unfold State.ReassignedAt State.FeatureChanges
    decide +kernel
  · rintro ⟨-, h, -⟩
    refine h ?_
    rw [show (shadowed absent17).acct p = absent17.acct p from rfl, absent17, base, State.acct]
    simp only [Table.getD, Table.get?]
    split <;> simp_all [acctOf, Account.cleared]

/-- A DELEGATE of pool 17. -/
def delegateOf (p d mode : Nat) : List Byte := beBytes 2 p ++ beBytes 2 d ++ beBytes 1 mode

theorem witness_DelegateAndCensusSettle :
    manages open17 0x2B (delegateOf 17 65535 3) (.delegate 17 65535 3) ∧ manages open17 0x2B (delegateOf 1024 1 1) (.delegate 1024 1 1) ∧
      manages (open17.setMode .faultHold) 0x2B (delegateOf 17 1 1) (.delegate 17 1 1) ∧
      manages open17 0x2B (delegateOf 1023 1 2) (.delegate 1023 1 2) ∧ open17.record? 1023 = none ∧
      open17.record? 17 ≠ none ∧ ((open17.modAcct 17 (fun a => { a with reassign := true })).acct 17).reassign = true ∧
      manages open17 0x2B (delegateOf 17 210 1) (.delegate 17 210 1) ∧ (open17.acct 17).reassign = false ∧
      ((run .delegate (mgmt 0x2B (delegateOf 17 210 1) open17)).acct 17).d = 210 ∧
      (run .delegate (mgmt 0x2B (delegateOf 17 210 1) open17)).queues.marks = [17] ∧
      manages open17 0x2C [4, 0, 1] (.census 1024 1) ∧ manages State.reset 0x2C [0, 0, 1] (.census 0 1) ∧
      manages open17 0x2C [3, 255, 33] (.census 1023 33) ∧ manages open17 0x2C [0, 0, 0] (.census 0 0) ∧
      ((run .census (mgmt 0x2C [0, 17, 1] (base rec17 (acctOf .soleChanged 200 5 1)))).acct 17).state = .sole := by
  refine ⟨manages_of ?_, manages_of ?_, manages_of ?_, manages_of ?_, ?_, ?_, ?_, manages_of ?_, ?_, ?_, ?_, manages_of ?_, manages_of ?_,
    manages_of ?_, manages_of ?_, ?_⟩ <;> decide +kernel

/-- Every outcome of a REVOKE, with room exactly for one TRANSFER frame and the reply, and one place short. -/
theorem witness_RevokeHandsThePoolBack :
    (let s := held17 (holdOf 5 1 .active 60000)
     manages s 0x2D (beBytes 2 1024) (.revoke 1024) ∧ manages s 0x2D (beBytes 2 17) (.revoke 17) ∧
       1 = ((s.holdsOf 17).length + 39) / 40 ∧ (s.acct 17).state ≠ .absent ∧ s.mode = .serving ∧
       SlotsListed (mgmt 0x2D (beBytes 2 17) s) ∧ QueuesCounted (mgmt 0x2D (beBytes 2 17) s) ∧
       (noticesUp 1022 s).svc.upstream.length + 1 + 1 ≤ 1024 ∧ 1024 < (noticesUp 1023 s).svc.upstream.length + 1 + 1 ∧
       992 < (trafficUp 992 s).seatCount + 1 ∧ (trafficUp 991 s).seatCount + 1 ≤ 992 ∧
       (run .revoke (mgmt 0x2D (beBytes 2 17) s)).accounts = [] ∧ (run .revoke (mgmt 0x2D (beBytes 2 17) s)).svc.upstream.length = 2) ∧
    manages absent17 0x2D (beBytes 2 17) (.revoke 17) ∧ manages (open17.setMode .unconfigured) 0x2D (beBytes 2 17) (.revoke 17) := by
  refine ⟨⟨manages_of ?_, manages_of ?_, ?_, ?_, ?_, ?_, counted_of _ ?_ ?_ ?_ ?_ ?_, ?_⟩, manages_of ?_, manages_of ?_⟩ <;>
    (try unfold SlotsListed Table.Rising) <;> decide +kernel

/-- A REVOKE with two entries: both handed on, one place left in the Forwarding Table, none, and the link LOST. -/
theorem witness_RevokeHandsThePoolBack_entries :
    let s := withQueue [waitOf other 5 0 90000, waitOf { key with tag := 9 } 5 0 90000] open17
    let r (t : State) := run .revoke (mgmt 0x2D (beBytes 2 17) t)
    let full (n : Nat) := s.setFwd { entries := List.replicate n (forwardOf key 500), late := [] }
    manages s 0x2D (beBytes 2 17) (.revoke 17) ∧ QueuesCounted (mgmt 0x2D (beBytes 2 17) s) ∧ SlotsListed (mgmt 0x2D (beBytes 2 17) s) ∧
      s.poolQueue 17 = [waitOf other 5 0 90000, waitOf { key with tag := 9 } 5 0 90000] ∧
      (r s).fwd.entries.map (fun e => e.key) = [other, { key with tag := 9 }] ∧ (r s).svc.upstream.length = 3 ∧ (r s).farm.replies = [] ∧
      (r (full 255)).fwd.entries.length = 256 ∧
      (r (full 255)).farm.replies = [FarmEntry.reply { dst := 1, src := 2, etype := 0x88B5 } { key with tag := 9 } (.retry .noRoom 200)] ∧
      (r (full 256)).farm.replies.length = 2 ∧ (r (linkIn .lost s)).fwd.entries = [] ∧ (r (linkIn .lost s)).farm.replies.length = 2 := by
  refine ⟨manages_of ?_, counted_of _ ?_ ?_ ?_ ?_ ?_, ?_⟩ <;> (try unfold SlotsListed Table.Rising) <;> decide +kernel

theorem witness_EvictRemovesTheHold :
    (let s := held17 (holdOf 5 1 .stale 60000)
     manages s 0x30 (beBytes 4 0) (.evict slot0) ∧ OvercommitExact (mgmt 0x30 (beBytes 4 0) s) ∧
       (mgmt 0x30 (beBytes 4 0) s).namedHold slot0 = some (holdOf 5 1 .stale 60000) ∧ s.mode = .serving ∧ (s.acct 17).state ≠ .shared ∧
       (run .evict (mgmt 0x30 (beBytes 4 0) s)).holds = { slots := [], gens := [(0, 1)] } ∧
       ((run .evict (mgmt 0x30 (beBytes 4 0) s)).acct 17).state = .soleChanged) ∧
    (let s := withHold (holdOf 5 1 .active 60000) (base rec17 (acctOf .shared 200 5 1))
     manages s 0x30 (beBytes 4 0) (.evict slot0) ∧ (s.acct 17).state = .shared ∧ s.seatCount < 992 ∧ s.svc.upstream.length + 1 < 1024 ∧
       992 ≤ (trafficUp 992 s).seatCount ∧ (run .evict (mgmt 0x30 (beBytes 4 0) s)).svc.upstream.length = 2 ∧
       ((run .evict (mgmt 0x30 (beBytes 4 0) (trafficUp 992 s))).acct 17).gap = true) ∧
    manages open17 0x30 (beBytes 4 16383) (.evict { service := false, gen := 0, slot := 16383 }) ∧
    (mgmt 0x30 (beBytes 4 16383) open17).namedHold { service := false, gen := 0, slot := 16383 } = none := by
  refine ⟨⟨manages_of ?_, exact_of _ ?_ ?_, ?_⟩, ⟨manages_of ?_, ?_⟩, manages_of ?_, ?_⟩ <;> decide +kernel

/-- DRAIN in SERVING with an entry to hand on, the link UP and LOST, and in DRAINING. -/
theorem witness_DrainHandsTheQueuesOn :
    (let s := linkIn .up (withQueue [waitOf key 5 0 90000] open17)
     manages s 0x31 [] .drain ∧ s.mode = .serving ∧ QueuesCounted (mgmt 0x31 [] s) ∧ s.link.state ≠ .lost ∧
       s.fwd.entries.length + s.queues.entries.length ≤ 256 ∧ s.seatCount + s.queues.entries.length ≤ 992 ∧
       s.svc.upstream.length + s.queues.entries.length + 1 ≤ 1024 ∧ (run .drain (mgmt 0x31 [] s)).mode = .draining ∧
       (run .drain (mgmt 0x31 [] s)).fwd.entries.length = 1 ∧ (run .drain (mgmt 0x31 [] (linkIn .lost s))).fwd.entries = [] ∧
       (run .drain (mgmt 0x31 [] s)).svc.upstream.length = 2) ∧
    manages (open17.setMode .draining) 0x31 [] .drain ∧ manages State.reset 0x31 [] .drain ∧
    manages (open17.setMode .draining) 0x32 [] .undrain ∧ manages State.reset 0x32 [] .undrain ∧
    (run .undrain (mgmt 0x32 [] (open17.setMode .draining))).mode = .serving := by
  refine ⟨⟨manages_of ?_, ?_, counted_of _ ?_ ?_ ?_ ?_ ?_, ?_⟩, manages_of ?_, manages_of ?_, manages_of ?_, manages_of ?_, ?_⟩ <;> decide +kernel

/-- A DRAIN with two entries: the last place of the Forwarding Table, of the seat traffic and of the Upstream Queue, and the link LOST. -/
theorem witness_DrainHandsTheQueuesOn_entries :
    let s := linkIn .up (withQueue [waitOf other 5 0 90000, waitOf { key with tag := 9 } 5 0 90000] open17)
    let r (t : State) := run .drain (mgmt 0x31 [] t)
    manages s 0x31 [] .drain ∧ PoolOrder (mgmt 0x31 [] s) [17] ∧ s.handedForward (waitOf other 5 0 90000) =
        { key := other, kind := .checkout, feature := 4410, deadline := 500, addrs := { src := 1, dst := 2 } } ∧
      (r s).svc.upstream.length = 3 ∧
      (r s).fwd.entries = [s.handedForward (waitOf other 5 0 90000), s.handedForward (waitOf { key with tag := 9 } 5 0 90000)] ∧
      (r (s.setFwd { entries := List.replicate 255 (forwardOf key 500), late := [] })).farm.replies =
        [FarmEntry.reply { dst := 1, src := 2, etype := 0x88B5 } { key with tag := 9 } (.retry .noRoom 200)] ∧
      (r (trafficUp 991 s)).fwd.entries.length = 1 ∧ (r (noticesUp 1022 s)).fwd.entries.length = 1 ∧
      (r (linkIn .lost s)).farm.replies =
        [FarmEntry.reply { dst := 1, src := 2, etype := 0x88B5 } other .unreachable,
          FarmEntry.reply { dst := 1, src := 2, etype := 0x88B5 } { key with tag := 9 } .unreachable] := by
  refine ⟨manages_of ?_, pools_of ?_, ?_⟩ <;> decide +kernel

/-- A SET_TIME of this mode and value. -/
def setTimeOf (mode value : Nat) : List Byte := beBytes 1 mode ++ [0] ++ beBytes 6 value

theorem witness_SetTimeStepsOrRebases :
    (let s := (held17 (holdOf 5 1 .active 60000)).setTime { State.reset.time with now := 5000 }
     manages s 0x33 (setTimeOf 1 4999) (.setTime 1 4999) ∧ 4999 < s.time.now ∧ manages s 0x33 (setTimeOf 3 9000) (.setTime 3 9000) ∧
       manages s 0x33 (setTimeOf 1 5000) (.setTime 1 5000) ∧ s.time.now ≤ 5000 ∧
       manages s 0x33 (setTimeOf 2 281474976710655) (.setTime 2 281474976710655) ∧
       (run .setTime (mgmt 0x33 (setTimeOf 1 9000) s)).holds = s.holds ∧ (run .setTime (mgmt 0x33 (setTimeOf 1 9000) s)).time.now = 9000 ∧
       (run .setTime (mgmt 0x33 (setTimeOf 2 9000) s)).holds.slots.map (fun e => (e.2.deadline, e.2.granted)) = [(64000, 4000)]) := by
  refine ⟨manages_of ?_, ?_, manages_of ?_, manages_of ?_, ?_, manages_of ?_, ?_⟩ <;> decide +kernel

/-- A REBASE to the top of engine time holds the deadline there and takes it as reached (log 45); to one below, it does not. -/
theorem test_rebase_to_the_top :
    let s := held17 (holdOf 5 1 .active 60000)
    let r (value : Nat) := run .setTime (mgmt 0x33 (setTimeOf 2 value) s)
    (r (2 ^ 48 - 1)).nextDeadline = some (0, { holdOf 5 1 .active (2 ^ 48 - 1) with granted := 2 ^ 48 - 1 }) ∧
      (r (2 ^ 48 - 2)).nextDeadline = none := by
  decide +kernel

/-- A STEP keeps the enqueue times and the wait deadlines, and marks the one entry whose deadline it reaches. -/
theorem witness_SetTimeStepsOrRebases_waiting :
    let s := (withQueue [waitOf other 6 100 9000, waitOf { key with tag := 9 } 6 200 9001] shared17).setTime { State.reset.time with now := 5000 }
    manages s 0x33 (setTimeOf 1 9000) (.setTime 1 9000) ∧
      (run .setTime (mgmt 0x33 (setTimeOf 1 9000) s)).queues.entries.map (fun e => (e.enqueued, e.deadline, e.stepPassed)) =
        [(100, 9000, true), (200, 9001, false)] := by
  refine ⟨manages_of ?_, ?_⟩ <;> decide +kernel

/-- A SET_TIME taken while UNSET, the link LOST, over a day and an epoch. -/
theorem witness_SetTimeStepsOrRebases_unset :
    let s := linkIn .lost State.reset
    manages s 0x33 (setTimeOf 1 86400000) (.setTime 1 86400000) ∧ s.time.source = .unset ∧ s.link.state = .lost ∧
      (run .setTime (mgmt 0x33 (setTimeOf 1 86400000) s)).time =
        { now := 86400000, source := .holdover, epochOwed := 1, dayOwed := [{ old := none, new := 1 }] } := by
  refine ⟨manages_of ?_, ?_⟩ <;> decide +kernel

/-- An IMAGE_WRITE of `n` words at an offset. -/
def writeOf (offset n : Nat) : List Byte := beBytes 2 offset ++ beBytes 2 n ++ List.replicate (4 * n) 0

theorem witness_ReconcileBeginsAndSlotsAreWritten :
    manages State.reset 0x35 [] .reconcile ∧ manages imaged 0x35 [] .reconcile ∧ imaged.recon.latch = false ∧
      manages (imaged.setRecon { imaged.recon with latch := true }) 0x35 [] .reconcile ∧ manages shared17 0x35 [] .reconcile ∧
      shared17.reportCount = 0 ∧ shared17.svc.upstream.length + 2 ≤ 1024 ∧
      manages (shared17.setSvc { shared17.svc with upstream := [report] }) 0x35 [] .reconcile ∧
      0 < (shared17.setSvc { shared17.svc with upstream := [report] }).reportCount ∧
      (run .reconcile (mgmt 0x35 [] shared17)).mode = .reconciling ∧ (run .reconcile (mgmt 0x35 [] shared17)).svc.upstream.length = 2 ∧
      (run .reconcile (mgmt 0x35 [] (shared17.setSvc { shared17.svc with upstream := [report] }))).mode = .entering := by
  refine ⟨manages_of ?_, manages_of ?_, ?_, manages_of ?_, manages_of ?_, ?_, ?_, manages_of ?_, ?_⟩ <;> decide +kernel

theorem witness_ReconcileBeginsAndSlotsAreWritten_image :
    AccountsListed (mgmt 0x35 [] shared17) ∧
      (run .reconcile (mgmt 0x35 [] shared17)).recon.image.map (fun i => (imageWord i 0, imageWord i 4, imageWord i 9, imageWord i 18)) =
        some (0x0701, 1, 1, 200) := by
  unfold AccountsListed Table.Rising
  decide +kernel

/-- Counts of 0, 64 and 65, the whole of words 5 to 8, a range that ends beyond the image, and one with a read-only word. -/
theorem witness_ImageWriteWritesSlots :
    manages State.reset 0x37 (writeOf 5 1) (.imageWrite 5 1 (List.replicate 4 0)) ∧
      manages imaged 0x37 (writeOf 5 0) (.imageWrite 5 0 []) ∧ manages imaged 0x37 (beBytes 2 5 ++ beBytes 2 65) (.imageWrite 5 65 []) ∧
      manages imaged 0x37 (writeOf 5 4) (.imageWrite 5 4 (List.replicate 16 0)) ∧ 5 + 4 ≤ shared17.builtImage.length ∧
      (∀ i, i < 4 → writableWord (5 + i) = true) ∧ writableWord 9 = false ∧
      manages imaged 0x37 (writeOf 8 2) (.imageWrite 8 2 (List.replicate 8 0)) ∧
      manages imaged 0x37 (writeOf 23 2) (.imageWrite 23 2 (List.replicate 8 0)) ∧ shared17.builtImage.length < 23 + 2 ∧
      (run .imageWrite (mgmt 0x37 (beBytes 2 18 ++ beBytes 2 1 ++ beBytes 4 99) imaged)).recon.image.map (fun i => imageWord i 18) =
        some 99 := by
  refine ⟨manages_of ?_, manages_of ?_, manages_of ?_, manages_of ?_, ?_, ?_, ?_, manages_of ?_, manages_of ?_, ?_⟩ <;> decide +kernel

/-- RESUME outside RECONCILING, with an image at fault in word 5, and with a valid one, the latch clear and set. -/
theorem witness_ResumeFaultsOrApplies :
    manages open17 0x38 [] .resume ∧
      (let s := imaged.setRecon { imaged.recon with image := some (overwrite shared17.builtImage 5 [2]) }
       manages s 0x38 [] .resume ∧ s.mode = .reconciling ∧ imageFault s.time.now (overwrite shared17.builtImage 5 [2]) = some 5 ∧
         QueuesCounted (mgmt 0x38 [] s) ∧ (run .resume (mgmt 0x38 [] s)).mode = .faultHold) ∧
      (manages imaged 0x38 [] .resume ∧ imageFault imaged.time.now shared17.builtImage = none ∧ imaged.recon.latch = false ∧
        (run .resume (mgmt 0x38 [] imaged)).mode = .serving) ∧
      (let s := imaged.setRecon { imaged.recon with latch := true, latchedKey := some other }
       manages s 0x38 [] .resume ∧ s.recon.latch = true ∧ (run .resume (mgmt 0x38 [] s)).mode = .reconciling ∧
         (run .resume (mgmt 0x38 [] s)).recon.originKey = some other) ∧
      imageWord (overwrite shared17.builtImage 5 [1, 1]) 6 = 1 := by
  refine ⟨manages_of ?_, ⟨manages_of ?_, ?_, ?_, counted_of _ ?_ ?_ ?_ ?_ ?_, ?_⟩, ⟨manages_of ?_, ?_⟩, ⟨manages_of ?_, ?_⟩, ?_⟩ <;>
    decide +kernel

/-- A waiting entry in a RESUME that faults and in one that flushes, the relocation passing its wait deadline. -/
theorem witness_ResumeFaultsOrApplies_entries :
    let s (image : List Word) := (withQueue [waitOf other 5 0 500] imaged).setRecon { imaged.recon with image := some image }
    let bad := overwrite shared17.builtImage 5 [2]
    let flush := overwrite shared17.builtImage 6 [1, 0, 900]
    manages (s bad) 0x38 [] .resume ∧ PoolOrder (mgmt 0x38 [] (s bad)) [17] ∧ imageFault 0 bad = some 5 ∧
      (run .resume (mgmt 0x38 [] (s bad))).farm.replies =
        [FarmEntry.reply { dst := 1, src := 2, etype := 0x88B5 } other (.retry .engineFault 200)] ∧
      manages (s flush) 0x38 [] .resume ∧ PoolOrder (mgmt 0x38 [] (s flush)) [17] ∧ imageFault 0 flush = none ∧ imageWord flush 6 = 1 ∧
      (run .resume (mgmt 0x38 [] (s flush))).time.now = 900 ∧
      (run .resume (mgmt 0x38 [] (s flush))).farm.replies = [FarmEntry.reply { dst := 1, src := 2, etype := 0x88B5 } other .withdrawn] := by
  refine ⟨manages_of ?_, pools_of ?_, ?_, ?_, manages_of ?_, pools_of ?_, ?_⟩ <;> decide +kernel

/-- Pool 17 with a hold past its deadline and an entry waiting, in RECONCILING with `image`, the latch as given. -/
def settling (image : List Word) (latch : Bool) : State :=
  (withQueue [waitOf other 6 0 90000] (withHold (holdOf 5 1 .stale 700) (base rec17 (acctOf .shared 200 5 1)))).setRecon
    { imaged.recon with image := some image, latch, latchedKey := if latch then some other else none } |>.setMode .reconciling

/-- The image of `shared17` with engine time 900 and pool 17's D at 4, SERVING or DRAINING. -/
def imageOf (draining : Nat) : List Word := overwrite (overwrite shared17.builtImage 5 [BitVec.ofNat 32 draining, 0, 0, 900]) 18 [4]

/-- The premises of the settling, met where the latch is clear and set, with and without a REPORT waiting. -/
theorem witness_ResumeFaultsOrApplies_premises (s : State)
    (h : s = settling (imageOf 0) false ∨ s = settling (imageOf 1) false ∨ s = settling (imageOf 0) true ∨
      s = (settling (imageOf 0) true).setSvc { State.reset.svc with upstream := [report] }) :
    manages s 0x38 [] .resume ∧ s.mode = .reconciling ∧
      (∃ image, s.recon.image = some image ∧ imageFault s.time.now image = none) ∧ AccountsListed (mgmt 0x38 [] s) ∧
      SlotsListed (mgmt 0x38 [] s) ∧ QueuesCounted (mgmt 0x38 [] s) ∧ OvercommitExact (mgmt 0x38 [] s) ∧
      PoolOrder (mgmt 0x38 [] s) [17] := by
  unfold AccountsListed SlotsListed Table.Rising
  rcases h with rfl | rfl | rfl | rfl <;>
    refine ⟨manages_of ?_, ?_, ⟨_, rfl, ?_⟩, ?_, ?_, counted_of _ ?_ ?_ ?_ ?_ ?_, exact_of _ ?_ ?_, pools_of ?_⟩ <;> decide +kernel

/-- The outcomes: the overdue hold reclaimed and counted in the reply, the entry handed on by a drain, and a re-entry with its READY or
awaiting the REPORT. -/
theorem witness_ResumeFaultsOrApplies_settles :
    let r (s : State) := run .resume (mgmt 0x38 [] s)
    let body (s : State) : List ReplyBody := (r s).svc.upstream.filterMap (fun e => match e with | .reply _ _ m => some m.body | _ => none)
    let serve := settling (imageOf 0) false
    let drain := settling (imageOf 1) false
    let again := settling (imageOf 0) true
    let waits := again.setSvc { State.reset.svc with upstream := [report] }
    (body serve = [.resumed 1 true 0 0 .serving false 1] ∧ (r serve).holds.slots = [] ∧ ((r serve).acct 17).d = 4 ∧
        ((r serve).acct 17).h = 0 ∧ ((r serve).acct 17).reported = 0 ∧ (r serve).mgmt.stats.reclaims = 1) ∧
      (body drain = [.resumed 1 true 0 1 .draining false 1] ∧ (r drain).queues.entries = [] ∧
        (r drain).fwd.entries.map (fun e => e.key) = [other] ∧ (r drain).mgmt.stats.forwards = 1) ∧
      (body again = [.resumed 1 true 0 0 .serving true 0] ∧ (r again).mode = .reconciling ∧ (r again).holds.slots.length = 1 ∧
        ((r again).acct 17).reported = 5 ∧ ((r again).acct 17).peak = 1) ∧
      (body waits = [.resumed 1 true 0 0 .serving true 0] ∧ (r waits).mode = .entering ∧ (r waits).recon.image = none) := by
  decide +kernel

/-- A RESTART DYNAMIC with RESTARTED in the notify set and without it, the Farm intake queue paused. -/
theorem witness_RestartsAndResets_dynamic :
    let s := mgmt 0x26 [2] (farmFull 300 true)
    Quiet s ∧ s.farm.paused = true ∧ s.mgmt.notify.getLsbD 14 = false ∧ (run .restart s).svc.upstream = [] ∧
      (run .restart s).farm.pauseDue = [0] ∧ (run .restart s).svc.stats = PortStats.zero ∧ (run .restart s).farm.paused = false ∧
      (run .restart (s.setMgmt { s.mgmt with notify := 0x4000 })).svc.upstream =
        [UpEntry.event { dst := 1, src := 2, etype := 0x88B5 } 0x4000 .restarted 0] := by
  unfold Quiet
  decide +kernel

theorem witness_RestartsAndResets :
    (mgmt 0x26 [1] open17).headRequest = some (seat 0x26 [1], key, .restart 1) ∧
      (mgmt 0x26 [2] open17).headRequest = some (seat 0x26 [2], key, .restart 2) ∧
      (mgmt 0x26 [3] open17).headRequest = some (seat 0x26 [3], key, .restart 3) ∧
      SlotsListed (mgmt 0x26 [2] (held17 (holdOf 5 1 .active 0))) ∧ (State.reset.setResetLow true).resetLow = true ∧
      (run .restart (mgmt 0x26 [1] open17)).mode = .unconfigured ∧ (run .restart (mgmt 0x26 [2] open17)).mode = .serving ∧
      (run .restart (mgmt 0x26 [2] (held17 (holdOf 5 1 .active 0)))).holds = { slots := [], gens := [(0, 1)] } ∧
      (run (.lineReset false) ((open17).setResetLow true)).mgmt.cause = .lineReset ∧ (run .powerOnReset open17) = State.reset := by
  unfold SlotsListed Table.Rising
  decide +kernel

end Sys2Proof.Tests
end

section
/-! PROOFS. The Entitlement Matcher in the spec's terms: the match sets of the Feature Index, the group of a node, the validity window,
and the three stage lists of a CHECKOUT (R4, R7, R9 to R11). -/

namespace Sys2Proof

/-- In a rising table the listed pairs are what the keys read. -/
theorem Table.mem_iff_get? {α : Type} {t : Table α} (h : Table.Rising t) {k : Nat} {v : α} : (k, v) ∈ t ↔ Table.get? t k = some v :=
  ⟨fun hm => Table.get?_of_mem h hm, Table.get?_mem⟩

theorem Table.getD_put {α : Type} (t : Table α) (d : α) (k key : Nat) (v : α) :
    Table.getD (Table.put t k v) d key = if k = key then v else Table.getD t d key := by
  simp only [Table.getD, Table.get?_put]
  split <;> rfl

namespace Machine

/-! ### The Feature Index (R9) -/

/-- The pools of a bank's records that carry a feature, in the order the records are listed. -/
def poolsCarrying (records : Table PoolRecord) (feature : Nat) : List Nat :=
  (records.filter (fun e => decide (e.2.feature = feature))).map Prod.fst

theorem mem_poolsCarrying {records : Table PoolRecord} (h : Table.Rising records) (feature p : Nat) :
    p ∈ poolsCarrying records feature ↔ ∃ r, Table.get? records p = some r ∧ r.feature = feature := by
  simp [poolsCarrying, Table.mem_iff_get? h]

theorem poolsCarrying_rising {records : Table PoolRecord} (h : Table.Rising records) (feature : Nat) :
    (poolsCarrying records feature).Pairwise (· < ·) :=
  List.pairwise_map.2 (Table.rising_filter _ h)

theorem getD_indexAdd (index : Table (List Nat)) (e : Nat × PoolRecord) (feature : Nat) :
    Table.getD (indexAdd index e) [] feature =
      if e.2.feature = feature then Table.getD index [] feature ++ [e.1] else Table.getD index [] feature := by
  rw [indexAdd, Table.getD_put]
  split
  · next h => rw [h]
  · rfl

/-- Indexing more records appends, under each feature, the pools that carry it. -/
theorem getD_foldl_indexAdd (records : Table PoolRecord) (index : Table (List Nat)) (feature : Nat) :
    Table.getD (records.foldl indexAdd index) [] feature = Table.getD index [] feature ++ poolsCarrying records feature := by
  induction records generalizing index with
  | nil => simp [poolsCarrying]
  | cons e records ih =>
    rw [List.foldl_cons, ih, getD_indexAdd]
    by_cases h : e.2.feature = feature <;> simp [poolsCarrying, h]

theorem Bank.getD_index (b : Bank) (feature : Nat) : Table.getD b.index [] feature = poolsCarrying b.records feature := by
  rw [Bank.index, getD_foldl_indexAdd, Table.getD_nil, List.nil_append]

theorem State.matchSet_of_active {s : State} {b : Bank} (hi : IndexFollows s) (hb : s.banks.active = some b) (feature : Nat) :
    s.matchSet feature = poolsCarrying b.records feature := by
  rw [State.matchSet, show s.banks.index = b.index by rw [hi, hb]; rfl, Bank.getD_index]

theorem State.matchSet_of_no_active {s : State} (hi : IndexFollows s) (hb : s.banks.active = none) (feature : Nat) :
    s.matchSet feature = [] := by
  rw [State.matchSet, show s.banks.index = [] by rw [hi, hb]; rfl, Table.getD_nil]

theorem State.mem_matchSet {s : State} (hi : IndexFollows s) (hl : BanksListed s) (feature p : Nat) :
    p ∈ s.matchSet feature ↔ ∃ b r, s.banks.active = some b ∧ Table.get? b.records p = some r ∧ r.feature = feature := by
  cases hb : s.banks.active with
  | none => simp [State.matchSet_of_no_active hi hb]
  | some b => simp [State.matchSet_of_active hi hb, mem_poolsCarrying (hl.2 b hb)]

theorem State.matchSet_rising {s : State} (hi : IndexFollows s) (hl : BanksListed s) (feature : Nat) :
    (s.matchSet feature).Pairwise (· < ·) := by
  cases hb : s.banks.active with
  | none => simp [State.matchSet_of_no_active hi hb]
  | some b => exact State.matchSet_of_active hi hb feature ▸ poolsCarrying_rising (hl.2 b hb) feature

/-! ### Groups and windows (R7, R10) -/

/-- The range of a bank's Node Group Map that decides a node's group: the first loaded that contains the node (R10). -/
def Bank.rangeOf (b : Bank) (node : Word) : Option NodeRange :=
  b.ranges.find? (fun r => decide (r.low.toNat ≤ node.toNat ∧ node.toNat ≤ r.high.toNat))

theorem Bank.groupOf_eq (b : Bank) (node : Word) : b.groupOf node = ((b.rangeOf node).map NodeRange.group).getD 0 := by
  rw [Bank.groupOf, Bank.rangeOf]
  cases b.ranges.find? _ <;> rfl

theorem Bank.rangeOf_eq_none (b : Bank) (node : Word) : b.rangeOf node = none ↔ ∀ x ∈ b.ranges, ¬x.Has node := by
  simp [Bank.rangeOf, NodeRange.Has]

theorem Bank.rangeOf_eq_some (b : Bank) (node : Word) (r : NodeRange) :
    b.rangeOf node = some r ↔
      ∃ before after, b.ranges = before ++ r :: after ∧ (∀ x ∈ before, ¬x.Has node) ∧ r.Has node := by
  simp only [Bank.rangeOf, NodeRange.Has, List.find?_eq_some_iff_append, Bool.not_eq_true', decide_eq_true_eq, decide_eq_false_iff_not]
  exact ⟨fun ⟨hhas, before, after, hr, hbefore⟩ => ⟨before, after, hr, hbefore, hhas⟩,
    fun ⟨before, after, hr, hbefore, hhas⟩ => ⟨hhas, before, after, hr, hbefore⟩⟩

/-- The Node Group Map puts a node in one group, the one the Matcher computes. -/
theorem Bank.putsIn_iff (b : Bank) (node : Word) (group : Nat) : b.PutsIn node group ↔ group = b.groupOf node := by
  rw [Bank.groupOf_eq]
  constructor
  · rintro (⟨before, r, after, hr, hbefore, hhas, rfl⟩ | ⟨hnone, rfl⟩)
    · simp [(b.rangeOf_eq_some node r).2 ⟨before, after, hr, hbefore, hhas⟩]
    · simp [(b.rangeOf_eq_none node).2 hnone]
  · rintro rfl
    cases hrange : b.rangeOf node with
    | none => exact .inr ⟨(b.rangeOf_eq_none node).1 hrange, rfl⟩
    | some r =>
      obtain ⟨before, after, hr, hbefore, hhas⟩ := (b.rangeOf_eq_some node r).1 hrange
      exact .inl ⟨before, r, after, hr, hbefore, hhas, rfl⟩

theorem State.validOn_today_iff (s : State) (r : PoolRecord) : r.validOn s.today = true ↔ s.InWindow r := by
  by_cases h : s.time.source = .unset <;>
    simp [State.today, State.InWindow, h, PoolRecord.validOn, dayNumber, Config.dayMs]

/-! ### The stage lists (R11) -/

variable {s : State} {feature version p : Nat} {b : Bank} {r : PoolRecord}

theorem State.record_of_active (hb : s.banks.active = some b) (hr : Table.get? b.records p = some r) : s.record p = r := by
  simp [State.record, State.record?, hb, hr]

theorem State.Serves.record_eq (h : s.Serves feature version p b r) : s.record p = r := by
  obtain ⟨hb, hr, -⟩ := h
  exact State.record_of_active hb hr

theorem State.Serves.groupOf_eq (h : s.Serves feature version p b r) (node : Word) : s.groupOf node = b.groupOf node := by
  obtain ⟨hb, -⟩ := h
  simp [State.groupOf, hb]

theorem State.mem_versionMatched (hi : IndexFollows s) (hl : BanksListed s) (feature version p : Nat) :
    p ∈ s.versionMatched feature version ↔ ∃ b r, s.Serves feature version p b r := by
  rw [State.versionMatched, List.mem_filter, State.mem_matchSet hi hl]
  constructor
  · rintro ⟨⟨b, r, hb, hr, hf⟩, hv⟩
    rw [State.record_of_active hb hr] at hv
    exact ⟨b, r, hb, hr, hf, of_decide_eq_true hv⟩
  · rintro ⟨b, r, hs⟩
    have hrec := hs.record_eq
    obtain ⟨hb, hr, hf, hv⟩ := hs
    exact ⟨⟨b, r, hb, hr, hf⟩, hrec ▸ decide_eq_true hv⟩

theorem State.mem_eligible (hi : IndexFollows s) (hl : BanksListed s) (feature version p : Nat) (node : Word) :
    p ∈ s.eligible feature version node ↔
      ∃ b r g, s.Serves feature version p b r ∧ b.PutsIn node g ∧ r.groupMask.getLsbD g = true := by
  rw [State.eligible, List.mem_filter, State.mem_versionMatched hi hl]
  constructor
  · rintro ⟨⟨b, r, hs⟩, hg⟩
    rw [hs.record_eq, hs.groupOf_eq] at hg
    exact ⟨b, r, _, hs, (b.putsIn_iff node _).2 rfl, hg⟩
  · rintro ⟨b, r, g, hs, hp, hg⟩
    rw [(b.putsIn_iff node g).1 hp] at hg
    exact ⟨⟨b, r, hs⟩, by rwa [hs.record_eq, hs.groupOf_eq]⟩

theorem State.mem_candidates (hi : IndexFollows s) (hl : BanksListed s) (feature version p : Nat) (node : Word) :
    p ∈ s.candidates feature version node ↔
      ∃ b r g, s.Serves feature version p b r ∧ b.PutsIn node g ∧ r.groupMask.getLsbD g = true ∧ s.InWindow r := by
  rw [State.candidates, List.mem_filter, State.mem_eligible hi hl, State.validOn_today_iff]
  constructor
  · rintro ⟨⟨b, r, g, hs, hp, hg⟩, hw⟩
    exact ⟨b, r, g, hs, hp, hg, hs.record_eq ▸ hw⟩
  · rintro ⟨b, r, g, hs, hp, hg, hw⟩
    exact ⟨⟨b, r, g, hs, hp, hg⟩, hs.record_eq.symm ▸ hw⟩

/-- Every stage keeps pool-number order, for it only leaves pools of the match set out. -/
theorem State.candidates_rising (hi : IndexFollows s) (hl : BanksListed s) (feature version : Nat) (node : Word) :
    (s.candidates feature version node).Pairwise (· < ·) :=
  (((s.matchSet_rising hi hl feature).filter _).filter _).filter _

/-! ### The reason of an empty candidate list (R12) -/

theorem State.emptyReason_of_no_version (node : Word) (h : s.versionMatched feature version = []) :
    s.emptyReason feature version node = .noEntitlement := if_pos h

theorem State.emptyReason_of_no_group {node : Word} (hv : s.versionMatched feature version ≠ [])
    (he : s.eligible feature version node = []) : s.emptyReason feature version node = .notEligible := by
  rw [State.emptyReason, if_neg hv, if_pos he]

theorem State.emptyReason_of_eligible {node : Word} (he : s.eligible feature version node ≠ []) :
    s.emptyReason feature version node = .outOfWindow := by
  have hv : s.versionMatched feature version ≠ [] := fun h => he (by rw [State.eligible, h, List.filter_nil])
  rw [State.emptyReason, if_neg hv, if_neg he]

end Machine

end Sys2Proof
end

section
/-! PROOFS. The CHECKOUT up to the trial: the tests of R47 and R48 in their order, and the refusals they answer. -/

namespace Sys2Proof.Machine

/-! ### What the tests of a CHECKOUT see once its message has been taken -/

variable (s : State)

@[simp] theorem State.keyStands_takeMessage (f : Frame) (k : Key) : (s.takeMessage .farm f).keyStands k = s.keyStands k := by
  simp [State.keyStands]

@[simp] theorem State.acct_takeMessage (f : Frame) (p : Nat) : (s.takeMessage .farm f).acct p = s.acct p :=
  State.acct_congr (by simp) p

@[simp] theorem State.candidates_takeMessage (f : Frame) (feature version : Nat) (node : Word) :
    (s.takeMessage .farm f).candidates feature version node = s.candidates feature version node := by
  rw [(s.takeMessage_farm f).1]; rfl

@[simp] theorem State.emptyReason_takeMessage (f : Frame) (feature version : Nat) (node : Word) :
    (s.takeMessage .farm f).emptyReason feature version node = s.emptyReason feature version node := by
  rw [(s.takeMessage_farm f).1]; rfl

/-! ### The tests in their order (R47, R48) -/

variable {s} {c : CheckoutRequest}

theorem State.checkout_of_keyStands (h : s.keyStands c.key = true) : s.checkout c = s.answerRetry c .duplicateTag := if_pos h

theorem State.checkout_of_no_candidates (hk : s.keyStands c.key = false) (hc : s.candidatesOf c = []) :
    s.checkout c = s.answer c (.deny (s.emptyReason c.body.feature c.body.version c.key.node)) := by
  rw [State.candidatesOf] at hc
  simp [State.checkout, hk, hc]

theorem State.checkout_of_reconciling (hk : s.keyStands c.key = false) (hm : s.mode = .entering ∨ s.mode = .reconciling)
    (hd : ∃ p ∈ s.candidatesOf c, s.delegated p = true) : s.checkout c = s.answerRetry c .reconciling := by
  have hc : s.candidatesOf c ≠ [] := by
    obtain ⟨p, hp, -⟩ := hd
    exact List.ne_nil_of_mem hp
  have hr : s.checkoutReconciling c (s.candidatesOf c) = s.answerRetry c .reconciling := if_pos (List.any_eq_true.2 hd)
  rw [State.candidatesOf] at hc hr
  rcases hm with hm | hm <;> simp [State.checkout, hk, hc, hm, hr]

theorem State.checkout_of_autonomyPassed (hk : s.keyStands c.key = false) (hm : s.mode = .serving ∨ s.mode = .draining)
    (hc : s.candidatesOf c ≠ []) (ha : s.link.autonomyPassed = true) : s.checkout c = s.answerRetry c .autonomyExpired := by
  rw [State.candidatesOf] at hc
  rcases hm with hm | hm <;> simp [State.checkout, hk, hc, hm, State.checkoutServing, State.checkoutDraining, ha]

/-! ### Taking and answering -/

theorem exec_checkout (s : State) : exec .checkout s = execCheckout s := rfl

/-- In the states that do not bridge it, a CHECKOUT is taken and handed to the Request Processor (R40, R170). -/
theorem exec_checkout_of_taken {f : Frame} {k : Key} {b : CheckoutBody} (h : s.headMessage .farm = some (f, k, .checkout b))
    (hu : s.mode ≠ .unconfigured) (hf : s.mode ≠ .faultHold) :
    exec .checkout s = .next ((s.takeMessage .farm f).checkout { frame := f, key := k, body := b }) := by
  have hb : s.bridging = false := by simp [State.bridging, hu, hf]
  simp [exec_checkout, execCheckout, h, State.takeOrBridge, hb]

theorem State.denied_only (s : State) (c : CheckoutRequest) (reason : DenyReason) :
    AnsweredOnly s ((s.takeMessage .farm c.frame).answer c (.deny reason)) (addrsOf c.frame) c.key (.deny reason) :=
  s.answered_only c.frame (addrsOf c.frame) c.key (.deny reason)

/-- The retry hint of the answer is the one that stood before the message was taken (R45). -/
theorem State.retried_only (s : State) (c : CheckoutRequest) (reason : RetryReason) :
    AnsweredOnly s ((s.takeMessage .farm c.frame).answerRetry c reason) (addrsOf c.frame) c.key
      (.retry reason s.mgmt.params.retryHint) := by
  have hp : (s.takeMessage .farm c.frame).mgmt = s.mgmt := by simp
  rw [State.answerRetry, State.retry, hp]
  exact s.answered_only c.frame (addrsOf c.frame) c.key _

/-- Settles O27: the stage lists by the laws of the Feature Index, the Node Group Map and the window; each refusal by the equation of
`State.checkout` for the test that makes it. -/
theorem checkoutIsRefusedInOrder : Obligations.CheckoutIsRefusedInOrder := by
  unfold Obligations.CheckoutIsRefusedInOrder
  refine ⟨fun feature version node s hi hl => ⟨s.candidates_rising hi hl feature version node, fun p =>
    ⟨s.mem_versionMatched hi hl feature version p, s.mem_eligible hi hl feature version p node,
      s.mem_candidates hi hl feature version p node⟩⟩, ?_⟩
  intro f k b s hhead hunconf hfault
  rw [exec_checkout_of_taken hhead hunconf hfault]
  refine ⟨fun hk => ?duplicate, fun hk hc => ?denied, fun hk hm hd => ?reconciling, fun hk hm hc ha => ?autonomy⟩
  case duplicate =>
    rw [State.checkout_of_keyStands (by simpa using hk)]
    exact ⟨_, rfl, s.retried_only _ _⟩
  case denied =>
    rw [State.checkout_of_no_candidates (by simpa using hk) (by simpa [State.candidatesOf] using hc)]
    refine ⟨_, _, rfl, s.denied_only _ _, ?_⟩
    simp only [State.emptyReason_takeMessage]
    exact ⟨State.emptyReason_of_no_version k.node, State.emptyReason_of_no_group, State.emptyReason_of_eligible⟩
  case reconciling =>
    rw [State.checkout_of_reconciling (by simpa using hk) (by simpa using hm)
      (by simpa [State.candidatesOf, State.delegated] using hd)]
    exact ⟨_, rfl, s.retried_only _ _⟩
  case autonomy =>
    rw [State.checkout_of_autonomyPassed (by simpa using hk) (by simpa using hm) (by simpa [State.candidatesOf] using hc)
      (by simpa using ha)]
    exact ⟨_, rfl, s.retried_only _ _⟩

end Sys2Proof.Machine
end

section
/-! PROOFS. The figures of a request and of a pool: the demand, the allowance and the ceilings, the free tokens, and the fit and
admission tests (R25 to R29). -/

namespace Sys2Proof.Machine

/-! ### The demand of a request (R25, R26) -/

theorem multiplier_of_coreStep_eq_zero {r : PoolRecord} (h : r.coreStep = 0) (cores : Nat) : multiplier r cores = 1 := if_pos h

theorem multiplier_of_coreStep_ne_zero {r : PoolRecord} (h : r.coreStep ≠ 0) (cores : Nat) :
    multiplier r cores = min r.coreCap ((cores + r.coreStep - 1) / r.coreStep) := if_neg h

theorem demand_clamped (r : PoolRecord) (seats cores : Nat) :
    demand r (clampSeats seats) (clampCores cores) =
      min 16 (max 1 seats) * r.tokensPerSeat *
        (if r.coreStep = 0 then 1 else min r.coreCap ((min 1024 (max 1 cores) + r.coreStep - 1) / r.coreStep)) := by
  rw [demand, clampSeats, clampCores, clamp, clamp]
  split
  · next h => rw [multiplier_of_coreStep_eq_zero h]
  · next h => rw [multiplier_of_coreStep_ne_zero h]

/-! ### Allowance and ceilings (R27, R28) -/

section

variable {s : State} {p : Nat}

/-- The top of the allowance: 65535 × 500 / 1000, rounded down. -/
theorem State.allowance_le (hd : (s.acct p).d ≤ 65535) (ho : (s.record p).overdraft ≤ 500) : s.allowance p ≤ 32767 := by
  have hprod : (s.acct p).d * (s.record p).overdraft ≤ 65535 * 500 := Nat.mul_le_mul hd ho
  rw [State.allowance]
  omega

theorem State.ceiling_le (hd : (s.acct p).d ≤ 65535) (ho : (s.record p).overdraft ≤ 500) : s.ceiling p ≤ 98302 :=
  Nat.add_le_add hd (State.allowance_le hd ho)

theorem State.effectiveCeiling_of_absent (h : (s.acct p).state = .absent) : s.effectiveCeiling p = 0 := by
  rw [State.effectiveCeiling, h]

/-- The link state does not bear on a pool that the service has given over alone. -/
theorem State.effectiveCeiling_of_sole (h : (s.acct p).state = .sole ∨ (s.acct p).state = .soleChanged) :
    s.effectiveCeiling p = s.ceiling p := by
  rcases h with h | h <;> rw [State.effectiveCeiling, h]

theorem State.effectiveCeiling_of_shared (h : (s.acct p).state = .shared) :
    s.effectiveCeiling p = if s.link.state = .lost then (s.acct p).d else s.ceiling p := by
  rw [State.effectiveCeiling, h]

end

/-! ### Free tokens, the fit test and the admission test (R28, R29) -/

variable (s : State) (p : Nat)

/-- Free tokens are the signed difference where it is positive. -/
theorem State.free_eq_max : (s.free p : Int) = max 0 ((s.effectiveCeiling p : Int) - (s.acct p).h) := by
  rw [State.free]
  omega

theorem State.fits_iff (tokens : Nat) :
    s.fits p tokens = true ↔ (tokens : Int) ≤ (s.effectiveCeiling p : Int) - (s.acct p).h := by
  rw [State.fits, decide_eq_true_iff]
  omega

theorem State.headYoung_iff (head : WaitEntry) : s.headYoung p head = true ↔ s.HeadYields p head := decide_eq_true_iff

variable {s p} in
theorem State.queueOpen_of_empty (h : s.poolQueue p = []) : s.queueOpen p = true := by
  rw [State.queueOpen, h]

theorem State.queueOpen_iff :
    s.queueOpen p = true ↔ ∀ head, (s.poolQueue p).head? = some head → s.HeadYields p head := by
  cases h : s.poolQueue p with
  | nil => simp [State.queueOpen_of_empty h]
  | cons head rest => simp [State.queueOpen, h, State.headYoung_iff]

theorem State.admits_iff (tokens : Nat) :
    s.admits p tokens = true ↔
      (tokens : Int) ≤ (s.effectiveCeiling p : Int) - (s.acct p).h ∧
        ∀ head, (s.poolQueue p).head? = some head → s.HeadYields p head := by
  rw [State.admits, Bool.and_eq_true, State.fits_iff, State.queueOpen_iff]

/-- Settles O36: each figure by its own law; those that are the model's definitions word for word (the allowance, the ceiling, the
epoch number) by `rfl`. -/
theorem figuresFollowTheirRules : Obligations.FiguresFollowTheirRules := by
  unfold Obligations.FiguresFollowTheirRules
  refine ⟨demand_clamped, fun s p => ?_⟩
  have hallowance : s.allowance p = (s.acct p).d * (s.record p).overdraft / 1000 := rfl
  have hceiling : s.ceiling p = (s.acct p).d + s.allowance p := rfl
  have hepoch : ∀ now period, epochNumber now period = now / (period * 1000) % 2 ^ 32 := fun _ _ => rfl
  exact ⟨hallowance, hceiling, fun hd ho => ⟨State.allowance_le hd ho, State.ceiling_le hd ho⟩,
    State.effectiveCeiling_of_absent, State.effectiveCeiling_of_sole, State.effectiveCeiling_of_shared,
    s.free_eq_max p, s.fits_iff p, s.admits_iff p, State.queueOpen_of_empty, s.headYoung_iff p, hepoch⟩

end Sys2Proof.Machine
end

section
/-! PROOFS. Facts about lists that the proofs below share and that core Lean does not state. -/

namespace Sys2Proof.Machine

/-- Where the images of a list stand once, its members are told apart by them. -/
theorem eq_of_nodup_map {α β : Type} {f : α → β} {l : List α} (h : (l.map f).Nodup) {a b : α} (ha : a ∈ l) (hb : b ∈ l)
    (hab : f a = f b) : a = b := by
  induction l with
  | nil => cases ha
  | cons c l ih =>
    obtain ⟨hc, hl⟩ := List.nodup_cons.1 h
    rcases List.mem_cons.1 ha with hac | hal <;> rcases List.mem_cons.1 hb with hbc | hbl
    · exact hac.trans hbc.symm
    · exact absurd (hac ▸ hab ▸ List.mem_map_of_mem hbl) hc
    · exact absurd (hbc ▸ hab ▸ List.mem_map_of_mem hal) hc
    · exact ih hl hal hbl

theorem nodup_of_nodup_map {α β : Type} {f : α → β} {l : List α} (h : (l.map f).Nodup) : l.Nodup :=
  (List.pairwise_map.1 h).imp fun hne hab => hne (congrArg f hab)

theorem flatMap_eq_of_forall_mem {α β : Type} {f g : α → List β} {l : List α} (h : ∀ a ∈ l, f a = g a) : l.flatMap f = l.flatMap g := by
  rw [List.flatMap_def, List.flatMap_def, List.map_congr_left h]

end Sys2Proof.Machine
end

section
/-! PROOFS. What one command can do, said once: every command but the restarts is a run of moves, each with the conditions under
which the model makes it. The invariants are then facts about single moves. -/

namespace Sys2Proof.Machine

/-! ### Moves -/

/-- What is under way within one command and at rest between commands: a management request not yet answered (R184), the places kept for
the reports of charges (R108), the pools whose overcommit flag awaits its re-evaluation (R31), the pool that a REVOKE strips (R114). -/
structure Underway where
  managing : Bool
  kept : Nat
  unflagged : List Nat
  stripping : Option Nat

/-- Nothing is under way. -/
def Underway.rest : Underway := { managing := false, kept := 0, unflagged := [], stripping := none }

/-- A management request is being carried out. -/
def Underway.request : Underway := { managing := true, kept := 0, unflagged := [], stripping := none }

/-- One pool more awaits its re-evaluation. -/
def Underway.awaiting (g : Underway) (p : Nat) : Underway := { g with unflagged := p :: g.unflagged }

/-- What a command may count on from the state that it began in: that request keys stand once, that the slots are listed, and that
no tokens move (R81, R65, R156). -/
structure Given where
  keys : Prop
  slots : Prop
  frozen : Prop

/-- The parts of the state that the invariants speak of are the same. -/
structure SameCore (s t : State) : Prop where
  accounts : t.accounts = s.accounts
  slots : t.holds.slots = s.holds.slots
  active : t.banks.active = s.banks.active
  shadow : t.banks.shadow = s.banks.shadow
  index : t.banks.index = s.banks.index
  link : t.link.state = s.link.state
  entries : t.queues.entries = s.queues.entries
  forwards : t.fwd.entries = s.fwd.entries
  upstream : t.svc.upstream = s.svc.upstream
  serviceIntake : t.svc.intake = s.svc.intake
  farmIntake : t.farm.intake = s.farm.intake
  paused : t.farm.paused = s.farm.paused
  replies : t.farm.replies = s.farm.replies
  now : t.time.now = s.time.now
  reserved : t.reserved = s.reserved
  deferred : t.deferred = s.deferred

/-- The figures of an account that the invariants speak of are the same. -/
structure SameFigures (a b : Account) : Prop where
  state : a.state = b.state
  d : a.d = b.d
  h : a.h = b.h
  holdCount : a.holdCount = b.holdCount
  queueLength : a.queueLength = b.queueLength
  peak : a.peak = b.peak
  overcommit : a.overcommit = b.overcommit

/-- A hold's use count agrees with its state (R63). -/
def Hold.Used (h : Hold) : Prop :=
  (h.state = .lingering → h.useCount = 0) ∧ (h.state ≠ .lingering → 1 ≤ h.useCount ∧ h.useCount ≤ 255)

/-- The count that a link state holds is 1 or 2 (R140). -/
def LinkState.Counted (l : LinkState) : Prop :=
  (∀ o n, l = .arming o n → n = 1 ∨ n = 2) ∧ ∀ n, l = .suspect n → n = 1 ∨ n = 2

/-- One move of the machine within a command, with what is under way before and after it. -/
inductive Move (G : Given) : Underway → State → Underway → State → Prop
  /-- Something that no invariant speaks of changes. -/
  | still {g : Underway} {s t : State} (h : SameCore s t) : Move G g s g t
  /-- An entry that is no seat traffic finds room (R178). -/
  | pushOther {g : Underway} {s : State} (e : UpEntry) (he : e.seatTraffic = false) (hr : s.mgmtRoom = true) : Move G g s g (s.pushUp e)
  /-- An entry of seat traffic finds room (R178). -/
  | pushSeat {g : Underway} {s : State} (e : UpEntry) (he : e.seatTraffic = true) (hr : s.seatRoom = true) (hk : g.kept = 0) :
      Move G g s g (s.pushUp e)
  /-- The Service Port sends (R176). -/
  | depart {g : Underway} {s : State} (v : ServicePort) (hu : v.upstream <:+ s.svc.upstream) (hi : v.intake = s.svc.intake) :
      Move G g s g (s.setSvc v)
  /-- A place is kept for the report of a charge (R108). -/
  | keepPlace {g : Underway} {s : State} (hr : s.seatRoom = true) (hk : g.kept = 0) :
      Move G g s { g with kept := 1 } (s.setReserved (s.reserved + 1))
  /-- The report of a charge takes the place kept for it (R108). -/
  | usePlace {g : Underway} {s : State} (e : UpEntry) (he : e.seatTraffic = true) (hk : g.kept = 0) :
      Move G { g with kept := 1 } s g ((s.setReserved (s.reserved - 1)).pushUp e)
  /-- A management request is taken with room for its reply (R184). -/
  | beginRequest {s : State} (hr : s.mgmtRoom = true) : Move G .rest s .request ((s.setReserved 1).setDeferred (some []))
  /-- An EVENT notice waits for the reply of the request under way (R184). -/
  | defer {g : Underway} {s : State} (l : List UpEntry) (e : UpEntry) (hd : s.deferred = some l) (he : e.seatTraffic = false) :
      Move G g s g (s.setDeferred (some (l ++ [e])))
  /-- A management request is answered, its notices behind the reply (R184). -/
  | answer {s : State} (k : Key) (r : MgmtReply) : Move G .request s .rest (s.answerMgmt k r)
  /-- Statistics and flags of an account are written. -/
  | restat {g : Underway} {s : State} (p : Nat) (a : Account) (h : SameFigures a (s.acct p)) : Move G g s g (s.setAcct p a)
  /-- Statistics and flags of every account are written. -/
  | restatAll {g : Underway} {s : State} (f : Account → Account) (h : ∀ a, SameFigures (f a) a) (hc : f .cleared = .cleared) :
      Move G g s g (s.setAccounts (Table.mapD s.accounts Account.cleared f))
  /-- A pool is settled (R100). -/
  | settle {g : Underway} {s : State} (p : Nat) (hf : ¬G.frozen) : Move G g s g (s.modAcct p Account.settled)
  /-- A pool is to be re-evaluated (R31). -/
  | await {g : Underway} {s : State} (p : Nat) : Move G g s (g.awaiting p) s
  /-- A pool's overcommit flag is found exact (R31). -/
  | flagExact {g : Underway} {s : State} (p : Nat) (h : (s.acct p).overcommit = decide (s.effectiveCeiling p < (s.acct p).h)) :
      Move G (g.awaiting p) s g s
  /-- A pool's overcommit flag is made exact (R31). -/
  | flag {g : Underway} {s : State} (p : Nat) (b : Bool) (h : b = decide (s.effectiveCeiling p < (s.acct p).h)) :
      Move G (g.awaiting p) s g (s.modAcct p (fun a => { a with overcommit := b }))
  /-- A pool is given D and a mode (R102, R103). -/
  | delegate {g : Underway} {s : State} (p d : Nat) (m : DelegationState) (hm : m ≠ .absent) (hf : ¬G.frozen) :
      Move G g s (g.awaiting p) (s.modAcct p (fun a => a.delegated d m))
  /-- The link changes its state, on one side of LOST (R142, R143). -/
  | relink {g : Underway} {s : State} (l : LinkState) (hl : l.Counted) (hk : l = .lost ↔ s.link.state = .lost) :
      Move G g s g (s.setLinkState l)
  /-- The link enters or leaves LOST, and the SHARED pools are to be re-evaluated (R145, R146). -/
  | crossLost {g : Underway} {s : State} (l : LinkState) (hl : l.Counted) :
      Move G g s { g with unflagged := s.sharedPools ++ g.unflagged } (s.setLinkState l)
  /-- SHADOW is written (R15, R123, R124). -/
  | load {g : Underway} {s : State} (b : Bank) (h : Table.Rising s.banks.shadow.records → Table.Rising b.records) :
      Move G g s g (s.setBanks { s.banks with shadow := b })
  /-- SHADOW becomes ACTIVE, and every pool with an account is to be re-evaluated (R129). -/
  | switch {g : Underway} {s : State} : Move G g s { g with unflagged := s.livePools ++ g.unflagged } (s.setBanks s.banks.switched)
  /-- A hold is created in the lowest free slot and charged (R50, R65). -/
  | newHold {g : Underway} {s : State} (h : Hold) (hn : s.tableFull = false) (hu : h.Used) (hf : ¬G.frozen) :
      Move G g s (g.awaiting h.pool) ((s.putHold s.lowestSlot h).modAcct h.pool (fun a => a.charged h.tokens 1))
  /-- A hold is upgraded and its delta charged (R51). -/
  | upgrade {g : Underway} {s : State} (slot : Nat) (h : Hold) (tokens interval deadline : Nat) (hm : (slot, h) ∈ s.holds.slots)
      (hu : h.useCount ≠ 255) (ht : h.tokens ≤ tokens) (hf : ¬G.frozen) :
      Move G g s (g.awaiting h.pool)
        ((s.putHold slot (h.joined tokens interval deadline)).modAcct h.pool (fun a => a.charged (tokens - h.tokens) 0))
  /-- A hold is rewritten with its pool and tokens (R51, R56, R58, R68). -/
  | rehold {g : Underway} {s : State} (slot : Nat) (h h' : Hold) (hm : (slot, h) ∈ s.holds.slots) (hp : h'.pool = h.pool)
      (ht : h'.tokens = h.tokens) (hu : h.Used → h'.Used) : Move G g s g (s.putHold slot h')
  /-- Every hold is rewritten with its pool and tokens (R72, R74). -/
  | reholdAll {g : Underway} {s : State} (f : Hold → Hold) (hp : ∀ h, (f h).pool = h.pool) (ht : ∀ h, (f h).tokens = h.tokens)
      (hu : ∀ h : Hold, h.Used → (f h).Used) :
      Move G g s g (s.setHolds { s.holds with slots := s.holds.slots.map (fun e => (e.1, f e.2)) })
  /-- A hold is removed and its tokens credited (R67). -/
  | remove {g : Underway} {s : State} (slot : Nat) (h : Hold) (hm : G.slots → (slot, h) ∈ s.holds.slots) (hf : ¬G.frozen) :
      Move G g s (g.awaiting h.pool) ((s.freeSlot slot).modAcct h.pool (fun a => a.credited h.tokens))
  /-- A REVOKE begins to strip a pool (R114). -/
  | beginStrip {g : Underway} {s : State} (p : Nat) (hg : g.stripping = none) : Move G g s { g with stripping := some p } s
  /-- A hold of the pool being stripped is taken away (R114). -/
  | takeAway {g : Underway} {s : State} (p slot : Nat) (hg : g.stripping = some p)
      (hm : G.slots → ∀ h, (slot, h) ∈ s.holds.slots → h.pool = p) : Move G g s g (s.freeSlot slot)
  /-- The stripped pool's account is cleared (R114). -/
  | endStrip {g : Underway} {s : State} (p : Nat) (hg : g.stripping = none) (hh : G.slots → s.holdsOf p = [])
      (hq : G.keys → s.poolQueue p = []) (hf : ¬G.frozen) :
      Move G { g with stripping := some p } s g (s.setAcct p Account.cleared)
  /-- An entry joins its pool's queue (R54). -/
  | enqueue {g : Underway} {s : State} (e : WaitEntry) (hk : s.keyStands e.key = false)
      (hl : s.queues.entries.length < Config.waitPlaces) : Move G g s g (s.enqueue e)
  /-- An entry leaves the store (R82). -/
  | unlink {g : Underway} {s : State} (e : WaitEntry) (hm : G.keys → e ∈ s.queues.entries) : Move G g s g (s.unlink e)
  /-- An entry leaves the store and becomes a forward (R96). -/
  | handOn {g : Underway} {s : State} (e : WaitEntry) (f : Forward) (hk : f.key = e.key) (hm : G.keys → e ∈ s.queues.entries) :
      Move G g s g ((s.unlink e).setFwd { s.fwd with entries := s.fwd.entries ++ [f] })
  /-- A forward is created (R116). -/
  | forward {g : Underway} {s : State} (f : Forward) (hk : s.keyStands f.key = false) :
      Move G g s g (s.setFwd { s.fwd with entries := s.fwd.entries ++ [f] })
  /-- Forwards leave the Forwarding Table (R117, R118, R120). -/
  | unforward {g : Underway} {s : State} (v : Delegation) (h : v.entries.Sublist s.fwd.entries) : Move G g s g (s.setFwd v)
  /-- Every entry is rewritten under its key and pool (R93). -/
  | reenqueue {g : Underway} {s : State} (f : WaitEntry → WaitEntry) (hk : ∀ e, (f e).key = e.key) (hp : ∀ e, (f e).pool = e.pool) :
      Move G g s g (s.setQueues { s.queues with entries := s.queues.entries.map f })
  /-- Every forward is rewritten under its key (R119). -/
  | reforward {g : Underway} {s : State} (f : Forward → Forward) (hk : ∀ e, (f e).key = e.key) :
      Move G g s g (s.setFwd { s.fwd with entries := s.fwd.entries.map f })
  /-- Engine time moves on (R131). -/
  | retime {g : Underway} {s : State} (v : Timebase) (h : s.time.now ≤ v.now) : Move G g s g (s.setTime v)
  /-- A frame for the farm joins the Farm Reply Queue or is dropped (R177). -/
  | offerFarm {g : Underway} {s : State} (e : FarmEntry) : Move G g s g (s.offerFarm e)
  /-- The Farm Port sends (R176). -/
  | farmSends {g : Underway} {s : State} (v : FarmPort) (hr : v.replies <:+ s.farm.replies) (hi : v.intake = s.farm.intake)
      (hp : v.paused = s.farm.paused) : Move G g s g (s.setFarm v)
  /-- The head leaves an intake queue (R171). -/
  | popIntake {g : Underway} {s : State} (port : Port) : Move G g s g (s.popIntake port)
  /-- A frame joins an intake queue that has a place for it (R171). -/
  | pushIntake {g : Underway} {s : State} (port : Port) (f : Frame) (h : (s.intake port).length < intakeCapacity port) :
      Move G g s g (s.pushIntake port f)

/-- A run of moves. -/
inductive Runs (G : Given) : Underway → State → Underway → State → Prop
  | refl {g : Underway} {s : State} : Runs G g s g s
  | tail {g g' g'' : Underway} {s t u : State} (r : Runs G g s g' t) (m : Move G g' t g'' u) : Runs G g s g'' u

section

variable {G : Given} {g g' g'' : Underway} {s t u : State}

theorem Move.runs (m : Move G g s g' t) : Runs G g s g' t := .tail .refl m

theorem Runs.trans (a : Runs G g s g' t) (b : Runs G g' t g'' u) : Runs G g s g'' u := by
  induction b with
  | refl => exact a
  | tail _ m ih => exact (ih a).tail m

/-- What every move keeps, a run keeps. -/
theorem Runs.keeps {P : Underway → State → Prop} (hP : ∀ {g s g' t}, Move G g s g' t → P g s → P g' t) (r : Runs G g s g' t)
    (h : P g s) : P g' t := by
  induction r with
  | refl => exact h
  | tail _ m ih => exact hP m (ih h)

theorem SameCore.refl : SameCore s s := by constructor <;> rfl

theorem SameCore.runs (h : SameCore s t) : Runs G g s g t := (Move.still h).runs

/-- A fold of operations, each a run from the state that it finds. -/
theorem Runs.foldl {α : Type} (f : State → α → State) (l : List α) (h : ∀ s, ∀ a ∈ l, Runs G g s g (f s a)) :
    Runs G g s g (l.foldl f s) := by
  induction l generalizing s with
  | nil => exact .refl
  | cons a l ih => exact (h s a (List.mem_cons_self ..)).trans (ih fun s b hb => h s b (List.mem_cons_of_mem _ hb))

end

end Sys2Proof.Machine
end

section
/-! PROOFS. What every move keeps of the request keys and of the slots' order (R65, R81). -/

namespace Sys2Proof.Machine

variable {G : Given} {g g' : Underway} {s t : State}

@[simp] theorem State.pushIntake_kept (s : State) (port : Port) (f : Frame) :
    (s.pushIntake port f).pending = s.pending ∧ (s.pushIntake port f).clk = s.clk ∧ (s.pushIntake port f).resetLow = s.resetLow ∧
    (s.pushIntake port f).mode = s.mode ∧ (s.pushIntake port f).banks = s.banks ∧ (s.pushIntake port f).accounts = s.accounts ∧
    (s.pushIntake port f).holds = s.holds ∧ (s.pushIntake port f).queues = s.queues ∧ (s.pushIntake port f).fwd = s.fwd ∧
    (s.pushIntake port f).time = s.time ∧ (s.pushIntake port f).link = s.link ∧ (s.pushIntake port f).recon = s.recon ∧
    (s.pushIntake port f).mgmt = s.mgmt ∧ (s.pushIntake port f).reserved = s.reserved ∧
    (s.pushIntake port f).deferred = s.deferred := by
  cases port <;> simp [State.pushIntake]

/-! ### Keys -/

theorem KeysUnique.congr (h : KeysUnique s) (he : t.queues.entries = s.queues.entries) (hf : t.fwd.entries = s.fwd.entries) :
    KeysUnique t := by rwa [KeysUnique, he, hf]

theorem KeysUnique.entries_nodup (h : KeysUnique s) : (s.queues.entries.map (fun e => e.key)).Nodup := (List.nodup_append.1 h).1

/-- Where keys stand once, erasing by key leaves exactly the entries of other keys. -/
theorem eraseP_key_eq_filter (k : Key) : ∀ {l : List WaitEntry}, (l.map (fun e => e.key)).Nodup →
    l.eraseP (fun x => x.key = k) = l.filter (fun x => x.key ≠ k)
  | [], _ => rfl
  | a :: l, h => by
    rw [List.map_cons, List.nodup_cons] at h
    by_cases ha : a.key = k
    · have hl : ∀ x ∈ l, x.key ≠ k := fun x hx hk => h.1 (ha ▸ hk ▸ List.mem_map_of_mem hx)
      have hf : l.filter (fun x => decide (x.key ≠ k)) = l := List.filter_eq_self.2 fun x hx => by simpa using hl x hx
      simp only [ne_eq, decide_not] at hf
      simp [ha, hf]
    · simp only [ha, decide_false, Bool.false_eq_true, not_false_eq_true, List.eraseP_cons_of_neg, ne_eq, decide_not, Bool.not_false,
        List.filter_cons_of_pos, List.cons.injEq, true_and]
      simpa using eraseP_key_eq_filter k h.2

theorem State.keyStands_eq_false {k : Key} :
    s.keyStands k = false ↔ (∀ e ∈ s.queues.entries, e.key ≠ k) ∧ ∀ e ∈ s.fwd.entries, e.key ≠ k := by
  simp [State.keyStands]

@[simp] theorem State.entries_unlink (s : State) (e : WaitEntry) :
    (s.unlink e).queues.entries = s.queues.entries.eraseP (fun x => x.key = e.key) := by simp [State.unlink]

@[simp] theorem State.entries_enqueue (s : State) (e : WaitEntry) :
    (s.enqueue e).queues.entries = s.queues.entries ++ [e] := by simp [State.enqueue]

theorem keys_eraseP_sublist (k : Key) (l : List WaitEntry) :
    ((l.eraseP (fun x => x.key = k)).map (fun e => e.key)).Sublist (l.map (fun e => e.key)) :=
  List.eraseP_sublist.map _

theorem KeysUnique.of_sublist (h : KeysUnique s)
    (he : (t.queues.entries.map (fun e => e.key)).Sublist (s.queues.entries.map (fun e => e.key)))
    (hf : (t.fwd.entries.map (fun e => e.key)).Sublist (s.fwd.entries.map (fun e => e.key))) : KeysUnique t :=
  h.sublist (he.append hf)

/-- No move lets a request key stand twice (R81, R116). -/
theorem Move.keysUnique (hG : G.keys) (m : Move G g s g' t) (h : KeysUnique s) : KeysUnique t := by
  cases m with
  | still hc => exact h.congr hc.entries hc.forwards
  | enqueue e hk hl =>
    rw [State.keyStands_eq_false] at hk
    simp only [KeysUnique, State.entries_enqueue, State.enqueue_kept, List.map_append, List.map_cons, List.map_nil, List.append_assoc]
    refine (List.perm_middle (a := e.key)).nodup_iff.2 (List.nodup_cons.2 ⟨?_, h⟩)
    simpa using ⟨hk.1, hk.2⟩
  | unlink e hm => exact h.of_sublist (by simpa using keys_eraseP_sublist e.key _) (by simp)
  | handOn e f hk hm =>
    have hn := h.entries_nodup
    simp only [KeysUnique, State.setFwd_queues, State.entries_unlink, State.setFwd_fwd, List.map_append, List.map_cons, List.map_nil, hk,
      ← List.append_assoc]
    refine (List.perm_append_singleton ..).nodup_iff.2 (List.nodup_cons.2 ⟨?_, ?_⟩)
    · rw [eraseP_key_eq_filter _ hn, List.mem_append, not_or]
      refine ⟨by simp, fun hf => ?_⟩
      exact (List.nodup_append.1 h).2.2 _ (List.mem_map_of_mem (hm hG)) _ hf rfl
    · exact h.sublist ((keys_eraseP_sublist ..).append (List.Sublist.refl _))
  | forward f hk =>
    rw [State.keyStands_eq_false] at hk
    simp only [KeysUnique, State.setFwd_queues, State.setFwd_fwd, List.map_append, List.map_cons, List.map_nil, ← List.append_assoc]
    refine (List.perm_append_singleton ..).nodup_iff.2 (List.nodup_cons.2 ⟨?_, h⟩)
    simpa using ⟨hk.1, hk.2⟩
  | unforward v hv => exact h.of_sublist (by simp) (by simpa using hv.map _)
  | reenqueue f hk hp => exact h.of_sublist (by simp [Function.comp_def, hk]) (by simp)
  | reforward f hk => exact h.of_sublist (by simp) (by simp [Function.comp_def, hk])
  | _ => exact h.congr (by simp) (by simp)

theorem Runs.keysUnique (r : Runs G g s g' t) (h : G.keys → KeysUnique s) : G.keys → KeysUnique t := fun hG =>
  r.keeps (P := fun _ s => KeysUnique s) (fun m => m.keysUnique hG) (h hG)

/-! ### Slots -/

theorem Table.lowestFree_le {α : Type} (n : Nat) (t : Table α) : Table.lowestFree n t ≤ n + t.length := by
  induction t generalizing n with
  | nil => simp [Table.lowestFree]
  | cons e t ih =>
    obtain ⟨k, v⟩ := e
    simp only [Table.lowestFree]
    split
    · have := ih (n + 1); simp only [List.length_cons]; omega
    · simp

/-- The lowest free number is no key of a rising table. -/
theorem Table.lowestFree_free {α : Type} {t : Table α} (h : Table.Rising t) : ∀ n, (∀ e ∈ t, n ≤ e.1) →
    ∀ e ∈ t, e.1 ≠ Table.lowestFree n t := by
  induction t with
  | nil => simp
  | cons e t ih =>
    obtain ⟨k, v⟩ := e
    intro n hn x hx
    rw [Table.rising_cons] at h
    simp only [Table.lowestFree]
    split
    · next hk =>
      have hge : n + 1 ≤ Table.lowestFree (n + 1) t := by
        clear ih hn hx h
        generalize n + 1 = m
        induction t generalizing m with
        | nil => simp [Table.lowestFree]
        | cons e t ih =>
          simp only [Table.lowestFree]
          split
          · exact Nat.le_trans (Nat.le_succ m) (ih (m + 1))
          · exact Nat.le_refl m
      rcases List.mem_cons.1 hx with rfl | hx
      · simp only; omega
      · exact ih h.2 (n + 1) (fun e he => by have := h.1 e he; simp at this; omega) x hx
    · next hk =>
      have hkn := hn (k, v) (List.mem_cons_self ..)
      simp only at hkn
      rcases List.mem_cons.1 hx with rfl | hx
      · exact hk
      · have := h.1 x hx; simp at this; omega

theorem State.lowestSlot_lt (h : s.tableFull = false) : s.lowestSlot < Config.holdSlots := by
  have := Table.lowestFree_le 0 s.holds.slots
  have hl : ¬Config.holdSlots ≤ s.holds.slots.length := of_decide_eq_false h
  rw [State.lowestSlot]
  omega

theorem SlotsListed.congr (h : SlotsListed s) (hs : t.holds.slots = s.holds.slots) : SlotsListed t := by rwa [SlotsListed, hs]

theorem SlotsListed.put (h : SlotsListed s) {slot : Nat} {x : Hold} (hl : slot < Config.holdSlots)
    (ht : t.holds.slots = Table.put s.holds.slots slot x) : SlotsListed t := by
  refine ⟨ht ▸ Table.rising_put slot x h.1, fun e he => ?_⟩
  rcases Table.mem_put (ht ▸ he) with rfl | he
  · exact hl
  · exact h.2 e he

theorem SlotsListed.remove (h : SlotsListed s) {slot : Nat} (ht : t.holds.slots = Table.remove s.holds.slots slot) : SlotsListed t :=
  ⟨ht ▸ Table.rising_remove slot h.1, fun e he => h.2 e (List.mem_filter.1 (ht ▸ he)).1⟩

theorem Table.rising_map {α : Type} {t : Table α} (f : α → α) (h : Table.Rising t) : Table.Rising (t.map (fun e => (e.1, f e.2))) :=
  List.pairwise_map.2 h

@[simp] theorem State.slots_putHold (s : State) (slot : Nat) (x : Hold) :
    (s.putHold slot x).holds.slots = Table.put s.holds.slots slot x := by simp [State.putHold]

@[simp] theorem State.slots_freeSlot (s : State) (slot : Nat) :
    (s.freeSlot slot).holds.slots = Table.remove s.holds.slots slot := by simp [State.freeSlot]

/-- Every move keeps the slots listed (R63, R65). -/
theorem Move.slotsListed (m : Move G g s g' t) (h : SlotsListed s) : SlotsListed t := by
  cases m with
  | still hc => exact h.congr hc.slots
  | newHold x hn hu hf => exact h.put (State.lowestSlot_lt hn) rfl
  | upgrade slot x tokens interval deadline hm hu ht hf => exact h.put (h.2 _ hm) rfl
  | rehold slot x x' hm hp ht hu => exact h.put (h.2 _ hm) rfl
  | reholdAll f hp ht hu =>
    refine ⟨Table.rising_map f h.1, fun e he => ?_⟩
    obtain ⟨x, hx, rfl⟩ := List.mem_map.1 he
    exact h.2 x hx
  | remove slot x hm hf => exact h.remove rfl
  | takeAway p slot hg hm => exact h.remove rfl
  | _ => exact h.congr (by simp)

theorem Runs.slotsListed (r : Runs G g s g' t) (h : G.slots → SlotsListed s) : G.slots → SlotsListed t := fun hG =>
  r.keeps (P := fun _ s => SlotsListed s) (fun m => m.slotsListed) (h hG)

end Sys2Proof.Machine
end

section
/-! PROOFS. The shared operations as runs of moves. -/

namespace Sys2Proof.Machine

variable {G : Given} {g : Underway}

/-! ### Outbound queues, events and intake -/

section

variable (s : State)

theorem State.setMgmt_runs (v : Management) : Runs G g s g (s.setMgmt v) := SameCore.runs (by constructor <;> rfl)

theorem State.setMode_runs (v : EngineState) : Runs G g s g (s.setMode v) := SameCore.runs (by constructor <;> rfl)

theorem State.setRecon_runs (v : Reconciliation) : Runs G g s g (s.setRecon v) := SameCore.runs (by constructor <;> rfl)

theorem State.setLink_runs {v : LinkSupervisor} (h : v.state = s.link.state) : Runs G g s g (s.setLink v) :=
  SameCore.runs ⟨rfl, rfl, rfl, rfl, rfl, h, rfl, rfl, rfl, rfl, rfl, rfl, rfl, rfl, rfl, rfl⟩

theorem State.setQueues_runs {v : QueueManager} (h : v.entries = s.queues.entries) : Runs G g s g (s.setQueues v) :=
  SameCore.runs ⟨rfl, rfl, rfl, rfl, rfl, rfl, h, rfl, rfl, rfl, rfl, rfl, rfl, rfl, rfl, rfl⟩

theorem State.setTime_runs {v : Timebase} (h : v.now = s.time.now) : Runs G g s g (s.setTime v) :=
  SameCore.runs ⟨rfl, rfl, rfl, rfl, rfl, rfl, rfl, rfl, rfl, rfl, rfl, rfl, rfl, h, rfl, rfl⟩

theorem State.setSvc_runs {v : ServicePort} (hu : v.upstream = s.svc.upstream) (hi : v.intake = s.svc.intake) :
    Runs G g s g (s.setSvc v) := (Move.depart v (hu ▸ List.suffix_refl _) hi).runs

theorem State.setFarm_runs {v : FarmPort} (hr : v.replies = s.farm.replies) (hi : v.intake = s.farm.intake)
    (hp : v.paused = s.farm.paused) : Runs G g s g (s.setFarm v) := (Move.farmSends v (hr ▸ List.suffix_refl _) hi hp).runs

theorem State.offerUp_runs {e : UpEntry} (he : e.seatTraffic = false) : Runs G g s g (s.offerUp e) := by
  rw [State.offerUp]
  split
  · next hr => exact (Move.pushOther e he hr).runs
  · exact s.setSvc_runs rfl rfl

theorem State.notice_runs (e : Event) : Runs G g s g (s.notice e) := by
  rw [State.notice]
  split
  · next l hd => exact (Move.defer l _ hd rfl).runs
  · exact s.offerUp_runs rfl

theorem State.raise_runs (e : Event) : Runs G g s g (s.raise e) := by
  rw [State.raise]
  split
  · exact .refl
  · split
    · exact (s.setMgmt_runs _).trans ((s.flagEvent e).notice_runs e)
    · exact s.setMgmt_runs _

theorem State.toFarm_runs (a : Addrs) (k : Key) (b : FarmBody) : Runs G g s g (s.toFarm a k b) :=
  (s.setMgmt_runs _).trans (Move.offerFarm _).runs

theorem State.retry_runs (a : Addrs) (k : Key) (r : RetryReason) : Runs G g s g (s.retry a k r) := s.toFarm_runs ..

theorem State.countPort_runs (port : Port) (f : PortStats → PortStats) : Runs G g s g (s.countPort port f) := by
  cases port
  · exact s.setFarm_runs rfl rfl rfl
  · exact s.setSvc_runs rfl rfl

theorem State.takeSeat_runs (port : Port) (f : Frame) : Runs G g s g (s.takeSeat port f) := by
  cases port
  · exact (Move.popIntake .farm).runs
  · exact (Move.popIntake .service).runs.trans (State.setSvc_runs _ rfl rfl)

theorem State.takeMessage_runs (port : Port) (f : Frame) : Runs G g s g (s.takeMessage port f) :=
  (s.takeSeat_runs port f).trans (State.countPort_runs ..)

theorem State.fillOpposite_runs (port : Port) (f : Frame) : Runs G g s g (s.fillOpposite port f) := by
  cases port
  · exact s.setSvc_runs rfl rfl
  · exact s.setFarm_runs rfl rfl rfl

theorem State.bridgeSeat_runs (port : Port) (f : Frame) : Runs G g s g (s.bridgeSeat port f) := by
  rw [State.bridgeSeat]
  split
  · exact (s.takeMessage_runs port f).trans (State.fillOpposite_runs ..)
  · exact .refl

theorem State.passBridge_runs (port : Port) (f : Frame) : Runs G g s g (s.passBridge port f) := by
  rw [State.passBridge]
  split
  · exact (Move.popIntake port).runs.trans (State.fillOpposite_runs ..)
  · exact .refl

/-! ### Pass requests -/

theorem State.accountAsks_runs (p : Nat) : Runs G g s g (s.accountAsks p) := by
  rw [State.accountAsks]
  split
  · exact s.setQueues_runs rfl
  · exact .refl

theorem State.askPasses_runs (ps : List Nat) : Runs G g s g (s.askPasses ps) := Runs.foldl _ ps fun u _ _ => u.setQueues_runs rfl

theorem State.askAllOrdered_runs (ps : List Nat) : Runs G g s g (s.askAllOrdered ps) := Runs.foldl _ ps fun u _ _ => u.setQueues_runs rfl

/-! ### Accounts -/

theorem State.modAcct_runs (p : Nat) {f : Account → Account} (h : ∀ a, SameFigures (f a) a) : Runs G g s g (s.modAcct p f) :=
  (Move.restat p _ (h _)).runs

theorem State.reevaluate_runs (p : Nat) : Runs G (g.awaiting p) s g (s.reevaluate p) := by
  rw [State.reevaluate]
  split
  · next hlt =>
    split
    · next ho => exact (Move.flagExact p (by simp [ho, hlt])).runs
    · exact (Move.flag p true (by simp [hlt])).runs.trans (State.raise_runs ..)
  · next hle =>
    split
    · exact (Move.flag p false (by simp [hle])).runs.trans (State.accountAsks_runs ..)
    · next ho => exact (Move.flagExact p (by simp [ho, hle])).runs

theorem State.respond_runs (before : State) (p : Nat) : Runs G (g.awaiting p) s g (State.respond before p s) := by
  rw [State.respond]
  split
  · exact (s.reevaluate_runs p).trans (State.accountAsks_runs ..)
  · exact s.reevaluate_runs p

/-- Pools that await their re-evaluation are given it, one by one. -/
theorem Runs.evaluating {f : State → Nat → State} (h : ∀ s g p, Runs G (g.awaiting p) s g (f s p)) (ps : List Nat) (s : State) :
    Runs G { g with unflagged := ps ++ g.unflagged } s g (ps.foldl f s) := by
  induction ps generalizing s with
  | nil => exact .refl
  | cons p ps ih => exact (h s { g with unflagged := ps ++ g.unflagged } p).trans (ih (f s p))

theorem State.respondAll_runs (before : State) (ps : List Nat) :
    Runs G { g with unflagged := ps ++ g.unflagged } s g (State.respondAll before ps s) :=
  Runs.evaluating (fun u _ p => u.respond_runs before p) ps s

theorem State.setGap_runs (p : Nat) : Runs G g s g (s.setGap p) := by
  rw [State.setGap]
  split
  · exact .refl
  · exact (s.modAcct_runs p fun _ => by constructor <;> rfl).trans (State.raise_runs ..)

theorem State.queueReport_runs (p : Nat) (change : ChangeKind) (hold : Hold) (handle : Handle) (delta : Int) (hk : g.kept = 0)
    (hr : s.seatRoom = true) : Runs G g s g (s.queueReport p change hold handle delta) :=
  (Move.pushSeat _ rfl hr hk).runs.trans (State.modAcct_runs _ p fun _ => by constructor <;> rfl)

theorem State.reportRelease_runs (p : Nat) (change : ChangeKind) (hold : Hold) (handle : Handle) (delta : Int) (hk : g.kept = 0) :
    Runs G g s g (s.reportRelease p change hold handle delta) := by
  rw [State.reportRelease]
  split
  · next hr => exact s.queueReport_runs _ _ _ _ _ hk hr
  · exact s.setGap_runs p

theorem State.countPoolGrant_runs (p : Nat) : Runs G g s g (s.countPoolGrant p) :=
  s.modAcct_runs p fun _ => by constructor <;> rfl

theorem State.rollEpoch_runs : Runs G g s g s.rollEpoch := (Move.restatAll _ (fun _ => by constructor <;> rfl) rfl).runs

/-! ### Charge and credit -/

/-- A charge, from the state `s` before the hold was written: the hold's writing and the account's are one move. -/
theorem State.charge_runs {s u : State} (p tokens newHolds : Nat) (change : ChangeKind) (hold : Hold) (handle : Handle)
    (hk : g.kept = 0) (hroom : (u.acct p).state = .shared → s.seatRoom = true) (hr : u.reserved = s.reserved)
    (hm : ∀ g n, Move G g (s.setReserved n) (g.awaiting p) ((u.setReserved n).modAcct p (fun a => a.charged tokens newHolds))) :
    Runs G g s g (u.charge p tokens newHolds change hold handle) := by
  have evaluated : ∀ g n, Runs G g (s.setReserved n) g
      ((if (u.acct p).overdraftInUse = 0 ∧ 0 < ((u.acct p).charged tokens newHolds).overdraftInUse then
        ((u.setReserved n).setAcct p ((u.acct p).charged tokens newHolds)).raise .poolOverdraft
        else (u.setReserved n).setAcct p ((u.acct p).charged tokens newHolds)).reevaluate p) := by
    intro g n
    refine (hm g n).runs.trans (Runs.trans ?_ (State.reevaluate_runs _ p))
    split
    · exact State.raise_runs ..
    · exact .refl
  simp only [State.charge]
  by_cases hs : (u.acct p).state = .shared
  · simp only [hs, decide_true, if_true]
    have hkeep : Runs G g s { g with kept := 1 } (s.setReserved (u.reserved + 1)) := hr ▸ (Move.keepPlace (hroom hs) hk).runs
    refine (hkeep.trans (evaluated { g with kept := 1 } _)).trans ?_
    generalize hv : State.reevaluate p _ = v
    have hres : u.reserved = v.reserved - 1 := by
      rw [← hv]
      split <;> simp
    rw [hres]
    exact (Move.usePlace _ rfl hk).runs.trans (State.modAcct_runs _ p fun _ => by constructor <;> rfl)
  · simp only [hs, decide_false, Bool.false_eq_true, if_false]
    have hu : u.setReserved s.reserved = u := by rw [← hr]; rfl
    have he := evaluated g s.reserved
    rw [hu] at he
    exact he

theorem State.newHoldLack_eq_none {p : Nat} :
    s.newHoldLack p = none ↔ s.tableFull = false ∧ ((s.acct p).state = .shared → s.seatRoom = true) := by
  rw [State.newHoldLack]
  split
  · simp_all
  · split <;> simp_all

theorem State.upgradeLack_eq_none {p : Nat} : s.upgradeLack p = none ↔ ((s.acct p).state = .shared → s.seatRoom = true) := by
  rw [State.upgradeLack]
  split <;> simp_all

theorem State.newHold_runs {hold : Hold} (hl : s.newHoldLack hold.pool = none) (hu : hold.Used) (hk : g.kept = 0)
    (hf : ¬G.frozen) : Runs G g s g (s.newHold hold.pool hold) := by
  obtain ⟨hfull, hroom⟩ := s.newHoldLack_eq_none.1 hl
  have written : ∀ g n, Move G g (s.setReserved n) (g.awaiting hold.pool)
      (((s.putHold s.lowestSlot hold).setReserved n).modAcct hold.pool (fun a => a.charged hold.tokens 1)) := fun g n =>
    Move.newHold (s := s.setReserved n) hold hfull hu hf
  exact (State.charge_runs (u := s.putHold s.lowestSlot hold) hold.pool hold.tokens 1 .grant hold (s.handleAt s.lowestSlot) hk hroom rfl
    written).trans (State.countPoolGrant_runs ..)

theorem State.upgradeHold_runs {slot : Nat} {hold : Hold} {tokens : Nat} (interval : Nat) (hm : (slot, hold) ∈ s.holds.slots)
    (hu : hold.useCount ≠ 255) (ht : hold.tokens ≤ tokens) (hl : s.upgradeLack hold.pool = none) (hk : g.kept = 0)
    (hf : ¬G.frozen) : Runs G g s g (s.upgradeHold slot hold tokens interval) := by
  have written : ∀ g n, Move G g (s.setReserved n) (g.awaiting hold.pool)
      (((s.putHold slot (hold.joined tokens interval (s.renewDeadline interval))).setReserved n).modAcct hold.pool
        (fun a => a.charged (tokens - hold.tokens) 0)) := fun g n =>
    Move.upgrade (s := s.setReserved n) slot hold tokens interval _ hm hu ht hf
  exact (State.charge_runs (u := s.putHold slot (hold.joined tokens interval (s.renewDeadline interval))) hold.pool (tokens - hold.tokens) 0
    .upgrade (hold.joined tokens interval (s.renewDeadline interval)) (s.handleAt slot) hk (s.upgradeLack_eq_none.1 hl) rfl
    written).trans (State.countPoolGrant_runs ..)

theorem Hold.used_joined {h : Hold} {tokens interval deadline : Nat} (hu : h.useCount ≠ 255) (h0 : h.Used) :
    (h.joined tokens interval deadline).Used := by
  obtain ⟨hl, ha⟩ := h0
  refine ⟨by simp [Hold.joined], fun _ => ?_⟩
  simp only [Hold.joined]
  by_cases hs : h.state = .lingering
  · have := hl hs; omega
  · have := ha hs; omega

theorem State.joinHold_runs {slot : Nat} {hold : Hold} (interval : Nat) (hm : (slot, hold) ∈ s.holds.slots) (hu : hold.useCount ≠ 255) :
    Runs G g s g (s.joinHold slot hold interval) :=
  (Move.rehold slot hold (hold.joined hold.tokens interval (s.renewDeadline interval)) hm rfl rfl (Hold.used_joined hu)).runs.trans (State.countPoolGrant_runs ..)

theorem State.slotFreed_runs (wasFull : Bool) : Runs G g s g (s.slotFreed wasFull) := by
  rw [State.slotFreed]
  split
  · exact (s.askPasses_runs _).trans (State.askAllOrdered_runs ..)
  · exact s.askPasses_runs _

theorem State.removeHold_runs {slot : Nat} {hold : Hold} (change : ChangeKind) (hm : G.slots → (slot, hold) ∈ s.holds.slots)
    (hk : g.kept = 0) (hf : ¬G.frozen) : Runs G g s g (s.removeHold slot hold change) := by
  refine Runs.trans ?_ (State.slotFreed_runs ..)
  simp only [State.credit]
  have evaluated := (Move.remove (g := g) slot hold hm hf).runs.trans (State.reevaluate_runs _ hold.pool)
  have reported : ∀ (c d : Prop) [Decidable c] [Decidable d] (u : State) (x : Handle) (n : Int),
      Runs G g u g
        (if d then (if c then u.reportRelease hold.pool change hold x n else u).accountAsks hold.pool
        else if c then u.reportRelease hold.pool change hold x n else u) := by
    intro c d _ _ u x n
    have h : Runs G g u g (if c then u.reportRelease hold.pool change hold x n else u) := by
      split
      · exact u.reportRelease_runs _ _ _ _ _ hk
      · exact .refl
    split
    · exact h.trans (State.accountAsks_runs ..)
    · exact h
  exact evaluated.trans (reported ..)

theorem State.reclaim_runs {slot : Nat} {hold : Hold} (hm : G.slots → (slot, hold) ∈ s.holds.slots) (hk : g.kept = 0)
    (hf : ¬G.frozen) : Runs G g s g (s.reclaim slot hold) := (s.removeHold_runs .reclaim hm hk hf).trans (State.setMgmt_runs ..)

end

/-! ### The wait store -/

/-- Entries of the store under distinct keys. -/
def Waiting (G : Given) (s : State) (es : List WaitEntry) : Prop :=
  G.keys → es.Pairwise (fun a b => a.key ≠ b.key) ∧ ∀ e ∈ es, e ∈ s.queues.entries

section

variable {s t : State}

theorem Waiting.sublist {es fs : List WaitEntry} (h : Waiting G s es) (hs : fs.Sublist es) : Waiting G s fs := fun hG =>
  ⟨(h hG).1.sublist hs, fun e he => (h hG).2 e (hs.subset he)⟩

theorem Waiting.head {e : WaitEntry} {es : List WaitEntry} (h : Waiting G s (e :: es)) : G.keys → e ∈ s.queues.entries := fun hG =>
  (h hG).2 e (List.mem_cons_self ..)

/-- The entries behind one that has left the store still stand there. -/
theorem Waiting.tail {e : WaitEntry} {es : List WaitEntry} (h : Waiting G s (e :: es))
    (ht : t.queues.entries = s.queues.entries.eraseP (fun x => x.key = e.key)) : Waiting G t es := by
  intro hG
  obtain ⟨hp, hm⟩ := h hG
  rw [List.pairwise_cons] at hp
  refine ⟨hp.2, fun x hx => ?_⟩
  rw [ht, List.mem_eraseP_of_neg (by simpa using (hp.1 x hx).symm)]
  exact hm x (List.mem_cons_of_mem _ hx)

theorem Waiting.congr {es : List WaitEntry} (h : Waiting G s es) (ht : t.queues.entries = s.queues.entries) : Waiting G t es := by
  rwa [Waiting, ht]

theorem waiting_poolQueue (h : G.keys → KeysUnique s) (p : Nat) : Waiting G s (s.poolQueue p) := fun hG =>
  ⟨(List.pairwise_map.1 (h hG).entries_nodup).filter _, fun _ he => (List.mem_filter.1 he).1⟩

theorem waiting_entriesByPool (h : G.keys → KeysUnique s) : Waiting G s s.entriesByPool := by
  intro hG
  have mem : ∀ {p : Nat} {e : WaitEntry}, e ∈ s.poolQueue p → e ∈ s.queues.entries ∧ e.pool = p := fun he =>
    ⟨(List.mem_filter.1 he).1, of_decide_eq_true (List.mem_filter.1 he).2⟩
  have inj : ∀ {a b : WaitEntry}, a ∈ s.queues.entries → b ∈ s.queues.entries → a.key = b.key → a = b := fun ha hb hab =>
    eq_of_nodup_map (h hG).entries_nodup ha hb hab
  refine ⟨?_, fun e he => ?_⟩
  · rw [State.entriesByPool, List.flatMap, List.pairwise_flatten]
    refine ⟨fun l hl => ?_, List.pairwise_map.2 ?_⟩
    · obtain ⟨p, -, rfl⟩ := List.mem_map.1 hl
      exact (waiting_poolQueue h p hG).1
    · refine s.poolOrder_waitingPools.1.imp fun {p q} hpq a ha b hb hk => ?_
      have hab := inj (mem ha).1 (mem hb).1 hk
      rw [← (mem ha).2, ← (mem hb).2, hab] at hpq
      exact Nat.lt_irrefl _ hpq
  · obtain ⟨p, -, he⟩ := List.mem_flatMap.1 he
    exact (mem he).1

/-- Operations that take each of a list of entries out of the store. -/
theorem Runs.foldl_waiting {f : State → WaitEntry → State} (es : List WaitEntry) (h : Waiting G s es)
    (hf : ∀ s, ∀ e ∈ es, (G.keys → e ∈ s.queues.entries) → Runs G g s g (f s e))
    (he : ∀ s, ∀ e ∈ es, (f s e).queues.entries = s.queues.entries.eraseP (fun x => x.key = e.key)) :
    Runs G g s g (es.foldl f s) := by
  induction es generalizing s with
  | nil => exact .refl
  | cons e es ih =>
    have hmem := List.mem_cons_self (a := e) (l := es)
    exact (hf s e hmem h.head).trans (ih (h.tail (he s e hmem)) (fun s x hx => hf s x (List.mem_cons_of_mem _ hx))
      (fun s x hx => he s x (List.mem_cons_of_mem _ hx)))

variable (s)

theorem State.unlinkAsking_runs {e : WaitEntry} (hm : G.keys → e ∈ s.queues.entries) : Runs G g s g (s.unlinkAsking e) := by
  rw [State.unlinkAsking]
  split
  · exact (Move.unlink e hm).runs.trans (State.setQueues_runs _ rfl)
  · exact (Move.unlink e hm).runs

theorem State.dismiss_runs (b : FarmBody) {e : WaitEntry} (hm : G.keys → e ∈ s.queues.entries) : Runs G g s g (s.dismiss b e) :=
  (Move.unlink e hm).runs.trans (State.toFarm_runs ..)

@[simp] theorem State.entries_dismiss (b : FarmBody) (e : WaitEntry) :
    (s.dismiss b e).queues.entries = s.queues.entries.eraseP (fun x => x.key = e.key) := by simp [State.dismiss]

theorem State.dismissAll_runs (b : FarmBody) {es : List WaitEntry} (h : Waiting G s es) : Runs G g s g (s.dismissAll b es) :=
  Runs.foldl_waiting es h (fun u _ _ hm => u.dismiss_runs b hm) (by simp)

/-! ### Forwards -/

theorem State.seatRoom_of_forwardRoom (h : s.forwardRoom = true) : s.seatRoom = true := ((Bool.and_eq_true ..).mp h).2

theorem State.addForward_runs {k : Key} (kind : RequestKind) (feature : Nat) (a : Addrs) (hk : s.keyStands k = false) :
    Runs G g s g (s.addForward k kind feature a) := (Move.forward _ hk).runs.trans (State.setMgmt_runs ..)

theorem State.forwardRequest_runs (f : Frame) (k : Key) (kind : RequestKind) (feature : Nat) (hk : g.kept = 0) :
    Runs G g s g (s.forwardRequest f k kind feature) := by
  rw [State.forwardRequest]
  split
  · exact s.toFarm_runs ..
  · split
    · exact s.retry_runs ..
    · next hstands =>
      split
      · exact s.retry_runs ..
      · next hroom =>
        have hseat : (s.addForward k kind feature (addrsOf f)).seatRoom = true := by
          rw [State.seatRoom_congr (s := s) (by simp) (by simp)]
          exact s.seatRoom_of_forwardRoom (by simpa using hroom)
        exact (s.addForward_runs kind feature _ (by simpa using hstands)).trans (Move.pushSeat _ rfl hseat hk).runs

/-- An entry leaves the store and is forwarded as a rebuilt CHECKOUT (R96). -/
theorem State.handOn_runs {e : WaitEntry} (hm : G.keys → e ∈ s.queues.entries) (hr : (s.unlink e).forwardRoom = true)
    (hk : g.kept = 0) : Runs G g s g ((s.unlink e).forwardEntry e) := by
  have hseat : ((s.unlink e).addForward e.key .checkout ((s.unlink e).record e.pool).feature e.addrs).seatRoom = true := by
    rw [State.seatRoom_congr (s := s.unlink e) (by simp) (by simp)]
    exact State.seatRoom_of_forwardRoom _ hr
  have hadd : Runs G g s g ((s.unlink e).addForward e.key .checkout ((s.unlink e).record e.pool).feature e.addrs) :=
    (Move.handOn e
      { key := e.key, kind := .checkout, feature := ((s.unlink e).record e.pool).feature,
        deadline := capTime ((s.unlink e).time.now + (s.unlink e).mgmt.params.forwardTimeout), addrs := e.addrs } rfl hm).runs.trans
      (State.setMgmt_runs ..)
  exact hadd.trans (Move.pushSeat _ rfl hseat hk).runs

theorem State.drainEntry_runs {e : WaitEntry} (hm : G.keys → e ∈ s.queues.entries) (hk : g.kept = 0) :
    Runs G g s g (s.drainEntry e) := by
  rw [State.drainEntry]
  split
  · exact s.dismiss_runs _ hm
  · split
    · next hr => exact s.handOn_runs hm hr hk
    · exact (Move.unlink e hm).runs.trans (State.retry_runs ..)

theorem State.revokeEntry_runs {e : WaitEntry} (hm : G.keys → e ∈ s.queues.entries) (hk : g.kept = 0) :
    Runs G g s g (s.revokeEntry e) := by
  rw [State.revokeEntry]
  split
  · next hr => exact s.handOn_runs hm hr.2 hk
  · exact (Move.unlink e hm).runs.trans (State.retry_runs ..)

@[simp] theorem State.entries_forwardEntry (e : WaitEntry) : (s.forwardEntry e).queues.entries = s.queues.entries := by
  simp [State.forwardEntry]

@[simp] theorem State.entries_drainEntry (e : WaitEntry) :
    (s.drainEntry e).queues.entries = s.queues.entries.eraseP (fun x => x.key = e.key) := by
  rw [State.drainEntry]
  (repeat' split) <;> simp

@[simp] theorem State.entries_revokeEntry (e : WaitEntry) :
    (s.revokeEntry e).queues.entries = s.queues.entries.eraseP (fun x => x.key = e.key) := by
  rw [State.revokeEntry]
  split <;> simp

theorem State.enterDraining_runs (h : G.keys → KeysUnique s) (hk : g.kept = 0) : Runs G g s g s.enterDraining :=
  (s.setMode_runs .draining).trans
    (Runs.foldl_waiting _ (waiting_entriesByPool h) (fun u _ _ hm => u.drainEntry_runs hm hk) (by simp))

end

/-! ### Engine time and hold deadlines -/

section

variable (s : State)

theorem State.moveTime_runs {new : Nat} (h : s.time.now ≤ new) : Runs G g s g (s.moveTime new) := (Move.retime _ h).runs

theorem State.stepTo_runs (new : Nat) : Runs G g s g (s.stepTo new) := by
  rw [State.stepTo]
  split
  · next h =>
    exact (Move.reenqueue (WaitEntry.stepped new) (fun _ => rfl) (fun _ => rfl)).runs.trans (State.moveTime_runs _ (Nat.le_of_lt h))
  · exact .refl

theorem State.rebaseTo_runs {new : Nat} (h : s.time.now ≤ new) : Runs G g s g (s.rebaseTo new) :=
  (((Move.reholdAll (Hold.rebased (new - s.time.now)) (fun _ => rfl) (fun _ => rfl) (fun _ hu => hu)).runs.trans
    (Move.reenqueue (WaitEntry.rebased (new - s.time.now)) (fun _ => rfl) (fun _ => rfl)).runs).trans
    (Move.reforward (Forward.rebased (new - s.time.now)) (fun _ => rfl)).runs).trans
    ((State.setRecon_runs ..).trans (State.moveTime_runs _ h))

theorem State.leaveUnset_runs (source : TimeSource) : Runs G g s g (s.leaveUnset source) :=
  (s.setTime_runs (v := { s.time with source, dayOwed := _ }) rfl).trans (State.raise_runs ..)

theorem State.acceptMark_runs : Runs G g s g s.acceptMark := by
  rw [State.acceptMark]
  split
  · exact s.setTime_runs rfl
  · exact .refl

theorem State.takeMark_runs (mark : Nat) : Runs G g s g (s.takeMark mark) := by
  rw [State.takeMark]
  split
  · split
    · next h => exact (s.rebaseTo_runs h).trans (State.leaveUnset_runs ..)
    · exact s.raise_runs _
  · split
    · exact (s.stepTo_runs mark).trans (State.acceptMark_runs _)
    · exact s.raise_runs _

theorem State.holdover_runs : Runs G g s g s.holdover := by
  rw [State.holdover]
  split
  · exact (s.setTime_runs (v := { s.time with source := .holdover }) rfl).trans (State.raise_runs ..)
  · exact .refl

theorem State.setTimeSource_runs : Runs G g s g s.setTimeSource := by
  rw [State.setTimeSource]
  split
  · split
    · exact (s.leaveUnset_runs _).trans (State.raise_runs ..)
    · exact s.leaveUnset_runs _
  · exact .refl

theorem Hold.used_staled {h : Hold} (hs : h.state = .active) (grace : Nat) (h0 : h.Used) : (h.staled grace).Used :=
  ⟨by simp [Hold.staled], fun _ => h0.2 (by simp [hs])⟩

theorem State.expireRenewal_runs {slot : Nat} {h : Hold} (hs : h.state = .active) (hm : (slot, h) ∈ s.holds.slots) (hk : g.kept = 0)
    (hf : s.reconciling = false → ¬G.frozen) : Runs G g s g (s.expireRenewal slot h) := by
  rw [State.expireRenewal]
  split
  · next hc => exact s.reclaim_runs (fun _ => hm) hk (hf hc.2)
  · exact (Move.rehold slot h (h.staled (s.record h.pool).grace) hm rfl rfl (Hold.used_staled hs _)).runs

/-- A hold as a relocation leaves it (R74, R165). -/
def State.staledHold (s : State) (h : Hold) : Hold :=
  if h.state = .active ∧ h.deadline ≤ s.time.now then h.staled (s.record h.pool).grace else h

theorem State.staleReached_eq :
    s.staleReached = s.setHolds { s.holds with slots := s.holds.slots.map (fun e => (e.1, s.staledHold e.2)) } := by
  have hmap : (fun e : Nat × Hold =>
      if e.2.state = .active ∧ e.2.deadline ≤ s.time.now then (e.1, e.2.staled (s.record e.2.pool).grace) else e) =
      fun e => (e.1, s.staledHold e.2) := by
    funext e
    rw [State.staledHold]
    split <;> rfl
  rw [State.staleReached, hmap]

theorem State.staleReached_runs : Runs G g s g s.staleReached := by
  rw [State.staleReached_eq]
  refine (Move.reholdAll s.staledHold (fun h => ?_) (fun h => ?_) (fun h hu => ?_)).runs <;> rw [State.staledHold] <;> split
  case refine_3.isTrue hc => exact Hold.used_staled hc.1 _ hu
  case refine_3.isFalse => exact hu
  all_goals rfl

theorem State.endHold_runs {slot : Nat} {h : Hold} (hm : G.slots → (slot, h) ∈ s.holds.slots) (hk : g.kept = 0) (hf : ¬G.frozen) :
    Runs G g s g (s.endHold slot h) := by
  rw [State.endHold]
  split
  · exact .refl
  · exact s.reclaim_runs hm hk hf
  · exact s.removeHold_runs .lingerEnd hm hk hf

@[simp] theorem State.slots_removeHold (slot : Nat) (h : Hold) (change : ChangeKind) :
    (s.removeHold slot h change).holds.slots = Table.remove s.holds.slots slot := by
  rw [State.removeHold, State.slotFreed]
  split <;> simp

theorem State.slots_endHold {slot : Nat} {h : Hold} (hs : h.state ≠ .active) :
    (s.endHold slot h).holds.slots = Table.remove s.holds.slots slot := by
  rw [State.endHold]
  split
  · contradiction
  · simp [State.reclaim]
  · simp

theorem Table.mem_remove {α : Type} {t : Table α} {k : Nat} {e : Nat × α} : e ∈ Table.remove t k ↔ e ∈ t ∧ e.1 ≠ k := by
  simp [Table.remove]

theorem State.endHolds_runs (hs : List (Nat × Hold)) (h : G.slots → hs.Pairwise (fun a b => a.1 ≠ b.1) ∧ ∀ e ∈ hs, e ∈ s.holds.slots)
    (ha : ∀ e ∈ hs, e.2.state ≠ .active) (hk : g.kept = 0) (hf : ¬G.frozen) : Runs G g s g (s.endHolds hs) := by
  induction hs generalizing s with
  | nil => exact .refl
  | cons e hs ih =>
    refine (s.endHold_runs (slot := e.1) (h := e.2) (fun hG => (h hG).2 e (List.mem_cons_self ..)) hk hf).trans
      (ih _ (fun hG => ?_) (fun x hx => ha x (List.mem_cons_of_mem _ hx)))
    obtain ⟨hp, hm⟩ := h hG
    rw [List.pairwise_cons] at hp
    refine ⟨hp.2, fun x hx => ?_⟩
    rw [s.slots_endHold (ha e (List.mem_cons_self ..)), Table.mem_remove]
    exact ⟨hm x (List.mem_cons_of_mem _ hx), (hp.1 x hx).symm⟩

theorem perm_insertBy {α : Type} (key : α → Nat) (a : α) (l : List α) : (insertBy key a l).Perm (a :: l) := by
  induction l with
  | nil => exact .refl _
  | cons b l ih =>
    rw [insertBy]
    split
    · exact .refl _
    · exact (ih.cons b).trans (.swap a b l)

theorem perm_sortBy {α : Type} (key : α → Nat) (l : List α) : (sortBy key l).Perm l := by
  induction l with
  | nil => exact .refl _
  | cons a l ih => exact (perm_insertBy key a _).trans (ih.cons a)

theorem State.mem_overdue (e : Nat × Hold) :
    e ∈ s.overdue ↔ e ∈ s.holds.slots ∧ e.2.deadline ≤ s.time.now ∧ e.2.state ≠ .active := by
  rw [State.overdue, (perm_sortBy ..).mem_iff]
  simp

theorem State.overdue_distinct (h : Table.Rising s.holds.slots) : s.overdue.Pairwise (fun a b => a.1 ≠ b.1) :=
  ((perm_sortBy ..).pairwise_iff (fun hab => hab.symm)).2 ((h.filter _).imp Nat.ne_of_lt)

theorem State.endOverdue_runs (hS : G.slots → SlotsListed s) (hk : g.kept = 0) (hf : ¬G.frozen) :
    Runs G g s g (s.endHolds s.overdue) :=
  s.endHolds_runs _ (fun hG => ⟨s.overdue_distinct (hS hG).1, fun e he => ((s.mem_overdue e).1 he).1⟩)
    (fun e he => ((s.mem_overdue e).1 he).2.2) hk hf

/-! ### The application of a switch -/

theorem State.denyEnded_runs (day p : Nat) (h : G.keys → KeysUnique s) : Runs G g s g (s.denyEnded day p) := by
  rw [State.denyEnded]
  split
  · exact s.dismissAll_runs _ (waiting_poolQueue h p)
  · exact .refl

theorem State.withdrawBeyond_runs (p : Nat) (h : G.keys → KeysUnique s) : Runs G g s g (s.withdrawBeyond p) :=
  s.dismissAll_runs _ ((waiting_poolQueue h p).sublist (List.drop_sublist ..))

theorem State.applyToPool_runs (before : State) (p : Nat) (h : G.keys → KeysUnique s) :
    Runs G (g.awaiting p) s g (State.applyToPool before p s) := by
  have limited : Runs G (g.awaiting p) s g ((State.respond before p s).withdrawBeyond p) :=
    (s.respond_runs before p).trans (State.withdrawBeyond_runs _ p ((s.respond_runs (g := g) before p).keysUnique h))
  rw [State.applyToPool]
  split
  · exact limited
  · exact limited.trans (State.denyEnded_runs _ _ p (limited.keysUnique h))

theorem State.applyToPools_runs (before : State) (ps : List Nat) (h : G.keys → KeysUnique s) :
    Runs G { g with unflagged := ps ++ g.unflagged } s g (ps.foldl (fun t p => State.applyToPool before p t) s) := by
  induction ps generalizing s with
  | nil => exact .refl
  | cons p ps ih =>
    have hp := s.applyToPool_runs (g := { g with unflagged := ps ++ g.unflagged }) before p h
    exact hp.trans (ih _ (hp.keysUnique h))

theorem State.clearReassign_runs : Runs G g s g s.clearReassign :=
  (Move.restatAll _ (fun _ => by constructor <;> rfl) rfl).runs

theorem State.markReassign_runs (ps : List Nat) : Runs G g s g (s.markReassign ps) :=
  Runs.foldl _ ps fun u p _ => u.modAcct_runs p fun _ => by constructor <;> rfl

theorem State.applySwitch_runs (h : G.keys → KeysUnique s) : Runs G g s g s.applySwitch := by
  have exchanged : Runs G g s { g with unflagged := (s.setBanks s.banks.switched).clearReassign.livePools ++ g.unflagged }
      (s.setBanks s.banks.switched).clearReassign := s.clearReassign_runs.trans (Move.switch (s := s.clearReassign)).runs
  exact (exchanged.trans (State.applyToPools_runs _ s _ (exchanged.keysUnique h))).trans (State.raise_runs ..)

theorem State.setPending_runs (v : Option PendingSwitch) : Runs G g s g (s.setBanks { s.banks with pendingSwitch := v }) :=
  SameCore.runs (by constructor <;> rfl)

theorem State.attemptSwitch_runs (h : G.keys → KeysUnique s) : Runs G g s g s.attemptSwitch := by
  rw [State.attemptSwitch]
  split
  · exact .refl
  · split
    · exact .refl
    · split
      · exact s.applySwitch_runs h
      · exact s.setPending_runs _

/-! ### The link -/

theorem State.checkAutonomy_runs : Runs G g s g s.checkAutonomy := by
  rw [State.checkAutonomy]
  split
  · exact (s.setLink_runs (by rfl)).trans (State.raise_runs ..)
  · exact .refl

theorem State.sendEcho_runs (k : Key) (sequence : Word) (mark : Nat) (solicited : Bool) :
    Runs G g s g (s.sendEcho k sequence mark solicited) := by
  rw [State.sendEcho]
  split
  · next hr => exact (Move.pushOther _ rfl hr).runs.trans (State.setLink_runs _ rfl)
  · exact s.setSvc_runs rfl rfl

theorem State.flushForwards_runs : Runs G g s g s.flushForwards :=
  (Move.unforward _ (List.nil_sublist _)).runs.trans (Runs.foldl _ _ fun u _ _ => u.toFarm_runs ..)

theorem State.startAutonomy_runs : Runs G g s g s.startAutonomy := by
  rw [State.startAutonomy]
  split
  · exact (s.setLink_runs (by rfl)).trans (State.checkAutonomy_runs _)
  · exact .refl

theorem LinkState.counted_plain {l : LinkState} (ha : ∀ o n, l ≠ .arming o n) (hs : ∀ n, l ≠ .suspect n) : l.Counted :=
  ⟨fun o n h => absurd h (ha o n), fun n h => absurd h (hs n)⟩

theorem LinkState.counted_arming (o : Origin) {n : Nat} (h : n = 1 ∨ n = 2) : (LinkState.arming o n).Counted :=
  ⟨fun _ _ he => by simpa [← (LinkState.arming.inj he).2] using h, fun _ he => by simp at he⟩

theorem LinkState.counted_suspect {n : Nat} (h : n = 1 ∨ n = 2) : (LinkState.suspect n).Counted :=
  ⟨fun _ _ he => by simp at he, fun _ he => by simpa [← LinkState.suspect.inj he] using h⟩

theorem State.enterLost_runs (byExpiry : Bool) : Runs G g s g (s.enterLost byExpiry) := by
  have lost : Runs G g s { g with unflagged := s.sharedPools ++ g.unflagged }
      (((s.setLinkState .lost).raise .linkLost).startAutonomy) :=
    (Move.crossLost .lost (LinkState.counted_plain (by simp) (by simp))).runs.trans ((State.raise_runs ..).trans (State.startAutonomy_runs _))
  have told : Runs G g s { g with unflagged := s.sharedPools ++ g.unflagged }
      (if byExpiry = true then (((s.setLinkState .lost).raise .linkLost).startAutonomy).sendUnsolicited
        else ((s.setLinkState .lost).raise .linkLost).startAutonomy) := by
    split
    · exact lost.trans (State.sendEcho_runs ..)
    · exact lost
  exact ((told.trans (State.flushForwards_runs _)).trans (State.respondAll_runs ..)).trans (State.holdover_runs _)

theorem State.leaveLost_runs : Runs G g s g s.leaveLost :=
  (Move.crossLost _ (LinkState.counted_arming .lost (.inl rfl))).runs.trans (State.respondAll_runs ..)

/-- The link changes its state away from LOST. -/
theorem State.setLinkState_runs {l : LinkState} (hl : l.Counted) (hn : l ≠ .lost) (hs : s.link.state ≠ .lost) :
    Runs G g s g (s.setLinkState l) := (Move.relink l hl (by simp [hn, hs])).runs

theorem LinkState.counted_up : LinkState.up.Counted := LinkState.counted_plain (by simp) (by simp)

theorem LinkState.counted_down : LinkState.down.Counted := LinkState.counted_plain (by simp) (by simp)

theorem State.restoreLink_runs (hs : s.link.state ≠ .lost) : Runs G g s g s.restoreLink := by
  have gapped : Runs G g s g (s.sharedPools.foldl (fun t p => t.setGap p) ((s.setLinkState .up).raise .linkRestored)) :=
    ((s.setLinkState_runs LinkState.counted_up (by simp) hs).trans (State.raise_runs ..)).trans
      (Runs.foldl _ _ fun u p _ => u.setGap_runs p)
  simp only [State.restoreLink]
  split
  · exact gapped.trans ((State.setLink_runs _ (by rfl)).trans (State.askAllOrdered_runs ..))
  · exact gapped.trans (State.setLink_runs _ rfl)

theorem State.hearProbe_runs : Runs G g s g s.hearProbe := by
  rw [State.hearProbe]
  split
  case h_1 h => exact s.setLinkState_runs (LinkState.counted_arming _ (.inl rfl)) (by simp) (by simp [h])
  case h_2 h => exact s.leaveLost_runs
  case h_3 h =>
    split
    · exact s.setLinkState_runs (LinkState.counted_arming _ (.inr rfl)) (by simp) (by simp [h])
    · exact s.setLinkState_runs LinkState.counted_up (by simp) (by simp [h])
  case h_4 h =>
    split
    · exact s.setLinkState_runs (LinkState.counted_arming _ (.inr rfl)) (by simp) (by simp [h])
    · exact s.restoreLink_runs (by simp [h])
  case h_5 => exact .refl
  case h_6 h => exact s.setLinkState_runs LinkState.counted_up (by simp) (by simp [h])

theorem State.missProbe_runs (byExpiry : Bool) : Runs G g s g (s.missProbe byExpiry) := by
  rw [State.missProbe]
  split
  case h_1 => exact .refl
  case h_2 h => exact s.setLinkState_runs LinkState.counted_down (by simp) (by simp [h])
  case h_3 => exact s.enterLost_runs _
  case h_4 h => exact s.setLinkState_runs (LinkState.counted_suspect (.inl rfl)) (by simp) (by simp [h])
  case h_5 h =>
    split
    · exact s.setLinkState_runs (LinkState.counted_suspect (.inr rfl)) (by simp) (by simp [h])
    · exact s.enterLost_runs _
  case h_6 =>
    split
    · exact s.sendEcho_runs ..
    · exact .refl

theorem State.restartWindow_runs : Runs G g s g s.restartWindow := s.setLink_runs rfl

end

end Sys2Proof.Machine
end

section
/-! PROOFS. Every command but the restarts is a run of moves: the ports, the farm requests, the deadlines, the passes and the link. -/

namespace Sys2Proof.Machine

open Host

variable {G : Given} {g : Underway}

/-- The state meets what a command may count on. -/
structure Given.Holds (G : Given) (s : State) : Prop where
  keys : G.keys → KeysUnique s
  slots : G.slots → SlotsListed s

theorem Runs.holds {g g' : Underway} {s t : State} (r : Runs G g s g' t) (h : G.Holds s) : G.Holds t :=
  ⟨r.keysUnique h.keys, r.slotsListed h.slots⟩

variable (s : State)

theorem State.reconciling_congr {s t : State} (h : t.mode = s.mode) : t.reconciling = s.reconciling := by
  rw [State.reconciling, h, State.reconciling]

/-- Where tokens move the engine is not reconciling, so that a command that keeps them frozen does not begin there. -/
theorem Given.thawed {s : State} (hF : G.frozen → s.reconciling = true) (h : s.reconciling = false) : ¬G.frozen := fun hf => by
  simp [hF hf] at h

/-! ### Ports -/

theorem execFrameReceive_runs {t : State} (port : Port) (f : Frame) (h : execFrameReceive port f s = .next t) :
    Runs G g s g t := by
  have counted : Runs G g s g (s.countFrame port) := s.countPort_runs ..
  unfold execFrameReceive State.receive at h
  split at h <;> cases h
  · exact .refl
  · split
    · refine counted.trans ?_
      cases port
      · exact .refl
      · exact State.setSvc_runs _ rfl rfl
    · split
      · next hlen =>
        refine counted.trans (Move.pushIntake port f ?_).runs
        cases port <;> exact hlen
      · exact counted.trans ((State.countPort_runs ..).trans (State.raise_runs ..))

theorem execFarmPauseRefresh_runs {t : State} (h : execFarmPauseRefresh s = .next t) : Runs G g s g t := by
  unfold execFarmPauseRefresh at h
  split at h
  · cases h
    exact .refl
  · split at h <;> cases h
    · exact (s.setFarm_runs (by rfl) (by rfl) (by rfl)).trans (State.setFarm_runs _ rfl rfl rfl)
    · exact .refl

theorem execServicePauseFrame_runs {t : State} (q : Half) (h : execServicePauseFrame q s = .next t) : Runs G g s g t := by
  unfold execServicePauseFrame at h
  split at h <;> cases h
  · exact .refl
  · exact (s.countPort_runs ..).trans (State.setSvc_runs _ rfl rfl)

theorem execServicePauseExpiry_runs {t : State} (h : execServicePauseExpiry s = .next t) : Runs G g s g t := by
  unfold execServicePauseExpiry at h
  split at h
  · cases h
    exact .refl
  · split at h <;> cases h
    · exact s.setSvc_runs rfl rfl
    · exact .refl

theorem execBridgeFramePass_runs {t : State} (port : Port) (h : execBridgeFramePass port s = .next t) : Runs G g s g t := by
  unfold execBridgeFramePass at h
  split at h <;> cases h
  · exact s.passBridge_runs ..
  · exact s.bridgeSeat_runs ..
  · exact .refl

theorem State.becomeReconciling_runs : Runs G g s g s.becomeReconciling :=
  ((s.setRecon_runs _).trans (State.setMode_runs ..)).trans (State.offerUp_runs _ rfl)

theorem State.testReconciling_runs : Runs G g s g s.testReconciling := by
  rw [State.testReconciling]
  split
  · exact s.becomeReconciling_runs
  · exact .refl

theorem State.sendFarm_runs : Runs G g s g s.sendFarm := by
  rw [State.sendFarm]
  split
  · exact s.setFarm_runs rfl rfl rfl
  · split
    · next e rest hr => exact (Move.farmSends _ (by rw [hr]; exact List.suffix_cons ..) (by rfl) (by rfl)).runs
    · exact s.setFarm_runs rfl rfl rfl

theorem State.sendService_runs : Runs G g s g s.sendService := by
  rw [State.sendService]
  split
  · exact s.setSvc_runs rfl rfl
  · split
    · next e rest hu =>
      have left : Runs G g s g ((s.setSvc { s.svc with upstream := rest, sending := some e.frame }).askPasses s.stalledPools) :=
        (Move.depart _ (by rw [hu]; exact List.suffix_cons ..) (by rfl)).runs.trans (State.askPasses_runs ..)
      rw [State.depart]
      split
      · exact left.trans (State.testReconciling_runs _)
      · exact left
    · exact s.setSvc_runs rfl rfl

theorem execFrameTransmit_runs {t : State} (port : Port) (h : execFrameTransmit port s = .next t) : Runs G g s g t := by
  unfold execFrameTransmit at h
  split at h <;> split at h <;> cases h
  · exact s.setFarm_runs rfl rfl rfl
  · exact s.sendFarm_runs
  · exact s.setSvc_runs rfl rfl
  · exact s.sendService_runs

theorem execProtocolError_runs {t : State} (port : Port) (h : execProtocolError port s = .next t) : Runs G g s g t := by
  unfold execProtocolError at h
  split at h <;> cases h
  · refine (Move.popIntake port).runs.trans ?_
    cases port
    · exact State.toFarm_runs ..
    · exact State.offerUp_runs _ rfl
  · exact .refl

theorem execSeatFrameDrop_runs {t : State} (port : Port) (h : execSeatFrameDrop port s = .next t) : Runs G g s g t := by
  unfold execSeatFrameDrop at h
  split at h <;> cases h
  case h_5 => exact .refl
  all_goals exact (Move.popIntake port).runs.trans (State.countPort_runs ..)

/-! ### Farm requests -/

theorem State.takeOrBridge_runs (port : Port) (f : Frame) {act : State → State} (hG : G.Holds s)
    (ha : ∀ u : State, u.mode = s.mode → G.Holds u → Runs G .rest u .rest (act u)) :
    Runs G .rest s .rest (s.takeOrBridge port f act) := by
  rw [State.takeOrBridge]
  split
  · exact s.bridgeSeat_runs ..
  · have taken : Runs G .rest s .rest (s.takeMessage port f) := s.takeMessage_runs ..
    exact taken.trans (ha _ (by simp) (taken.holds hG))

theorem State.joinTarget_mem {p slot : Nat} {node process : Word} {hold : Hold} (h : s.joinTarget p node process = some (slot, hold)) :
    (slot, hold) ∈ s.holds.slots ∧ hold.pool = p := by
  have hm := List.mem_filter.1 (List.mem_of_find?_eq_some h)
  exact ⟨hm.1, of_decide_eq_true hm.2⟩

theorem State.namedHold_mem {handle : Handle} {hold : Hold} (h : s.namedHold handle = some hold) :
    (handle.slot, hold) ∈ s.holds.slots := by
  rw [State.namedHold] at h
  split at h
  · simp at h
  · exact Table.get?_mem h

theorem State.used_freshHold (p : Nat) (node process tag : Word) (tokens interval : Nat) :
    (s.freshHold p node process tag tokens interval).Used := ⟨by simp [State.freshHold], by simp [State.freshHold]⟩

theorem State.freshGrant_runs (c : CheckoutRequest) (p : Nat) (hf : ¬G.frozen) : Runs G .rest s .rest (s.freshGrant c p) := by
  rw [State.freshGrant]
  split
  · exact (s.raise_runs _).trans (State.toFarm_runs ..)
  · exact s.retry_runs ..
  · next hl =>
    exact (s.newHold_runs (hold := s.freshHold p _ _ _ _ _) hl (s.used_freshHold ..) rfl hf).trans (State.toFarm_runs ..)

theorem State.joinGrant_runs (c : CheckoutRequest) {p slot : Nat} {hold : Hold} (hm : (slot, hold) ∈ s.holds.slots)
    (hu : hold.useCount ≠ 255) : Runs G .rest s .rest (s.joinGrant c p slot hold) :=
  (s.joinHold_runs _ hm hu).trans (State.toFarm_runs ..)

theorem State.upgradeGrant_runs (c : CheckoutRequest) {slot : Nat} {hold : Hold} (hm : (slot, hold) ∈ s.holds.slots)
    (hu : hold.useCount ≠ 255) (ht : hold.tokens ≤ s.demandOf c hold.pool) (hf : ¬G.frozen) :
    Runs G .rest s .rest (s.upgradeGrant c hold.pool slot hold) := by
  rw [State.upgradeGrant]
  split
  · exact s.retry_runs ..
  · next hl => exact (s.upgradeHold_runs _ hm hu ht hl rfl hf).trans (State.toFarm_runs ..)

theorem State.tryServing_runs {t : State} (c : CheckoutRequest) (p : Nat) (h : s.tryServing c p = some t) (hf : ¬G.frozen) :
    Runs G .rest s .rest t := by
  rw [State.tryServing] at h
  split at h
  · next slot hold hj =>
    obtain ⟨hm, rfl⟩ := s.joinTarget_mem hj
    split at h
    · cases h
      exact s.toFarm_runs ..
    · next hu =>
      split at h
      · cases h
        exact s.joinGrant_runs c hm hu
      · next ht =>
        split at h <;> cases h
        exact s.upgradeGrant_runs c hm hu (by omega) hf
  · split at h <;> cases h
    exact s.freshGrant_runs c p hf

theorem State.tryDraining_runs {t : State} (c : CheckoutRequest) (p : Nat) (h : s.tryDraining c p = some t) :
    Runs G .rest s .rest t := by
  rw [State.tryDraining] at h
  split at h
  · next slot hold hj =>
    split at h
    · cases h
      exact s.toFarm_runs ..
    · next hu =>
      split at h <;> cases h
      exact s.joinGrant_runs c (s.joinTarget_mem hj).1 hu
  · cases h

theorem State.queueCheckout_runs (c : CheckoutRequest) (ps : List Nat) (hk : s.keyStands c.key = false) :
    Runs G .rest s .rest (s.queueCheckout c ps) := by
  rw [State.queueCheckout]
  split
  · exact (s.raise_runs _).trans (State.toFarm_runs ..)
  · next hl =>
    split
    · exact s.toFarm_runs ..
    · exact (Move.enqueue (s.waitEntry c _) hk (by omega)).runs.trans (State.toFarm_runs ..)

theorem State.forwardCheckout_runs (c : CheckoutRequest) : Runs G .rest s .rest (s.forwardCheckout c) :=
  s.forwardRequest_runs _ _ _ _ rfl

theorem State.unadmitted_runs (c : CheckoutRequest) (ps : List Nat) (hk : s.keyStands c.key = false) :
    Runs G .rest s .rest (s.unadmitted c ps) := by
  simp only [State.unadmitted]
  split
  · exact s.forwardCheckout_runs c
  · split
    · exact s.toFarm_runs ..
    · split
      · exact s.toFarm_runs ..
      · split
        · exact s.toFarm_runs ..
        · exact s.queueCheckout_runs c _ hk

theorem State.checkoutServing_runs (c : CheckoutRequest) (ps : List Nat) (hk : s.keyStands c.key = false) (hf : ¬G.frozen) :
    Runs G .rest s .rest (s.checkoutServing c ps) := by
  rw [State.checkoutServing]
  split
  · exact s.retry_runs ..
  · split
    · next t ht =>
      obtain ⟨p, -, hp⟩ := List.exists_of_findSome?_eq_some ht
      exact s.tryServing_runs c p hp hf
    · exact s.unadmitted_runs c ps hk

theorem State.checkoutDraining_runs (c : CheckoutRequest) (ps : List Nat) : Runs G .rest s .rest (s.checkoutDraining c ps) := by
  rw [State.checkoutDraining]
  split
  · exact s.retry_runs ..
  · split
    · next t ht =>
      obtain ⟨p, -, hp⟩ := List.exists_of_findSome?_eq_some ht
      exact s.tryDraining_runs c p hp
    · exact s.forwardCheckout_runs c

theorem State.checkoutReconciling_runs (c : CheckoutRequest) (ps : List Nat) :
    Runs G .rest s .rest (s.checkoutReconciling c ps) := by
  rw [State.checkoutReconciling]
  split
  · exact s.retry_runs ..
  · exact s.forwardCheckout_runs c

theorem State.checkout_runs (c : CheckoutRequest) (hF : G.frozen → s.reconciling = true) :
    Runs G .rest s .rest (s.checkout c) := by
  rw [State.checkout]
  split
  · exact s.retry_runs ..
  · next hk =>
    split
    · exact s.toFarm_runs ..
    · split
      case h_1 => exact .refl
      case h_2 hm => exact s.checkoutServing_runs c _ (by simpa using hk) (Given.thawed hF (by simp [State.reconciling, hm]))
      case h_3 => exact s.checkoutDraining_runs c _
      case h_4 => exact s.checkoutReconciling_runs c _
      case h_5 => exact s.checkoutReconciling_runs c _
      case h_6 => exact .refl

theorem execCheckout_runs {t : State} (hG : G.Holds s) (hF : G.frozen → s.reconciling = true) (h : execCheckout s = .next t) :
    Runs G .rest s .rest t := by
  unfold execCheckout at h
  split at h <;> cases h
  · exact s.takeOrBridge_runs .farm _ hG fun u hu _ => u.checkout_runs _ fun hf => State.reconciling_congr hu ▸ hF hf
  · exact .refl

theorem State.checkinHold_runs (f : Frame) (k : Key) {slot : Nat} {h : Hold} (noLinger : Bool) (hm : (slot, h) ∈ s.holds.slots)
    (hf : ¬G.frozen) : Runs G .rest s .rest (s.checkinHold f k slot h noLinger) := by
  rw [State.checkinHold]
  split
  · exact s.toFarm_runs ..
  · next hs =>
    have hnot : h.state ≠ .lingering := fun hl => hs (.inl hl)
    split
    · next hu =>
      refine (Move.rehold slot h { h with useCount := h.useCount - 1 } hm rfl rfl fun h0 => ?_).runs.trans (State.toFarm_runs ..)
      have h2 := h0.2 hnot
      exact ⟨fun hl => absurd hl hnot, fun _ => ⟨by simp only; omega, by simp only; omega⟩⟩
    · split
      · refine (Move.rehold slot h
          { h with useCount := 0, state := .lingering, deadline := capTime (s.time.now + (s.record h.pool).linger * 1000) } hm rfl rfl
          fun _ => ?_).runs.trans (State.toFarm_runs ..)
        exact ⟨fun _ => rfl, fun hl => absurd rfl hl⟩
      · exact (s.removeHold_runs .release (fun _ => hm) rfl hf).trans (State.toFarm_runs ..)

theorem State.checkin_runs (f : Frame) (k : Key) (handle : Handle) (noLinger : Bool) (hF : G.frozen → s.reconciling = true) :
    Runs G .rest s .rest (s.checkin f k handle noLinger) := by
  rw [State.checkin]
  split
  · exact s.forwardRequest_runs _ _ _ _ rfl
  · next hn =>
    split
    · exact s.retry_runs ..
    · next hr => exact s.checkinHold_runs f k noLinger (s.namedHold_mem hn) (Given.thawed hF (by simpa using hr))

theorem execCheckin_runs {t : State} (hG : G.Holds s) (hF : G.frozen → s.reconciling = true) (h : execCheckin s = .next t) :
    Runs G .rest s .rest t := by
  unfold execCheckin at h
  split at h <;> cases h
  · exact s.takeOrBridge_runs .farm _ hG fun u hu _ => u.checkin_runs _ _ _ _ fun hf => State.reconciling_congr hu ▸ hF hf
  · exact .refl

theorem State.renewHold_runs (f : Frame) (k : Key) {slot : Nat} {h : Hold} (interval : Option Nat) (hm : (slot, h) ∈ s.holds.slots) :
    Runs G .rest s .rest (s.renewHold f k slot h interval) := by
  rw [State.renewHold]
  split
  · exact s.toFarm_runs ..
  · next hs =>
    refine (Move.rehold slot h
      { h with
        state := .active, interval := s.renewedInterval h interval, deadline := s.renewDeadline (s.renewedInterval h interval) }
      hm rfl rfl fun h0 => ?_).runs.trans (State.toFarm_runs ..)
    exact ⟨by simp, fun _ => h0.2 fun hl => hs (.inl hl)⟩

theorem execRenew_runs {t : State} (hG : G.Holds s) (h : execRenew s = .next t) : Runs G .rest s .rest t := by
  unfold execRenew at h
  split at h <;> cases h
  · refine s.takeOrBridge_runs .farm _ hG fun u _ _ => ?_
    rw [State.renew]
    split
    · exact u.forwardRequest_runs _ _ _ _ rfl
    · next hn => exact u.renewHold_runs _ _ _ (u.namedHold_mem hn)
  · exact .refl

theorem State.waiting?_mem {k : Key} {e : WaitEntry} (h : s.waiting? k = some e) : e ∈ s.queues.entries := List.mem_of_find?_eq_some h

theorem execCancel_runs {t : State} (hG : G.Holds s) (h : execCancel s = .next t) : Runs G .rest s .rest t := by
  unfold execCancel at h
  split at h <;> cases h
  · refine s.takeOrBridge_runs .farm _ hG fun u _ _ => ?_
    simp only [State.cancel]
    split
    · next hw => exact (u.unlinkAsking_runs fun _ => u.waiting?_mem hw).trans (State.toFarm_runs ..)
    · split
      · exact u.forwardRequest_runs _ _ _ _ rfl
      · exact u.toFarm_runs ..
  · exact .refl

theorem execQuery_runs {t : State} (hG : G.Holds s) (h : execQuery s = .next t) : Runs G .rest s .rest t := by
  unfold execQuery at h
  split at h <;> cases h
  · refine s.takeOrBridge_runs .farm _ hG fun u _ _ => ?_
    rw [State.query]
    split
    · exact u.toFarm_runs ..
    · exact u.forwardRequest_runs _ _ _ _ rfl
  · exact .refl

theorem execServiceReplyRelay_runs {t : State} (hG : G.Holds s) (h : execServiceReplyRelay s = .next t) :
    Runs G .rest s .rest t := by
  unfold execServiceReplyRelay at h
  split at h <;> cases h
  · refine s.takeOrBridge_runs .service _ hG fun u _ _ => ?_
    rw [State.relay]
    split
    · exact (Move.unforward _ List.eraseP_sublist).runs.trans (Move.offerFarm _).runs
    · split
      · exact (u.setMgmt_runs _).trans (Move.offerFarm _).runs
      · exact (Move.offerFarm _).runs
  · exact .refl

/-! ### Deadlines, boundaries and day changes -/

theorem firstBy_mem {α : Type} {key : α → Nat} {l : List α} {a : α} (h : firstBy key l = some a) : a ∈ l := by
  induction l generalizing a with
  | nil => simp [firstBy] at h
  | cons b l ih =>
    rw [firstBy] at h
    split at h
    · cases h
      exact List.mem_cons_self ..
    · next c hc =>
      split at h <;> cases h
      · exact List.mem_cons_self ..
      · exact List.mem_cons_of_mem _ (ih hc)

theorem State.nextDeadline_mem {slot : Nat} {h : Hold} (hn : s.nextDeadline = some (slot, h)) :
    (slot, h) ∈ s.holds.slots ∧ h.deadline ≤ s.time.now ∧ s.takesDeadline h.state = true := by
  have hm := List.mem_filter.1 (firstBy_mem hn)
  simp only [Bool.and_eq_true, decide_eq_true_eq] at hm
  exact ⟨hm.1, hm.2.1, hm.2.2⟩

/-- While the engine is reconciling only the deadline of an ACTIVE hold is taken (R74). -/
theorem State.reconciling_of_takesDeadline {h : HoldState} (ht : s.takesDeadline h = true) (hs : h ≠ .active) :
    s.reconciling = false := by
  rw [State.takesDeadline] at ht
  cases hm : s.mode <;> simp_all [State.reconciling]

theorem execRenewDeadlineExpiry_runs {t : State} (hF : G.frozen → s.reconciling = true) (h : execRenewDeadlineExpiry s = .next t) :
    Runs G .rest s .rest t := by
  unfold execRenewDeadlineExpiry at h
  split at h
  · cases h
    exact .refl
  · next hn =>
    split at h <;> cases h
    · next hs => exact s.expireRenewal_runs hs (s.nextDeadline_mem hn).1 rfl (Given.thawed hF)
    · exact .refl

theorem execGraceEndReclaim_runs {t : State} (hF : G.frozen → s.reconciling = true) (h : execGraceEndReclaim s = .next t) :
    Runs G .rest s .rest t := by
  unfold execGraceEndReclaim at h
  split at h
  · cases h
    exact .refl
  · next hn =>
    split at h <;> cases h
    · next hs =>
      obtain ⟨hm, -, ht⟩ := s.nextDeadline_mem hn
      exact s.reclaim_runs (fun _ => hm) rfl (Given.thawed hF (s.reconciling_of_takesDeadline ht (by simp [hs])))
    · exact .refl

theorem execLingerEnd_runs {t : State} (hF : G.frozen → s.reconciling = true) (h : execLingerEnd s = .next t) :
    Runs G .rest s .rest t := by
  unfold execLingerEnd at h
  split at h
  · cases h
    exact .refl
  · next hn =>
    split at h <;> cases h
    · next hs =>
      obtain ⟨hm, -, ht⟩ := s.nextDeadline_mem hn
      exact s.removeHold_runs .lingerEnd (fun _ => hm) rfl (Given.thawed hF (s.reconciling_of_takesDeadline ht (by simp [hs])))
    · exact .refl

theorem State.nextExpiry_mem {e : WaitEntry} (h : s.nextExpiry = some e) : e ∈ s.queues.entries :=
  (List.mem_filter.1 (firstBy_mem h)).1

theorem execWaitDeadlineExpiry_runs {t : State} (h : execWaitDeadlineExpiry s = .next t) : Runs G g s g t := by
  unfold execWaitDeadlineExpiry at h
  split at h <;> cases h
  · exact .refl
  · next hn => exact (s.unlinkAsking_runs fun _ => s.nextExpiry_mem hn).trans (State.toFarm_runs ..)

theorem State.timeOut_runs (e : Forward) : Runs G g s g (s.timeOut e) :=
  (Move.unforward _ List.eraseP_sublist).runs.trans ((State.setMgmt_runs ..).trans (State.retry_runs ..))

theorem execForwardDeadlineExpiry_runs {t : State} (h : execForwardDeadlineExpiry s = .next t) : Runs G g s g t := by
  unfold execForwardDeadlineExpiry at h
  split at h <;> cases h
  · exact .refl
  · exact s.timeOut_runs _

theorem execEpochBoundary_runs {t : State} (hG : G.Holds s) (h : execEpochBoundary s = .next t) : Runs G g s g t := by
  unfold execEpochBoundary at h
  split at h <;> cases h
  · exact .refl
  · have rolled : Runs G g s g (s.setTime { s.time with epochOwed := s.time.epochOwed - 1 }).rollEpoch :=
      (s.setTime_runs (by rfl)).trans (State.rollEpoch_runs _)
    exact rolled.trans (State.attemptSwitch_runs _ (rolled.holds hG).keys)

/-- A fold of operations that count on the request keys. -/
theorem Runs.foldl_keyed {α : Type} {s : State} (f : State → α → State) (l : List α) (hK : G.keys → KeysUnique s)
    (h : ∀ s a, (G.keys → KeysUnique s) → Runs G g s g (f s a)) : Runs G g s g (l.foldl f s) := by
  induction l generalizing s with
  | nil => exact .refl
  | cons a l ih => exact (h s a hK).trans (ih ((h s a hK).keysUnique hK))

theorem State.changeDay_runs (d : DayOwed) (hK : G.keys → KeysUnique s) : Runs G g s g (s.changeDay d) :=
  (Runs.foldl_keyed _ _ hK fun u p hK => u.denyEnded_runs _ p hK).trans (State.askAllOrdered_runs ..)

theorem execDayChange_runs {t : State} (hG : G.Holds s) (h : execDayChange s = .next t) : Runs G g s g t := by
  unfold execDayChange at h
  split at h <;> cases h
  · exact .refl
  · exact (s.setTime_runs (by rfl)).trans (State.changeDay_runs _ _ hG.keys)

/-! ### Passes -/

theorem State.entries_charge (p n m : Nat) (c : ChangeKind) (h : Hold) (x : Handle) :
    (s.charge p n m c h x).queues.entries = s.queues.entries := by
  simp only [State.charge]
  (repeat' split) <;> simp

/-- What the test of an entry by a pass leaves is a run: a stall keeps the store, a grant or denial takes the entry out (R85 to R89). -/
def Tested.From (G : Given) (s : State) (e : WaitEntry) : Tested → Prop
  | .unfit => True
  | .stalled t => Runs G .rest s .rest t
  | .gone t => Runs G .rest s .rest t ∧ t.queues.entries = s.queues.entries.eraseP (fun x => x.key = e.key)

theorem State.price_join {e : WaitEntry} {slot : Nat} {hold : Hold} (h : s.price e = .join slot hold) :
    (slot, hold) ∈ s.holds.slots ∧ hold.useCount ≠ 255 := by
  rw [State.price] at h
  repeat' split at h
  all_goals cases h
  next hn hu _ => exact ⟨s.namedHold_mem hn, hu⟩

theorem State.price_upgrade {e : WaitEntry} {slot tokens : Nat} {hold : Hold} (h : s.price e = .upgrade slot hold tokens) :
    (slot, hold) ∈ s.holds.slots ∧ hold.useCount ≠ 255 ∧ hold.tokens < tokens := by
  rw [State.price] at h
  repeat' split at h
  all_goals cases h
  next hn hu ht => exact ⟨s.namedHold_mem hn, hu, ht⟩

theorem State.testEntry_runs (e : WaitEntry) (hm : G.keys → e ∈ s.queues.entries) (hf : ¬G.frozen) :
    (s.testEntry e).From G s e := by
  have unlinked : ∀ (u : State) (b : FarmBody), Runs G .rest s .rest u → u.queues.entries = s.queues.entries →
      Tested.From G s e (.gone ((u.unlink e).toFarm e.addrs e.key b)) := fun u b hr hu =>
    ⟨hr.trans ((Move.unlink e fun hG => hu ▸ hm hG).runs.trans (State.toFarm_runs ..)), by simp [hu]⟩
  rw [State.testEntry]
  split
  · trivial
  · split
    · exact unlinked s _ .refl rfl
    · next hp =>
      obtain ⟨hslot, hu⟩ := s.price_join hp
      exact unlinked _ _ (s.joinHold_runs _ hslot hu) (by simp)
    · next hp =>
      obtain ⟨hslot, hu, ht⟩ := s.price_upgrade hp
      split
      · trivial
      · split
        · exact .refl
        · next hl =>
          exact unlinked _ _ (s.upgradeHold_runs _ hslot hu (Nat.le_of_lt ht) hl rfl hf)
            (by simp [State.upgradeHold, State.entries_charge])
    · split
      · trivial
      · split
        · exact s.raise_runs _
        · exact .refl
        · next hl =>
          exact unlinked _ _ (s.newHold_runs (hold := s.freshHold e.pool _ _ _ _ _) hl (s.used_freshHold ..) rfl hf)
            (by simp [State.newHold, State.entries_charge])

theorem State.stall_runs (p : Nat) : Runs G g s g (s.stall p) := s.modAcct_runs p fun _ => by constructor <;> rfl

theorem State.scan_runs (p : Nat) (es : List WaitEntry) (h : Waiting G s es) (hf : ¬G.frozen) :
    Runs G .rest s .rest (State.scan p es s) := by
  induction es generalizing s with
  | nil => exact .refl
  | cons e es ih =>
    have tested := s.testEntry_runs e h.head hf
    rw [State.scan]
    split <;> simp only [*, Tested.From] at tested
    · exact ih s (h.sublist (List.sublist_cons_self ..))
    · exact tested.trans (State.stall_runs ..)
    · exact tested.1.trans (ih _ (h.tail tested.2))

theorem State.serve_runs (p : Nat) (es : List WaitEntry) (h : Waiting G s es) (hf : ¬G.frozen) :
    Runs G .rest s .rest (State.serve p es s) := by
  induction es generalizing s with
  | nil => exact .refl
  | cons e es ih =>
    have tested := s.testEntry_runs e h.head hf
    rw [State.serve]
    split <;> simp only [*, Tested.From] at tested
    · split
      · exact s.scan_runs p es (h.sublist (List.sublist_cons_self ..)) hf
      · exact .refl
    · exact tested.trans (State.stall_runs ..)
    · exact tested.1.trans (ih _ (h.tail tested.2))

theorem State.reconciling_of_passBlocked {p : Nat} (h : s.passBlocked p = false) : s.reconciling = false := by
  simp only [State.passBlocked, Bool.or_eq_false_iff, decide_eq_false_iff_not] at h
  simp only [State.reconciling, decide_eq_false_iff_not]
  exact fun hm => h.1.1 (.inr (hm.imp_right .inl))

theorem State.runPass_runs (p : Nat) (hK : G.keys → KeysUnique s) (hF : G.frozen → s.reconciling = true) :
    Runs G .rest s .rest (s.runPass p) := by
  have begun : Runs G .rest s .rest (s.clearMarks p) := s.setQueues_runs rfl
  simp only [State.runPass]
  split
  · exact begun
  · next hb =>
    have hf : ¬G.frozen := Given.thawed hF ((State.reconciling_congr (by simp)).symm.trans
      ((s.clearMarks p).reconciling_of_passBlocked (by simpa using hb)))
    refine begun.trans ((State.modAcct_runs _ p fun _ => by constructor <;> rfl).trans (State.serve_runs _ p _ ?_ hf))
    exact (waiting_poolQueue (begun.keysUnique hK) p).congr (by simp)

theorem execQueueServicePass_runs {t : State} (p : Nat) (hG : G.Holds s) (hF : G.frozen → s.reconciling = true)
    (h : execQueueServicePass p s = .next t) : Runs G .rest s .rest t := by
  unfold execQueueServicePass at h
  split at h <;> cases h
  · exact s.runPass_runs p hG.keys hF
  · exact .refl

/-! ### The link -/

theorem State.goodProbe_runs (k : Key) (sequence : Word) (mark : Nat) : Runs G g s g (s.goodProbe k sequence mark) :=
  (((s.setLink_runs (by rfl)).trans ((State.hearProbe_runs _).trans (State.restartWindow_runs _))).trans (State.takeMark_runs ..)).trans
    (State.sendEcho_runs ..)

theorem State.badProbe_runs : Runs G g s g s.badProbe :=
  ((s.setLink_runs (by rfl)).trans (State.missProbe_runs ..)).trans (State.restartWindow_runs _)

theorem execProbe_runs {t : State} (h : execProbe s = .next t) : Runs G g s g t := by
  unfold execProbe at h
  split at h <;> cases h
  · exact (s.takeMessage_runs ..).trans (State.goodProbe_runs ..)
  · exact (Move.popIntake .service).runs.trans ((State.countPort_runs ..).trans (State.badProbe_runs _))
  · exact .refl

theorem execWindowExpiry_runs {t : State} (h : execWindowExpiry s = .next t) : Runs G g s g t := by
  unfold execWindowExpiry at h
  split at h <;> cases h
  · exact (s.missProbe_runs _).trans (State.restartWindow_runs _)
  · exact .refl

end Sys2Proof.Machine
end

section
/-! PROOFS. The management requests as runs of moves, and with them every command and step. -/

namespace Sys2Proof.Machine

open Host

variable {G : Given} {g : Underway} (s : State)

/-! ### Taking and answering -/

theorem State.answerMgmt_runs (k : Key) (r : MgmtReply) : Runs G .request s .rest (s.answerMgmt k r) := (Move.answer k r).runs

theorem State.manage_runs (f : Frame) {act : State → State} (hG : G.Holds s)
    (ha : ∀ u : State, u.mode = s.mode → u.reserved = 1 → G.Holds u → Runs G .request u .rest (act u)) :
    Runs G .rest s .rest (s.manage f act) := by
  have taken : Runs G .rest s .rest (s.takeMessage .service f) := s.takeMessage_runs ..
  rw [State.manage]
  split
  · next hr =>
    have begun := taken.trans (Move.beginRequest hr).runs
    exact begun.trans (ha _ (by simp) rfl (begun.holds hG))
  · exact taken.trans (State.setMgmt_runs ..)

/-- Before its reply a request makes a run of its own. -/
theorem Runs.answered {s u : State} (r : Runs G .request s .request u) (k : Key) (a : MgmtReply) :
    Runs G .request s .rest (u.answerMgmt k a) := r.trans (u.answerMgmt_runs k a)

/-! ### The Management Unit and the banks -/

theorem execIdentify_runs {t : State} (hG : G.Holds s) (h : execIdentify s = .next t) : Runs G .rest s .rest t := by
  unfold execIdentify at h
  split at h <;> cases h
  · exact s.manage_runs _ hG fun u _ _ _ => u.answerMgmt_runs ..
  · exact .refl

theorem execReadStatus_runs {t : State} (hG : G.Holds s) (h : execReadStatus s = .next t) : Runs G .rest s .rest t := by
  unfold execReadStatus at h
  split at h <;> cases h
  · exact s.manage_runs _ hG fun u _ _ _ => u.answerMgmt_runs ..
  · exact .refl

theorem execReadPool_runs {t : State} (hG : G.Holds s) (h : execReadPool s = .next t) : Runs G .rest s .rest t := by
  unfold execReadPool at h
  split at h <;> cases h
  · refine s.manage_runs _ hG fun u _ _ _ => ?_
    rw [State.readPool]
    split <;> exact u.answerMgmt_runs ..
  · exact .refl

theorem State.setParams_runs (p : Params) : Runs G g s g (s.setParams p) := by
  simp only [State.setParams]
  split
  · exact s.setMgmt_runs _
  · exact (s.setMgmt_runs _).trans (State.setTime_runs _ rfl)

theorem execSetParameters_runs {t : State} (hG : G.Holds s) (h : execSetParameters s = .next t) : Runs G .rest s .rest t := by
  unfold execSetParameters at h
  split at h <;> cases h
  · exact s.manage_runs _ hG fun u _ _ _ => ((u.setParams_runs _).trans (State.checkAutonomy_runs _)).answered ..
  · exact .refl

theorem execSetNotify_runs {t : State} (hG : G.Holds s) (h : execSetNotify s = .next t) : Runs G .rest s .rest t := by
  unfold execSetNotify at h
  split at h <;> cases h
  · exact s.manage_runs _ hG fun u _ _ _ => (u.setMgmt_runs _).answered ..
  · exact .refl

theorem execClearEvents_runs {t : State} (hG : G.Holds s) (h : execClearEvents s = .next t) : Runs G .rest s .rest t := by
  unfold execClearEvents at h
  split at h <;> cases h
  · exact s.manage_runs _ hG fun u _ _ _ => (u.setMgmt_runs _).answered ..
  · exact .refl

theorem Bank.rising_load {b : Bank} (r : CarriedRecord) (h : Table.Rising b.records) : Table.Rising (b.load r).records := by
  rw [Bank.load]
  split
  · exact Table.rising_remove _ h
  · split
    · exact h
    · exact Table.rising_put _ _ h

theorem Bank.rising_loads (rs : List CarriedRecord) {b : Bank} (h : Table.Rising b.records) :
    Table.Rising (rs.foldl Bank.load b).records := by
  induction rs generalizing b with
  | nil => exact h
  | cons r rs ih => exact ih (b.rising_load r h)

theorem execLoadPools_runs {t : State} (hG : G.Holds s) (h : execLoadPools s = .next t) : Runs G .rest s .rest t := by
  unfold execLoadPools at h
  split at h <;> cases h
  · refine s.manage_runs _ hG fun u _ _ _ => ?_
    rw [State.loadPools]
    split
    · exact u.answerMgmt_runs ..
    · exact (Move.load _ (Bank.rising_loads _)).runs.answered ..
  · exact .refl

theorem execLoadGroups_runs {t : State} (hG : G.Holds s) (h : execLoadGroups s = .next t) : Runs G .rest s .rest t := by
  unfold execLoadGroups at h
  split at h <;> cases h
  · refine s.manage_runs _ hG fun u _ _ _ => ?_
    rw [State.loadGroups]
    split
    · exact u.answerMgmt_runs ..
    · split
      · exact u.answerMgmt_runs ..
      · exact (Move.load _ fun h => by exact h).runs.answered ..
  · exact .refl

theorem execClearShadow_runs {t : State} (hG : G.Holds s) (h : execClearShadow s = .next t) : Runs G .rest s .rest t := by
  unfold execClearShadow at h
  split at h <;> cases h
  · exact s.manage_runs _ hG fun u _ _ _ => (Move.load Bank.blank fun _ => List.Pairwise.nil).runs.answered ..
  · exact .refl

@[simp] theorem State.deferred_markReassign (ps : List Nat) : (s.markReassign ps).deferred = s.deferred := by
  induction ps generalizing s with
  | nil => rfl
  | cons p ps ih => exact ih _

theorem State.makePending_runs (expected : Nat) : Runs G g s g (s.makePending expected) := by
  refine (s.clearReassign_runs.trans (State.markReassign_runs _ s.changedPools)).trans (SameCore.runs ?_)
  constructor <;> simp [State.makePending]

theorem execSwitch_runs {t : State} (hG : G.Holds s) (h : execSwitch s = .next t) : Runs G .rest s .rest t := by
  unfold execSwitch at h
  split at h <;> cases h
  · refine s.manage_runs _ hG fun u _ _ hu => ?_
    rw [State.takeSwitch]
    split
    · exact u.answerMgmt_runs ..
    · split
      · exact ((u.applySwitch_runs hu.keys).trans (State.setMode_runs ..)).answered ..
      · exact (u.makePending_runs _).answered ..
  · exact .refl

/-! ### DELEGATE and CENSUS -/

theorem modeOf_ne_absent {code : Nat} {m : DelegationState} (h : modeOf code = some m) : m ≠ .absent := by
  rw [modeOf] at h
  repeat' split at h
  all_goals cases h
  all_goals simp

theorem State.delegatePool_runs (p d : Nat) {m : DelegationState} (hm : m ≠ .absent) (hf : ¬G.frozen) :
    Runs G g s g (s.delegatePool p d m) := (Move.delegate p d m hm hf).runs.trans (State.respond_runs ..)

/-- The states in which the engine works are none of those in which it reconciles. -/
theorem State.reconciling_of_working (h : s.working = true) : s.reconciling = false := by
  cases hm : s.mode <;> simp_all [State.working, State.reconciling]

theorem State.reconciling_of_settles (h : s.settles = true) : s.reconciling = false := by
  cases hm : s.mode <;> simp_all [State.settles, State.reconciling]

theorem State.delegate_runs (k : Key) (p d mode : Nat) (hF : G.frozen → s.reconciling = true) :
    Runs G .request s .rest (s.delegate k p d mode) := by
  rw [State.delegate]
  split
  · exact s.answerMgmt_runs ..
  · next m hm =>
    split
    · exact s.answerMgmt_runs ..
    · split
      · exact s.answerMgmt_runs ..
      · next hw =>
        split
        · exact s.answerMgmt_runs ..
        · split
          · exact s.answerMgmt_runs ..
          · exact (s.delegatePool_runs p d (modeOf_ne_absent hm)
              (Given.thawed hF (s.reconciling_of_working (by simpa using hw)))).answered ..

theorem execDelegate_runs {t : State} (hG : G.Holds s) (hF : G.frozen → s.reconciling = true) (h : execDelegate s = .next t) :
    Runs G .rest s .rest t := by
  unfold execDelegate at h
  split at h <;> cases h
  · exact s.manage_runs _ hG fun u hu _ _ => u.delegate_runs _ _ _ _ fun hf => State.reconciling_congr hu ▸ hF hf
  · exact .refl

theorem State.census_runs (k : Key) (first count : Nat) (hF : G.frozen → s.reconciling = true) :
    Runs G .request s .rest (s.census k first count) := by
  simp only [State.census]
  split
  · exact s.answerMgmt_runs ..
  · split
    · exact s.answerMgmt_runs ..
    · refine Runs.answered ?_ ..
      split
      · next hs =>
        exact Runs.foldl _ _ fun u p _ => (Move.settle p (Given.thawed hF (s.reconciling_of_settles hs))).runs
      · exact .refl

theorem execCensus_runs {t : State} (hG : G.Holds s) (hF : G.frozen → s.reconciling = true) (h : execCensus s = .next t) :
    Runs G .rest s .rest t := by
  unfold execCensus at h
  split at h <;> cases h
  · exact s.manage_runs _ hG fun u hu _ _ => u.census_runs _ _ _ fun hf => State.reconciling_congr hu ▸ hF hf
  · exact .refl

/-! ### REVOKE -/

@[simp] theorem State.upstream_pushUp (e : UpEntry) : (s.pushUp e).svc.upstream = s.svc.upstream ++ [e] := rfl

theorem State.seatCount_pushUp {e : UpEntry} (he : e.seatTraffic = true) : (s.pushUp e).seatCount = s.seatCount + 1 := by
  simp [State.seatCount, he]

theorem State.seatRoom_iff : s.seatRoom = true ↔
    s.seatCount < Config.upstreamSeat ∧ s.svc.upstream.length + s.reserved < Config.upstream := decide_eq_true_iff

theorem State.mgmtRoom_iff : s.mgmtRoom = true ↔ s.svc.upstream.length + s.reserved < Config.upstream := decide_eq_true_iff

/-- Entries of seat traffic are queued one after another where there is room for them all. -/
theorem Runs.pushSeats {α : Type} (f : α → UpEntry) (l : List α) (he : ∀ a, (f a).seatTraffic = true) (hk : g.kept = 0)
    (hs : s.seatCount + l.length ≤ Config.upstreamSeat)
    (ha : s.svc.upstream.length + l.length + s.reserved ≤ Config.upstream) :
    Runs G g s g (l.foldl (fun t a => t.pushUp (f a)) s) := by
  induction l generalizing s with
  | nil => exact .refl
  | cons a l ih =>
    rw [List.length_cons] at hs ha
    refine (Move.pushSeat (f a) (he a) (s.seatRoom_iff.2 ⟨by omega, by omega⟩) hk).runs.trans (ih _ ?_ ?_)
    · rw [s.seatCount_pushUp (he a)]; omega
    · simp only [State.upstream_pushUp, List.length_append, List.length_singleton, State.pushUp_kept]; omega

theorem State.sendTransfers_runs (k : Key) (p n : Nat) (hroom : s.transferRoom n = true) (hr : s.reserved = 1) :
    Runs G .request s .request (s.sendTransfers k p n) := by
  obtain ⟨hs, ha⟩ : s.seatCount + n ≤ Config.upstreamSeat ∧ s.svc.upstream.length + n + 1 ≤ Config.upstream := of_decide_eq_true hroom
  exact Runs.pushSeats s _ _ (fun _ => rfl) rfl (by simpa using hs) (by simpa [hr] using ha)

@[simp] theorem State.slots_takeAway (slot : Nat) : (s.takeAway slot).holds.slots = Table.remove s.holds.slots slot := by
  rw [State.takeAway, State.slotFreed]
  split <;> simp

theorem State.mem_slots_takeAways (es : List (Nat × Hold)) (x : Nat × Hold) :
    x ∈ (es.foldl (fun t e => t.takeAway e.1) s).holds.slots ↔ x ∈ s.holds.slots ∧ ∀ e ∈ es, x.1 ≠ e.1 := by
  induction es generalizing s with
  | nil => simp
  | cons e es ih => simp [ih, Table.mem_remove, and_assoc]

theorem State.takeAways_runs (p : Nat) (es : List (Nat × Hold)) (hg : g.stripping = some p)
    (h : G.slots → ∀ e ∈ es, ∀ x, (e.1, x) ∈ s.holds.slots → x.pool = p) :
    Runs G g s g (es.foldl (fun t e => t.takeAway e.1) s) := by
  induction es generalizing s with
  | nil => exact .refl
  | cons e es ih =>
    refine ((Move.takeAway p e.1 hg fun hG => h hG e (List.mem_cons_self ..)).runs.trans (State.slotFreed_runs ..)).trans
      (ih _ fun hG x hx y hy => ?_)
    have hy' : (x.1, y) ∈ (s.takeAway e.1).holds.slots := hy
    rw [State.slots_takeAway, Table.mem_remove] at hy'
    exact h hG x (List.mem_cons_of_mem _ hx) y hy'.1

/-- A list of entries taken out of the store by key. -/
theorem foldl_eraseP_eq_filter (es : List WaitEntry) {l : List WaitEntry} (h : (l.map (fun e => e.key)).Nodup) :
    es.foldl (fun l e => l.eraseP (fun x => x.key = e.key)) l = l.filter (fun x => ∀ e ∈ es, x.key ≠ e.key) := by
  induction es generalizing l with
  | nil => exact (List.filter_eq_self.2 fun _ _ => by simp).symm
  | cons e es ih =>
    rw [List.foldl_cons, ih (h.sublist (keys_eraseP_sublist ..)), eraseP_key_eq_filter _ h, List.filter_filter]
    congr 1
    funext x
    simp [Bool.and_comm]

theorem State.entries_foldl {f : State → WaitEntry → State}
    (hf : ∀ s e, (f s e).queues.entries = s.queues.entries.eraseP (fun x => x.key = e.key)) (es : List WaitEntry) (s : State) :
    (es.foldl f s).queues.entries = es.foldl (fun l e => l.eraseP (fun x => x.key = e.key)) s.queues.entries := by
  induction es generalizing s with
  | nil => rfl
  | cons e es ih => rw [List.foldl_cons, ih, hf, List.foldl_cons]

/-- A pool whose entries have all been taken out of the store has no queue. -/
theorem State.poolQueue_foldl {s : State} (h : KeysUnique s) (p : Nat) {f : State → WaitEntry → State}
    (hf : ∀ s e, (f s e).queues.entries = s.queues.entries.eraseP (fun x => x.key = e.key)) :
    ((s.poolQueue p).foldl f s).poolQueue p = [] := by
  rw [State.poolQueue, State.entries_foldl hf, foldl_eraseP_eq_filter _ h.entries_nodup, List.filter_eq_nil_iff]
  intro e he hp
  obtain ⟨hm, hn⟩ := List.mem_filter.1 he
  exact of_decide_eq_true hn e (List.mem_filter.2 ⟨hm, hp⟩) rfl

theorem State.stripPool_runs (p : Nat) (hG : G.Holds s) (hf : ¬G.frozen) : Runs G .rest s .rest (s.stripPool p) := by
  have begun : Runs G .rest s { Underway.rest with stripping := some p } s := (Move.beginStrip p rfl).runs
  have hown : G.slots → ∀ e ∈ s.holdsOf p, ∀ x, (e.1, x) ∈ s.holds.slots → x.pool = p := by
    intro hs e he x hx
    obtain ⟨hm, hp⟩ := List.mem_filter.1 he
    have hr := (hG.slots hs).1
    have hex : some x = some e.2 := (Table.get?_of_mem hr hx).symm.trans (Table.get?_of_mem hr hm)
    rw [Option.some.inj hex]
    exact of_decide_eq_true hp
  have removed := begun.trans (s.takeAways_runs p (s.holdsOf p) rfl hown)
  simp only [State.stripPool]
  generalize hr : (s.holdsOf p).foldl (fun t e => t.takeAway e.1) s = r at removed
  have handed := removed.trans
    (Runs.foldl_waiting _ (waiting_poolQueue (removed.keysUnique hG.keys) p) (fun u _ _ hm => u.revokeEntry_runs hm rfl) (by simp))
  refine handed.trans (Move.endStrip (g := .rest) p rfl (fun _ => ?_) (fun hk => ?_) hf).runs
  · rw [State.holdsOf, List.filter_eq_nil_iff]
    intro x hx hp
    rw [(State.revokeEntries_kept _ _).2.2.2.2.2.1, ← hr, State.mem_slots_takeAways] at hx
    exact hx.2 x (List.mem_filter.2 ⟨hx.1, hp⟩) rfl
  · exact State.poolQueue_foldl (removed.keysUnique hG.keys hk) p (by simp)

theorem State.revoke_runs (k : Key) (p : Nat) (hG : G.Holds s) (hr : s.reserved = 1) (hF : G.frozen → s.reconciling = true) :
    Runs G .request s .rest (s.revoke k p) := by
  simp only [State.revoke]
  split
  · exact s.answerMgmt_runs ..
  · split
    · exact s.answerMgmt_runs ..
    · next hw =>
      split
      · exact s.answerMgmt_runs ..
      · split
        · exact s.answerMgmt_runs ..
        · next hroom =>
          have told := (s.sendTransfers_runs (G := G) k p _ (by simpa using hroom) hr).answered k
            { kind := .revoke, status := .ok, body := s.revokedBody p (framesFor (s.holdsOf p).length) }
          exact told.trans (State.stripPool_runs _ p (told.holds hG) (Given.thawed hF (s.reconciling_of_working (by simpa using hw))))

theorem execRevoke_runs {t : State} (hG : G.Holds s) (hF : G.frozen → s.reconciling = true) (h : execRevoke s = .next t) :
    Runs G .rest s .rest t := by
  unfold execRevoke at h
  split at h <;> cases h
  · exact s.manage_runs _ hG fun u hu hr hK => u.revoke_runs _ _ hK hr fun hf => State.reconciling_congr hu ▸ hF hf
  · exact .refl

/-! ### Lists, EVICT, DRAIN, UNDRAIN, SET_TIME and INJECT_ECHO_ERROR -/

theorem execListHolds_runs {t : State} (hG : G.Holds s) (h : execListHolds s = .next t) : Runs G .rest s .rest t := by
  unfold execListHolds at h
  split at h <;> cases h
  · refine s.manage_runs _ hG fun u _ _ _ => ?_
    rw [State.listHolds]
    split <;> exact u.answerMgmt_runs ..
  · exact .refl

theorem execListQueue_runs {t : State} (hG : G.Holds s) (h : execListQueue s = .next t) : Runs G .rest s .rest t := by
  unfold execListQueue at h
  split at h <;> cases h
  · refine s.manage_runs _ hG fun u _ _ _ => ?_
    rw [State.listQueue]
    split <;> exact u.answerMgmt_runs ..
  · exact .refl

theorem State.evict_runs (k : Key) (handle : Handle) (hF : G.frozen → s.reconciling = true) :
    Runs G .request s .rest (s.evict k handle) := by
  rw [State.evict]
  split
  · exact s.answerMgmt_runs ..
  · next hm =>
    split
    · exact s.answerMgmt_runs ..
    · next hn =>
      have hf : ¬G.frozen := fun h => hm (.inl (hF h))
      exact (s.removeHold_runs .evict (fun _ => s.namedHold_mem hn) rfl hf).answered ..

theorem execEvict_runs {t : State} (hG : G.Holds s) (hF : G.frozen → s.reconciling = true) (h : execEvict s = .next t) :
    Runs G .rest s .rest t := by
  unfold execEvict at h
  split at h <;> cases h
  · exact s.manage_runs _ hG fun u hu _ _ => u.evict_runs _ _ fun hf => State.reconciling_congr hu ▸ hF hf
  · exact .refl

theorem execDrain_runs {t : State} (hG : G.Holds s) (h : execDrain s = .next t) : Runs G .rest s .rest t := by
  unfold execDrain at h
  split at h <;> cases h
  · refine s.manage_runs _ hG fun u _ _ hu => ?_
    rw [State.drain]
    split
    case h_1 => exact (u.enterDraining_runs hu.keys rfl).answered ..
    all_goals exact u.answerMgmt_runs ..
  · exact .refl

theorem execUndrain_runs {t : State} (hG : G.Holds s) (h : execUndrain s = .next t) : Runs G .rest s .rest t := by
  unfold execUndrain at h
  split at h <;> cases h
  · refine s.manage_runs _ hG fun u _ _ _ => ?_
    rw [State.undrain]
    split
    case h_2 => exact (u.setMode_runs _).answered ..
    all_goals exact u.answerMgmt_runs ..
  · exact .refl

theorem State.takeSetTime_runs (k : Key) (mode value : Nat) : Runs G .request s .rest (s.takeSetTime k mode value) := by
  rw [State.takeSetTime]
  split
  · exact s.answerMgmt_runs ..
  · next hv =>
    split
    · exact ((s.stepTo_runs value).trans (State.setTimeSource_runs _)).answered ..
    · split
      · exact ((s.rebaseTo_runs (by omega)).trans (State.setTimeSource_runs _)).answered ..
      · exact s.answerMgmt_runs ..

theorem execSetTime_runs {t : State} (hG : G.Holds s) (h : execSetTime s = .next t) : Runs G .rest s .rest t := by
  unfold execSetTime at h
  split at h <;> cases h
  · exact s.manage_runs _ hG fun u _ _ _ => u.takeSetTime_runs ..
  · exact .refl

theorem execInjectEchoError_runs {t : State} (hG : G.Holds s) (h : execInjectEchoError s = .next t) : Runs G .rest s .rest t := by
  unfold execInjectEchoError at h
  split at h <;> cases h
  · exact s.manage_runs _ hG fun u _ _ _ => (u.setLink_runs (by rfl)).answered ..
  · exact .refl

/-! ### The Reconciliation Unit -/

theorem State.acceptReconcile_runs (k : Key) : Runs G .request s .rest (s.acceptReconcile k) :=
  (((s.setRecon_runs _).trans (State.setMode_runs ..)).answered ..).trans (State.testReconciling_runs _)

theorem State.latchReconcile_runs (k : Key) : Runs G .request s .rest (s.latchReconcile k) := by
  rw [State.latchReconcile]
  split
  · exact s.answerMgmt_runs ..
  · exact (s.setRecon_runs _).answered ..

theorem execReconcile_runs {t : State} (hG : G.Holds s) (h : execReconcile s = .next t) : Runs G .rest s .rest t := by
  unfold execReconcile at h
  split at h <;> cases h
  · refine s.manage_runs _ hG fun u _ _ _ => ?_
    rw [State.reconcile]
    split
    case h_1 => exact u.acceptReconcile_runs _
    case h_2 => exact u.acceptReconcile_runs _
    case h_3 => exact u.latchReconcile_runs _
    case h_4 => exact u.latchReconcile_runs _
    all_goals exact u.answerMgmt_runs ..
  · exact .refl

theorem execImageRead_runs {t : State} (hG : G.Holds s) (h : execImageRead s = .next t) : Runs G .rest s .rest t := by
  unfold execImageRead at h
  split at h <;> cases h
  · refine s.manage_runs _ hG fun u _ _ _ => ?_
    rw [State.imageRead]
    split
    · exact u.answerMgmt_runs ..
    · split <;> exact u.answerMgmt_runs ..
  · exact .refl

theorem execImageWrite_runs {t : State} (hG : G.Holds s) (h : execImageWrite s = .next t) : Runs G .rest s .rest t := by
  unfold execImageWrite at h
  split at h <;> cases h
  · refine s.manage_runs _ hG fun u _ _ _ => ?_
    rw [State.imageWrite]
    split
    · exact u.answerMgmt_runs ..
    · split
      · exact u.answerMgmt_runs ..
      · split
        · exact u.answerMgmt_runs ..
        · exact (u.setRecon_runs _).answered ..
  · exact .refl

theorem State.enterFaultHold_runs (hK : G.keys → KeysUnique s) : Runs G g s g s.enterFaultHold :=
  ((s.setMode_runs .faultHold).trans
    (Runs.foldl_waiting _ (waiting_entriesByPool hK) (fun _ e _ hm => (Move.unlink e hm).runs.trans (State.retry_runs ..))
      (by simp))).trans (Move.unforward _ (List.nil_sublist _)).runs

theorem State.resumeFault_runs (k : Key) (offset : Nat) (hK : G.keys → KeysUnique s) :
    Runs G .request s .rest (s.resumeFault k offset) := by
  have raised : Runs G .request s .request ((s.setRecon { s.recon with faultOffset := some offset }).raise .reconcileFault) :=
    (s.setRecon_runs _).trans (State.raise_runs ..)
  exact ((raised.trans (State.enterFaultHold_runs _ (raised.keysUnique hK))).trans (State.setRecon_runs ..)).answered ..

theorem State.relocationBoundary_runs (before : State) : Runs G g s g (State.relocationBoundary before s) := by
  rw [State.relocationBoundary]
  split
  · exact .refl
  · exact (s.setTime_runs (by rfl)).trans (State.rollEpoch_runs _)

theorem State.relocate_runs (value : Nat) : Runs G g s g (s.relocate value) := by
  rw [State.relocate]
  split
  · exact .refl
  · exact (((s.stepTo_runs value).trans (State.setTimeSource_runs _)).trans (State.relocationBoundary_runs ..)).trans
      (State.staleReached_runs _)

theorem State.resumeValues_runs (image : List Word) (hf : ¬G.frozen) : Runs G g s g (s.resumeValues image) := by
  refine (s.relocate_runs _).trans (Runs.foldl _ _ fun u i _ => u.delegatePool_runs _ _ ?_ hf)
  split <;> simp

theorem State.queueAction_runs (image : List Word) (hK : G.keys → KeysUnique s) : Runs G g s g (s.queueAction image) := by
  rw [State.queueAction]
  split
  · exact s.dismissAll_runs _ (waiting_entriesByPool hK)
  · exact .refl

theorem State.resumeState_runs (image : List Word) (hK : G.keys → KeysUnique s) (hk : g.kept = 0) :
    Runs G g s g (s.resumeState image) := by
  rw [State.resumeState]
  split
  · exact s.enterDraining_runs hK hk
  · exact s.setMode_runs _

theorem State.resumeValid_runs (k : Key) (image : List Word) (hG : G.Holds s) (hf : ¬G.frozen) :
    Runs G .request s .rest (s.resumeValid k image) := by
  have valued : Runs G .request s .request (s.resumeValues image) := s.resumeValues_runs image hf
  have acted := valued.trans (State.queueAction_runs _ image (valued.keysUnique hG.keys))
  have entered : Runs G .request s .request (((s.resumeValues image).queueAction image).resumeState image).dropImage :=
    (acted.trans (State.resumeState_runs _ image (acted.keysUnique hG.keys) rfl)).trans (State.setRecon_runs ..)
  simp only [State.resumeValid]
  split
  · exact ((entered.trans ((State.setRecon_runs ..).trans (State.setMode_runs ..))).answered ..).trans (State.testReconciling_runs _)
  · exact ((entered.trans (State.endOverdue_runs _ (entered.slotsListed hG.slots) rfl hf)).answered ..).trans
      (State.askAllOrdered_runs ..)

theorem execResume_runs {t : State} (hG : G.Holds s) (hf : ¬G.frozen) (h : execResume s = .next t) : Runs G .rest s .rest t := by
  unfold execResume at h
  split at h <;> cases h
  · refine s.manage_runs _ hG fun u _ _ hu => ?_
    rw [State.resume]
    split
    · exact u.answerMgmt_runs ..
    · split
      · exact u.resumeFault_runs _ _ hu.keys
      · exact u.resumeValid_runs _ _ hu hf
  · exact .refl

/-! ### Every command -/

/-- Every command but the restarts is a run of moves, and no tokens move in it where the engine is reconciling and the command is not
RESUME (R156). -/
theorem exec_runs (c : Instr) {t : State} (hc : restarts c = false) (hG : G.Holds s)
    (hF : G.frozen → s.reconciling = true ∧ c ≠ .resume) (h : exec c s = .next t) : Runs G .rest s .rest t := by
  have hR : G.frozen → s.reconciling = true := fun hf => (hF hf).1
  cases c with
  | frameReceive port f => exact execFrameReceive_runs s port f h
  | farmPauseRefresh => exact execFarmPauseRefresh_runs s h
  | bridgeFramePass port => exact execBridgeFramePass_runs s port h
  | servicePauseFrame q => exact execServicePauseFrame_runs s q h
  | servicePauseExpiry => exact execServicePauseExpiry_runs s h
  | frameTransmit port => exact execFrameTransmit_runs s port h
  | protocolError port => exact execProtocolError_runs s port h
  | checkout => exact execCheckout_runs s hG hR h
  | checkin => exact execCheckin_runs s hG hR h
  | renew => exact execRenew_runs s hG h
  | cancel => exact execCancel_runs s hG h
  | query => exact execQuery_runs s hG h
  | serviceReplyRelay => exact execServiceReplyRelay_runs s hG h
  | probe => exact execProbe_runs s h
  | windowExpiry => exact execWindowExpiry_runs s h
  | autonomyLimitReached =>
    cases h
    exact s.checkAutonomy_runs
  | renewDeadlineExpiry => exact execRenewDeadlineExpiry_runs s hR h
  | graceEndReclaim => exact execGraceEndReclaim_runs s hR h
  | lingerEnd => exact execLingerEnd_runs s hR h
  | waitDeadlineExpiry => exact execWaitDeadlineExpiry_runs s h
  | forwardDeadlineExpiry => exact execForwardDeadlineExpiry_runs s h
  | queueServicePass p => exact execQueueServicePass_runs s p hG hR h
  | epochBoundary => exact execEpochBoundary_runs s hG h
  | dayChange => exact execDayChange_runs s hG h
  | identify => exact execIdentify_runs s hG h
  | readStatus => exact execReadStatus_runs s hG h
  | readPool => exact execReadPool_runs s hG h
  | setParameters => exact execSetParameters_runs s hG h
  | setNotify => exact execSetNotify_runs s hG h
  | clearEvents => exact execClearEvents_runs s hG h
  | restart => cases hc
  | powerOnReset => cases hc
  | lineReset low => cases hc
  | loadPools => exact execLoadPools_runs s hG h
  | loadGroups => exact execLoadGroups_runs s hG h
  | clearShadow => exact execClearShadow_runs s hG h
  | switch => exact execSwitch_runs s hG h
  | delegate => exact execDelegate_runs s hG hR h
  | census => exact execCensus_runs s hG hR h
  | revoke => exact execRevoke_runs s hG hR h
  | listHolds => exact execListHolds_runs s hG h
  | listQueue => exact execListQueue_runs s hG h
  | evict => exact execEvict_runs s hG hR h
  | drain => exact execDrain_runs s hG h
  | undrain => exact execUndrain_runs s hG h
  | setTime => exact execSetTime_runs s hG h
  | injectEchoError => exact execInjectEchoError_runs s hG h
  | reconcile => exact execReconcile_runs s hG h
  | imageRead => exact execImageRead_runs s hG h
  | imageWrite => exact execImageWrite_runs s hG h
  | resume => exact execResume_runs s hG (fun hf => (hF hf).2 rfl) h
  | seatFrameDrop port => exact execSeatFrameDrop_runs s port h

theorem State.tick_runs : Runs G g s g s.tick := by
  have clocked : ∀ n, Runs G g s g (s.setClk n) := fun n => SameCore.runs (by constructor <;> rfl)
  rw [State.tick]
  split
  · rw [State.advance]
    split
    · exact (clocked _).trans (State.moveTime_runs _ (Nat.le_succ _))
    · exact clocked _
  · exact clocked _

end Sys2Proof.Machine
end

section
/-! PROOFS. The invariants: each is a fact about single moves, about the restarts, and so about every step. -/

namespace Sys2Proof.Machine

open Host

/-! ### Steps -/

/-- Where a restart or reset begins anew: nowhere, or in the state that it leaves of the one it is made in (R193, R194). -/
inductive Begun (s : State) : State → Prop
  | same : Begun s s
  | restarted (cause : RestartCause) (slot : Option UpEntry) (pause : Option Nat) : Begun s (s.restarted cause slot pause)
  | cleared (slot : Option UpEntry) : Begun s (s.dynamicCleared slot)

/-- A restart or reset is a run, a new beginning, and a run. -/
theorem exec_restarts {G : Given} {c : Instr} {s t : State} (hc : restarts c = true) (h : exec c s = .next t) :
    ∃ v u, Runs G .rest s .rest v ∧ Begun v u ∧ Runs G .rest u .rest t := by
  cases c with
  | restart =>
    change execRestart s = .next t at h
    unfold execRestart at h
    split at h <;> cases h
    · next f k scope _ =>
      refine ⟨s.takeMessage .service f, ?_⟩
      rw [State.restart]
      split
      · exact ⟨_, s.takeMessage_runs .service _, .restarted .., .refl⟩
      · split
        · exact ⟨_, s.takeMessage_runs .service _, .cleared _, State.raise_runs ..⟩
        · exact ⟨_, s.takeMessage_runs .service _, .same, State.setSvc_runs _ rfl rfl⟩
    · exact ⟨s, s, .refl, .same, .refl⟩
  | powerOnReset =>
    cases h
    exact ⟨s, _, .refl, .restarted .powerOn none none, SameCore.runs (by constructor <;> rfl)⟩
  | lineReset low =>
    change execLineReset low s = .next t at h
    unfold execLineReset at h
    repeat' split at h
    all_goals cases h
    · exact ⟨s, s, .refl, .same, SameCore.runs (by constructor <;> rfl)⟩
    · exact ⟨s, _, .refl, .restarted .lineReset none none, SameCore.runs (by constructor <;> rfl)⟩
    · exact ⟨s, s, .refl, .same, .refl⟩
  | _ => cases hc

/-- What every move and every new beginning keeps, a step keeps. -/
theorem step_keeps {G : Given} {P : Underway → State → Prop} (hf : ¬G.frozen) (hG : ∀ {s}, P .rest s → G.Holds s)
    (hmove : ∀ {g s g' t}, Move G g s g' t → P g s → P g' t) (hbegun : ∀ {s u}, Begun s u → P .rest s → P .rest u) {s t : State}
    (h : P .rest s) (hs : step s = .next t) : P .rest t := by
  have command : ∀ {c : Instr} {s : State}, P .rest s → exec c s = .next t → P .rest t := by
    intro c s h hs
    cases hc : restarts c with
    | false => exact (exec_runs s c hc (hG h) (fun hx => absurd hx hf) hs).keeps hmove h
    | true =>
      obtain ⟨v, u, hv, hu, ht⟩ := exec_restarts (G := G) hc hs
      exact ht.keeps hmove (hbegun hu (hv.keeps hmove h))
  unfold step at hs
  split at hs
  · exact command (Runs.keeps hmove (SameCore.runs (by constructor <;> rfl)) h) hs
  · unfold State.idle at hs
    split at hs
    · exact command h hs
    · cases hs
      exact (State.tick_runs s).keeps hmove h

/-- A step that counts on nothing. -/
def Given.nothing : Given := { keys := False, slots := False, frozen := False }

theorem Given.nothing_holds (s : State) : Given.nothing.Holds s := ⟨False.elim, False.elim⟩

variable {G : Given} {g g' : Underway} {s t : State}

/-! ### The banks (R1, R9) -/

theorem Move.indexFollows (m : Move G g s g' t) (h : IndexFollows s) : IndexFollows t := by
  cases m with
  | still hc => rwa [IndexFollows, hc.index, hc.active]
  | load b hb => exact h
  | switch => rfl
  | _ => rw [IndexFollows] at h ⊢; simpa using h

theorem Move.banksListed (m : Move G g s g' t) (h : BanksListed s) : BanksListed t := by
  cases m with
  | still hc => rwa [BanksListed, hc.shadow, hc.active]
  | load b hb => exact ⟨hb h.1, h.2⟩
  | switch => exact ⟨h.1, fun b hb => by cases hb; exact h.1⟩
  | _ => rw [BanksListed] at h ⊢; simpa using h

theorem Begun.indexFollows (b : Begun s t) (h : IndexFollows s) : IndexFollows t := by
  cases b with
  | same => exact h
  | restarted => rfl
  | cleared => exact h

theorem Begun.banksListed (b : Begun s t) (h : BanksListed s) : BanksListed t := by
  cases b with
  | same => exact h
  | restarted => exact ⟨List.Pairwise.nil, fun b hb => by cases hb⟩
  | cleared => exact h

/-- Settles O7: only a switch and a restart touch ACTIVE and the index, and only these and the loads touch SHADOW. -/
theorem featureIndexIsKept : Obligations.FeatureIndexIsKept := by
  unfold Obligations.FeatureIndexIsKept
  intro s t hs
  exact ⟨fun h => step_keeps (G := .nothing) (P := fun _ s => IndexFollows s) id (fun _ => Given.nothing_holds _) Move.indexFollows
      Begun.indexFollows h hs,
    fun h => step_keeps (G := .nothing) (P := fun _ s => BanksListed s) id (fun _ => Given.nothing_holds _) Move.banksListed
      Begun.banksListed h hs⟩

/-! ### Use counts and link counts (R63, R140) -/

theorem usesCounted_put {slot : Nat} {x : Hold} (h : UsesCounted s) (hx : x.Used) (ht : t.holds.slots = Table.put s.holds.slots slot x) :
    UsesCounted t := by
  intro e he
  rcases Table.mem_put (ht ▸ he) with rfl | he
  · exact hx
  · exact h e he

theorem UsesCounted.subset (h : UsesCounted s) (ht : ∀ e ∈ t.holds.slots, e ∈ s.holds.slots) : UsesCounted t := fun e he =>
  h e (ht e he)

theorem Move.usesCounted (m : Move G g s g' t) (h : UsesCounted s) : UsesCounted t := by
  cases m with
  | still hc => exact h.subset fun e he => hc.slots ▸ he
  | newHold x hn hu hf => exact usesCounted_put h hu rfl
  | upgrade slot x tokens interval deadline hm hu ht hf => exact usesCounted_put h (Hold.used_joined hu (h _ hm)) rfl
  | rehold slot x x' hm hp ht hu => exact usesCounted_put h (hu (h _ hm)) rfl
  | reholdAll f hp ht hu =>
    intro e he
    obtain ⟨x, hx, rfl⟩ := List.mem_map.1 he
    exact hu _ (h x hx)
  | remove slot x hm hf => exact h.subset fun e he => (Table.mem_remove.1 he).1
  | takeAway p slot hg hm => exact h.subset fun e he => (Table.mem_remove.1 he).1
  | _ => exact h.subset fun e he => by simpa using he

theorem Begun.usesCounted (b : Begun s t) (h : UsesCounted s) : UsesCounted t := by
  cases b with
  | same => exact h
  | restarted => exact fun e he => by cases he
  | cleared => exact fun e he => by cases he

theorem Move.linkCounts (m : Move G g s g' t) (h : LinkCounts s) : LinkCounts t := by
  cases m with
  | still hc => rwa [LinkCounts, hc.link]
  | relink l hl hk => exact hl
  | crossLost l hl => exact hl
  | _ => rw [LinkCounts] at h ⊢; simpa using h

theorem Begun.linkCounts (b : Begun s t) (h : LinkCounts s) : LinkCounts t := by
  cases b with
  | same => exact h
  | restarted => exact linkCounts_of rfl
  | cleared => exact h

/-- Settles O8: each move that writes a hold writes one whose use count agrees with its state, and each that writes the link state
writes a count of 1 or 2. -/
theorem useCountsAreKept : Obligations.UseCountsAreKept := by
  unfold Obligations.UseCountsAreKept
  intro s t hs
  exact ⟨fun h => step_keeps (G := .nothing) (P := fun _ s => UsesCounted s) id (fun _ => Given.nothing_holds _) Move.usesCounted
      Begun.usesCounted h hs,
    fun h => step_keeps (G := .nothing) (P := fun _ s => LinkCounts s) id (fun _ => Given.nothing_holds _) Move.linkCounts
      Begun.linkCounts h hs⟩

/-! ### Engine time (R131) -/

theorem Move.now_le (m : Move G g s g' t) : s.time.now ≤ t.time.now := by
  cases m with
  | still hc => exact Nat.le_of_eq hc.now.symm
  | retime v hv => exact hv
  | _ => simp

/-- Settles O14: every move keeps engine time or moves it on. -/
theorem engineTimeNeverDecreases : Obligations.EngineTimeNeverDecreases := by
  unfold Obligations.EngineTimeNeverDecreases
  intro c s t hc h
  have r : Runs .nothing .rest s .rest t := exec_runs s c hc (Given.nothing_holds s) False.elim h
  exact r.keeps (P := fun _ u => s.time.now ≤ u.time.now) (fun m hle => Nat.le_trans hle m.now_le) (Nat.le_refl _)

/-! ### The account table (R20, R21) -/

theorem AccountsListed.congr (h : AccountsListed s) (ht : t.accounts = s.accounts) : AccountsListed t := by rwa [AccountsListed, ht]

theorem AccountsListed.putD (h : AccountsListed s) {p : Nat} {a : Account}
    (ht : t.accounts = Table.putD s.accounts Account.cleared p a) : AccountsListed t := by
  rw [AccountsListed, ht, Table.putD]
  split
  · exact ⟨Table.rising_remove _ h.1, fun e he => h.2 e (Table.mem_remove.1 he).1⟩
  · next ha =>
    refine ⟨Table.rising_put _ _ h.1, fun e he => ?_⟩
    rcases Table.mem_put he with rfl | he
    · exact ha
    · exact h.2 e he

theorem AccountsListed.mapD (h : AccountsListed s) {f : Account → Account}
    (ht : t.accounts = Table.mapD s.accounts Account.cleared f) : AccountsListed t := by
  rw [AccountsListed, ht, Table.mapD]
  exact ⟨Table.rising_filter _ (Table.rising_map f h.1), fun e he => by simpa using (List.mem_filter.1 he).2⟩

theorem Move.accountsListed (m : Move G g s g' t) (h : AccountsListed s) : AccountsListed t := by
  cases m with
  | still hc => exact h.congr hc.accounts
  | restat p a ha => exact h.putD rfl
  | restatAll f hf hc => exact h.mapD rfl
  | settle p hf => exact h.putD rfl
  | flag p b hb => exact h.putD rfl
  | delegate p d m hm hf => exact h.putD rfl
  | newHold x hn hu hf => exact h.putD rfl
  | upgrade slot x tokens interval deadline hm hu ht hf => exact h.putD rfl
  | remove slot x hm hf => exact h.putD rfl
  | endStrip p hg hh hq hf => exact h.putD (p := p) (a := Account.cleared) rfl
  | enqueue e hk hl => exact h.putD rfl
  | unlink e hm => exact h.putD rfl
  | handOn e f hk hm => exact h.putD rfl
  | _ => exact h.congr (by simp)

theorem Begun.accountsListed (b : Begun s t) (h : AccountsListed s) : AccountsListed t := by
  cases b with
  | same => exact h
  | restarted => exact ⟨List.Pairwise.nil, fun e he => by cases he⟩
  | cleared => exact ⟨List.Pairwise.nil, fun e he => by cases he⟩

/-- Settles O9: accounts are written through `putD` and `mapD`, which keep the table's one form. -/
theorem accountTableIsKept : Obligations.AccountTableIsKept := by
  unfold Obligations.AccountTableIsKept
  exact fun s t h hs => step_keeps (G := .nothing) (P := fun _ s => AccountsListed s) id (fun _ => Given.nothing_holds _)
    Move.accountsListed Begun.accountsListed h hs

theorem State.acct_restatAll {f : Account → Account} (hl : AccountsListed s) (hc : f .cleared = .cleared) (p : Nat) :
    (s.setAccounts (Table.mapD s.accounts Account.cleared f)).acct p = f (s.acct p) := Table.getD_mapD f hc hl.1 p

/-! ### No tokens move in a reconciliation (R156) -/

/-- The accounts hold the same D, H and delegation state. -/
def SameTokens (s t : State) : Prop := ∀ p, (t.acct p).d = (s.acct p).d ∧ (t.acct p).h = (s.acct p).h ∧ (t.acct p).state = (s.acct p).state

theorem SameTokens.congr (h : t.accounts = s.accounts) : SameTokens s t := fun p => by simp [State.acct_congr h]

theorem SameTokens.setAcct {p : Nat} {a : Account} (hd : a.d = (s.acct p).d) (hh : a.h = (s.acct p).h) (hs : a.state = (s.acct p).state)
    (ht : ∀ q, t.acct q = if p = q then a else s.acct q) : SameTokens s t := by
  intro q
  rw [ht]
  split
  · next hq => subst hq; exact ⟨hd, hh, hs⟩
  · exact ⟨rfl, rfl, rfl⟩

theorem sameTokens_unlink (e : WaitEntry) : SameTokens s (s.unlink e) := by
  intro p
  rw [State.acct_unlink]
  split <;> exact ⟨rfl, rfl, rfl⟩

theorem Move.sameTokens (hG : G.frozen) (m : Move G g s g' t) (hl : AccountsListed s) : SameTokens s t := by
  cases m with
  | still hc => exact .congr hc.accounts
  | restat p a ha => exact .setAcct ha.d ha.h ha.state (s.acct_setAcct p · a)
  | restatAll f hf hc =>
    intro p
    rw [State.acct_restatAll hl hc]
    exact ⟨(hf _).d, (hf _).h, (hf _).state⟩
  | flag p b hb => exact .setAcct (a := { s.acct p with overcommit := b }) rfl rfl rfl (s.acct_modAcct p · _)
  | enqueue e hk hw => exact .setAcct (a := { s.acct e.pool with queueLength := (s.acct e.pool).queueLength + 1 }) rfl rfl rfl ((s.setQueues _).acct_modAcct e.pool · _)
  | unlink e hm => exact sameTokens_unlink e
  | handOn e f hk hm => exact fun p => sameTokens_unlink e p
  | settle p hf => exact absurd hG hf
  | delegate p d m hm hf => exact absurd hG hf
  | newHold x hn hu hf => exact absurd hG hf
  | upgrade slot x tokens interval deadline hm hu ht hf => exact absurd hG hf
  | remove slot x hm hf => exact absurd hG hf
  | endStrip p hg hh hq hf => exact absurd hG hf
  | _ => exact .congr (by simp)

/-- Settles O15: the moves that write D, H or a delegation state are not made while the engine reconciles, but for RESUME. -/
theorem noTokensMoveInReconciliation : Obligations.NoTokensMoveInReconciliation := by
  unfold Obligations.NoTokensMoveInReconciliation
  intro c s t hl hm hc hr h
  have r : Runs { keys := False, slots := False, frozen := True } .rest s .rest t :=
    exec_runs s c hc ⟨False.elim, False.elim⟩ (fun _ => ⟨by simpa [State.reconciling] using hm, hr⟩) h
  refine (r.keeps (P := fun _ u => AccountsListed u ∧ SameTokens s u) (fun m hu => ?_) ⟨hl, fun p => ⟨rfl, rfl, rfl⟩⟩).2
  refine ⟨m.accountsListed hu.1, fun p => ?_⟩
  obtain ⟨hd, hh, hs⟩ := m.sameTokens trivial hu.1 p
  exact ⟨hd.trans (hu.2 p).1, hh.trans (hu.2 p).2.1, hs.trans (hu.2 p).2.2⟩

/-! ### The ports (R171, R174, R177) -/

theorem ports_congr (h : PauseFollows s ∧ IntakeKept s) (hp : t.farm.paused = s.farm.paused) (hi : t.farm.intake = s.farm.intake)
    (hr : t.farm.replies = s.farm.replies) (hs : t.svc.intake = s.svc.intake) : PauseFollows t ∧ IntakeKept t := by
  rwa [PauseFollows, IntakeKept, hp, hi, hr, hs]

theorem State.popIntake_ports (port : Port) (h : PauseFollows s ∧ IntakeKept s) :
    PauseFollows (s.popIntake port) ∧ IntakeKept (s.popIntake port) := by
  obtain ⟨⟨hopen, hpaused⟩, hf, hs, hr⟩ := h
  have hlen := s.farm.intake.length_tail
  cases port with
  | farm =>
    simp only [State.popIntake, State.pauseRelease]
    split
    · next hc =>
      refine ⟨⟨fun _ => ?_, fun hp => by simp [State.duePause] at hp⟩, ?_, hs, hr⟩
      · exact Nat.lt_of_le_of_lt hc.2 (by decide)
      · exact Nat.le_trans hc.2 (by decide)
    · next hc =>
      simp only [State.setFarm_farm, not_and, Nat.not_le] at hc
      exact ⟨⟨fun hp => Nat.lt_of_le_of_lt (by simp) (hopen hp), fun hp => hc hp⟩, Nat.le_trans (by simp) hf, hs, hr⟩
  | service => exact ⟨⟨hopen, hpaused⟩, hf, Nat.le_trans (by simp [State.popIntake]) hs, hr⟩

theorem State.pushIntake_ports (port : Port) (f : Frame) (hl : (s.intake port).length < intakeCapacity port)
    (h : PauseFollows s ∧ IntakeKept s) : PauseFollows (s.pushIntake port f) ∧ IntakeKept (s.pushIntake port f) := by
  obtain ⟨⟨hopen, hpaused⟩, hf, hs, hr⟩ := h
  cases port with
  | farm =>
    have hcap : s.farm.intake.length < Config.farmIntake := hl
    have hlen : (s.farm.intake ++ [f]).length = s.farm.intake.length + 1 := by simp
    simp only [State.pushIntake, State.pauseAssert]
    split
    · next hc =>
      refine ⟨⟨fun hp => by simp [State.duePause] at hp, fun _ => ?_⟩, ?_, hs, hr⟩
      · exact Nat.lt_of_lt_of_le (by decide) hc.2
      · exact hlen ▸ hcap
    · next hc =>
      simp only [State.setFarm_farm, not_and, Nat.not_le] at hc
      refine ⟨⟨fun hp => hc hp, fun hp => ?_⟩, hlen ▸ hcap, hs, hr⟩
      have := hpaused hp
      change Config.openAt < (s.farm.intake ++ [f]).length
      omega
  | service =>
    have hcap : s.svc.intake.length < Config.serviceIntake := hl
    exact ⟨⟨hopen, hpaused⟩, hf, by simpa [State.pushIntake] using Nat.succ_le_of_lt hcap, hr⟩

theorem State.offerFarm_ports (e : FarmEntry) (h : PauseFollows s ∧ IntakeKept s) :
    PauseFollows (s.offerFarm e) ∧ IntakeKept (s.offerFarm e) := by
  obtain ⟨hp, hf, hs, hr⟩ := h
  rw [State.offerFarm]
  split
  · next hl => exact ⟨hp, hf, hs, by simpa using Nat.succ_le_of_lt hl⟩
  · exact ⟨hp, hf, hs, hr⟩

theorem Move.ports (m : Move G g s g' t) (h : PauseFollows s ∧ IntakeKept s) : PauseFollows t ∧ IntakeKept t := by
  cases m with
  | still hc => exact ports_congr h hc.paused hc.farmIntake hc.replies hc.serviceIntake
  | depart v hu hi => exact ports_congr h rfl rfl rfl hi
  | offerFarm e => exact State.offerFarm_ports e h
  | farmSends v hr hi hp =>
    obtain ⟨hpause, hf, hs, hl⟩ := h
    rw [PauseFollows, IntakeKept]
    exact ⟨by simpa [PauseFollows, hi, hp] using hpause, by simpa [hi] using hf, hs, Nat.le_trans hr.length_le hl⟩
  | popIntake port => exact State.popIntake_ports port h
  | pushIntake port f hl => exact State.pushIntake_ports port f hl h
  | _ => exact ports_congr h (by simp) (by simp) (by simp) (by simp)

theorem Begun.ports (b : Begun s t) (h : PauseFollows s ∧ IntakeKept s) : PauseFollows t ∧ IntakeKept t := by
  have emptied : ∀ u : State, u.farm = s.emptiedFarm → u.svc.intake = [] → PauseFollows u ∧ IntakeKept u := by
    intro u hf hs
    rw [PauseFollows, IntakeKept, hf, hs]
    simp [State.emptiedFarm, Config.pauseAt]
  cases b with
  | same => exact h
  | restarted => exact emptied _ rfl rfl
  | cleared => exact emptied _ rfl rfl

/-- Settles O12: the queues of the ports are written by a departure, an arrival with its place tested, and a reply with its place
tested; the pause control follows the first two. -/
theorem pauseControlIsKept : Obligations.PauseControlIsKept := by
  unfold Obligations.PauseControlIsKept
  exact fun s t h hs => step_keeps (G := .nothing) (P := fun _ s => PauseFollows s ∧ IntakeKept s) id
    (fun _ => Given.nothing_holds _) Move.ports Begun.ports h hs

end Sys2Proof.Machine
end

section
/-! PROOFS. The Upstream Queue keeps its room (R178), with the places kept back for what is under way. -/

namespace Sys2Proof.Machine

open Host

variable {G : Given} {g g' : Underway} {s t : State}

/-- The room of the Upstream Queue while something is under way: each reply and report to come has its place kept, and only notices wait
for the reply (R108, R178, R184). -/
structure RoomFits (g : Underway) (s : State) : Prop where
  reserved : s.reserved = g.kept + (if g.managing then 1 else 0)
  undeferred : g.managing = false → s.deferred = none
  notices : ∀ e ∈ s.deferred.getD [], e.seatTraffic = false
  seats : s.seatCount + g.kept ≤ Config.upstreamSeat
  all : s.svc.upstream.length + s.reserved ≤ Config.upstream

theorem roomFits_rest : RoomFits .rest s ↔ RoomKept s := by
  constructor
  · exact fun h => ⟨⟨h.reserved, h.undeferred rfl⟩, h.seats, by simpa [h.reserved, Underway.rest] using h.all⟩
  · rintro ⟨⟨hr, hd⟩, hs, ha⟩
    exact ⟨hr, fun _ => hd, by simp [hd], hs, by rwa [hr]⟩

theorem RoomFits.congr (h : RoomFits g s) (hg : g'.kept = g.kept) (hm : g'.managing = g.managing)
    (hu : t.svc.upstream <:+ s.svc.upstream) (hr : t.reserved = s.reserved) (hd : t.deferred = s.deferred) : RoomFits g' t where
  reserved := by rw [hr, hg, hm, h.reserved]
  undeferred := by rw [hm, hd]; exact h.undeferred
  notices := by rw [hd]; exact h.notices
  seats := by
    have hc : t.seatCount ≤ s.seatCount := (hu.sublist.filter _).length_le
    have := h.seats
    omega
  all := by
    have := hu.length_le
    have := h.all
    omega

theorem State.seatCount_pushUp_of_not {e : UpEntry} (he : e.seatTraffic = false) : (s.pushUp e).seatCount = s.seatCount := by
  simp [State.seatCount, he]

theorem State.length_upstream_pushUp (e : UpEntry) : (s.pushUp e).svc.upstream.length = s.svc.upstream.length + 1 := by simp

theorem RoomFits.pushOther {e : UpEntry} (h : RoomFits g s) (he : e.seatTraffic = false) (hr : s.mgmtRoom = true) :
    RoomFits g (s.pushUp e) where
  reserved := h.reserved
  undeferred := h.undeferred
  notices := h.notices
  seats := by rw [State.seatCount_pushUp_of_not he]; exact h.seats
  all := by
    have := s.mgmtRoom_iff.1 hr
    simp only [State.length_upstream_pushUp, State.pushUp_kept]
    omega

theorem RoomFits.offerUp {e : UpEntry} (h : RoomFits g s) (he : e.seatTraffic = false) : RoomFits g (s.offerUp e) := by
  rw [State.offerUp]
  split
  · next hr => exact h.pushOther he hr
  · exact h.congr rfl rfl (List.suffix_refl _) rfl rfl

/-- A reply takes the place kept for it, and the notices behind it what room there is (R184). -/
theorem RoomFits.answerMgmt (h : RoomFits .request s) (k : Key) (r : MgmtReply) : RoomFits .rest (s.answerMgmt k r) := by
  rw [State.answerMgmt]
  have replied : RoomFits .rest (((s.setReserved 0).setDeferred none).pushUp (UpEntry.reply s.ownEth k r)) :=
    { reserved := rfl
      undeferred := fun _ => rfl
      notices := by simp
      seats := by rw [State.seatCount_pushUp_of_not rfl]; exact h.seats
      all := by
        have := h.all
        have hr : s.reserved = 1 := h.reserved
        simp only [State.length_upstream_pushUp, State.setDeferred_svc, State.setReserved_svc, State.pushUp_kept,
          State.setDeferred_reserved, State.setReserved_reserved]
        omega }
  have hn := h.notices
  generalize ((s.setReserved 0).setDeferred none).pushUp (UpEntry.reply s.ownEth k r) = u at replied ⊢
  generalize s.deferred.getD [] = es at hn ⊢
  induction es generalizing u with
  | nil => exact replied
  | cons e es ih => exact ih _ (replied.offerUp (hn e (List.mem_cons_self ..))) fun x hx => hn x (List.mem_cons_of_mem _ hx)

@[simp] theorem State.upstream_popIntake (port : Port) : (s.popIntake port).svc.upstream = s.svc.upstream := by
  cases port <;> simp [State.popIntake]

@[simp] theorem State.upstream_pushIntake (port : Port) (f : Frame) : (s.pushIntake port f).svc.upstream = s.svc.upstream := by
  cases port <;> simp [State.pushIntake]

theorem Move.roomFits (m : Move G g s g' t) (h : RoomFits g s) : RoomFits g' t := by
  cases m with
  | still hc => exact h.congr rfl rfl (hc.upstream ▸ List.suffix_refl _) hc.reserved hc.deferred
  | pushOther e he hr => exact h.pushOther he hr
  | pushSeat e he hr hk =>
    obtain ⟨hseat, hall⟩ := s.seatRoom_iff.1 hr
    refine ⟨h.reserved, h.undeferred, h.notices, ?_, ?_⟩
    · rw [s.seatCount_pushUp he]; omega
    · simp only [State.length_upstream_pushUp, State.pushUp_kept]; omega
  | depart v hu hi => exact h.congr rfl rfl hu rfl rfl
  | keepPlace hr hk =>
    obtain ⟨hseat, hall⟩ := s.seatRoom_iff.1 hr
    have := h.reserved
    refine ⟨by simp only [State.setReserved_reserved]; omega, h.undeferred, h.notices, hseat, ?_⟩
    simp only [State.setReserved_svc, State.setReserved_reserved]
    omega
  | usePlace e he hk =>
    have hr := h.reserved
    have hs := h.seats
    have ha := h.all
    simp only at hr hs
    refine ⟨by simp only [State.pushUp_kept, State.setReserved_reserved]; omega, h.undeferred, h.notices, ?_, ?_⟩
    · rw [State.seatCount_pushUp _ he, hk]; exact hs
    · simp only [State.length_upstream_pushUp, State.pushUp_kept, State.setReserved_reserved, State.setReserved_svc]
      omega
  | beginRequest hr =>
    have := s.mgmtRoom_iff.1 hr
    have hz : s.reserved = 0 := h.reserved
    refine ⟨rfl, nofun, by simp, h.seats, ?_⟩
    simp only [State.setDeferred_svc, State.setReserved_svc, State.setDeferred_reserved, State.setReserved_reserved]
    omega
  | defer l e hd he =>
    refine ⟨h.reserved, fun hg => ?_, ?_, h.seats, h.all⟩
    · rw [h.undeferred hg] at hd
      cases hd
    · intro x hx
      rcases List.mem_append.1 hx with hx | hx
      · exact h.notices x (by simpa [hd] using hx)
      · rwa [List.mem_singleton.1 hx]
  | answer k r => exact h.answerMgmt k r
  | _ => exact h.congr rfl rfl (by simp) (by simp) (by simp)

theorem Begun.roomFits (b : Begun s t) (h : RoomFits .rest s) : RoomFits .rest t := by
  cases b with
  | same => exact h
  | restarted => exact roomFits_rest.2 ⟨⟨rfl, rfl⟩, Nat.zero_le _, Nat.zero_le _⟩
  | cleared => exact h.congr rfl rfl (List.nil_suffix) rfl rfl

/-- Settles O6: each move that queues an entry tests its room or takes a place kept for it. -/
theorem upstreamRoomIsKept : Obligations.UpstreamRoomIsKept := by
  unfold Obligations.UpstreamRoomIsKept
  exact fun s t h hs => roomFits_rest.1 (step_keeps (G := .nothing) (P := RoomFits) id (fun _ => Given.nothing_holds _) Move.roomFits
    Begun.roomFits (roomFits_rest.2 h) hs)

end Sys2Proof.Machine
end

section
/-! PROOFS. The overdraft peak and the overcommit flag (R30, R31): the pools that await their re-evaluation are the only ones whose flag
may be wrong. -/

namespace Sys2Proof.Machine

open Host

variable {G : Given} {g g' : Underway} {s t : State}

theorem State.acct_enqueue (e : WaitEntry) (p : Nat) :
    (s.enqueue e).acct p = if p = e.pool then { s.acct p with queueLength := (s.acct p).queueLength + 1 } else s.acct p := by
  simp only [State.enqueue, State.acct_modAcct]
  by_cases h : p = e.pool
  · subst h; simp [State.acct]
  · rw [if_neg (Ne.symm h), if_neg h]; rfl

/-! ### The overdraft peak (R30) -/

/-- An account's overdraft peak is at least its overdraft in use. -/
def Account.Covered (a : Account) : Prop := a.h - a.d ≤ a.peak

theorem PeakCovers.covered (h : PeakCovers s) (p : Nat) : (s.acct p).Covered := h p

theorem PeakCovers.congr (h : PeakCovers s) (ht : t.accounts = s.accounts) : PeakCovers t := fun p => State.acct_congr ht p ▸ h p

theorem PeakCovers.write {p : Nat} {a : Account} (h : PeakCovers s) (ha : a.Covered) (ht : ∀ q, t.acct q = if p = q then a else s.acct q) :
    PeakCovers t := by
  intro q
  rw [ht]
  split
  · exact ha
  · exact h q

theorem Account.Covered.congr {a b : Account} (h : b.Covered) (hh : a.h = b.h) (hd : a.d = b.d) (hp : a.peak = b.peak) : a.Covered := by
  rwa [Account.Covered, hh, hd, hp]

theorem Account.Covered.figures {a b : Account} (h : b.Covered) (hf : SameFigures a b) : a.Covered := h.congr hf.h hf.d hf.peak

theorem Account.Covered.settled {a : Account} (h : a.Covered) : a.settled.Covered := by
  rw [Account.settled]
  split
  · exact h
  all_goals exact Nat.le_refl _

theorem Account.covered_delegated (a : Account) (d : Nat) {m : DelegationState} (hm : m ≠ .absent) : (a.delegated d m).Covered := by
  cases m with
  | absent => exact absurd rfl hm
  | _ => exact Nat.le_refl _

theorem Account.covered_charged (a : Account) (tokens newHolds : Nat) : (a.charged tokens newHolds).Covered := Nat.le_max_right ..

theorem Account.Covered.credited {a : Account} (h : a.Covered) (tokens : Nat) : (a.credited tokens).Covered :=
  Nat.le_trans (Nat.sub_le_sub_right (Nat.sub_le ..) _) h

theorem PeakCovers.unlink (h : PeakCovers s) (e : WaitEntry) : PeakCovers (s.unlink e) := by
  intro p
  rw [State.acct_unlink]
  split <;> exact h p

theorem Move.peakCovers (hl : AccountsListed s) (m : Move G g s g' t) (h : PeakCovers s) : PeakCovers t := by
  cases m with
  | still hc => exact h.congr hc.accounts
  | restat p a ha => exact h.write ((h.covered p).figures ha) (s.acct_setAcct p · a)
  | restatAll f hf hc =>
    intro p
    rw [State.acct_restatAll hl hc]
    exact (h.covered p).figures (hf _)
  | settle p hf => exact h.write (h.covered p).settled (s.acct_modAcct p · _)
  | flag p b hb => exact h.write (a := { s.acct p with overcommit := b }) (h.covered p) (s.acct_modAcct p · _)
  | delegate p d m hm hf => exact h.write ((s.acct p).covered_delegated d hm) (s.acct_modAcct p · _)
  | newHold x hn hu hf => exact h.write ((s.acct x.pool).covered_charged x.tokens 1) ((s.putHold _ _).acct_modAcct x.pool · _)
  | upgrade slot x tokens interval deadline hm hu ht hf =>
    exact h.write ((s.acct x.pool).covered_charged _ 0) ((s.putHold _ _).acct_modAcct x.pool · _)
  | remove slot x hm hf =>
    exact h.write ((h.covered x.pool).credited x.tokens) ((s.freeSlot slot).acct_modAcct x.pool · _)
  | endStrip p hg hh hq hf => exact h.write (Nat.le_refl _) (s.acct_setAcct p · Account.cleared)
  | enqueue e hk hw => intro p; rw [State.acct_enqueue]; split <;> exact h p
  | unlink e hm => exact h.unlink e
  | handOn e f hk hm => exact (h.unlink e).congr rfl
  | _ => exact h.congr (by simp)

theorem Begun.peakCovers (b : Begun s t) (h : PeakCovers s) : PeakCovers t := by
  cases b with
  | same => exact h
  | restarted => exact fun p => Nat.zero_le _
  | cleared => exact fun p => Nat.zero_le _

/-! ### The overcommit flag (R31) -/

/-- The pool's overcommit flag is exact. -/
def State.Exact (s : State) (p : Nat) : Prop := (s.acct p).overcommit = decide (s.effectiveCeiling p < (s.acct p).h)

/-- The ceiling does not tell SOLE from SOLE_CHANGED, and sees of the banks only ACTIVE and of the link only LOST (R28). -/
theorem State.effectiveCeiling_only {p : Nat} (hb : t.banks.active = s.banks.active)
    (hl : (s.acct p).state = .shared → (t.link.state = .lost ↔ s.link.state = .lost)) (hd : (t.acct p).d = (s.acct p).d)
    (hs : (t.acct p).state = (s.acct p).state ∨ (s.acct p).state = .soleChanged ∧ (t.acct p).state = .sole) :
    t.effectiveCeiling p = s.effectiveCeiling p := by
  have hc : t.ceiling p = s.ceiling p := by simp [State.ceiling, State.allowance, State.record, State.record?, hb, hd]
  rcases hs with hs | ⟨h1, h2⟩
  · rw [State.effectiveCeiling, State.effectiveCeiling, hs, hc, hd]
    cases hst : (s.acct p).state with
    | shared => simp only [hl hst]
    | _ => rfl
  · rw [State.effectiveCeiling_of_sole (.inl h2), State.effectiveCeiling_of_sole (.inr h1), hc]

theorem State.Exact.only {p : Nat} (h : s.Exact p) (hb : t.banks.active = s.banks.active)
    (hl : (s.acct p).state = .shared → (t.link.state = .lost ↔ s.link.state = .lost)) (hd : (t.acct p).d = (s.acct p).d)
    (hs : (t.acct p).state = (s.acct p).state ∨ (s.acct p).state = .soleChanged ∧ (t.acct p).state = .sole)
    (hh : (t.acct p).h = (s.acct p).h) (ho : (t.acct p).overcommit = (s.acct p).overcommit) : t.Exact p := by
  rw [State.Exact, ho, hh, State.effectiveCeiling_only hb hl hd hs]
  exact h

theorem State.Exact.figures {p : Nat} (h : s.Exact p) (hb : t.banks.active = s.banks.active)
    (hl : t.link.state = .lost ↔ s.link.state = .lost) (hf : SameFigures (t.acct p) (s.acct p)) : t.Exact p :=
  h.only hb (fun _ => hl) hf.d (.inl hf.state) hf.h hf.overcommit

theorem SameFigures.refl (a : Account) : SameFigures a a := by constructor <;> rfl

theorem State.Exact.congr {p : Nat} (h : s.Exact p) (hb : t.banks.active = s.banks.active)
    (hl : t.link.state = .lost ↔ s.link.state = .lost) (ha : t.acct p = s.acct p) : t.Exact p :=
  h.figures hb hl (ha ▸ .refl _)

theorem State.exact_cleared {p : Nat} (h : s.acct p = Account.cleared) : s.Exact p := by simp [State.Exact, h, Account.cleared]

theorem State.not_shared_of_not_mem (hl : AccountsListed s) {p : Nat} (hp : p ∉ s.sharedPools) : (s.acct p).state ≠ .shared := by
  intro hs
  by_cases hm : ∃ e ∈ s.accounts, e.1 = p
  · obtain ⟨e, he, rfl⟩ := hm
    rw [State.acct_of_listed hl.1 he] at hs
    exact hp (List.mem_map.2 ⟨e, List.mem_filter.2 ⟨he, decide_eq_true hs⟩, rfl⟩)
  · rw [State.acct_of_unlisted fun e he hep => hm ⟨e, he, hep⟩] at hs
    cases hs

theorem State.acct_of_not_live {p : Nat} (hp : p ∉ s.livePools) : s.acct p = Account.cleared :=
  State.acct_of_unlisted fun e he hep => hp (List.mem_map.2 ⟨e, he, hep⟩)

/-- The flag is exact but for the pools that await their re-evaluation. -/
def FlagsExact (g : Underway) (s : State) : Prop := ∀ p, p ∉ g.unflagged → s.Exact p

theorem FlagsExact.figures (h : FlagsExact g s) (hb : t.banks.active = s.banks.active)
    (hl : t.link.state = .lost ↔ s.link.state = .lost) (hf : ∀ p, SameFigures (t.acct p) (s.acct p)) : FlagsExact g t :=
  fun p hp => (h p hp).figures hb hl (hf p)

theorem FlagsExact.congr (h : FlagsExact g s) (hb : t.banks.active = s.banks.active)
    (hl : t.link.state = .lost ↔ s.link.state = .lost) (ha : t.accounts = s.accounts) : FlagsExact g t :=
  h.figures hb hl fun p => State.acct_congr ha p ▸ .refl _

/-- An account is written, and its pool awaits its re-evaluation. -/
theorem FlagsExact.await {p : Nat} {a : Account} (h : FlagsExact g s) (hb : t.banks.active = s.banks.active)
    (hl : t.link.state = s.link.state) (ht : ∀ q, t.acct q = if p = q then a else s.acct q) : FlagsExact (g.awaiting p) t := by
  intro q hq
  obtain ⟨hqp, hq⟩ := not_or.1 ((not_congr List.mem_cons).1 hq)
  exact (h q hq).congr hb (by rw [hl]) (by rw [ht, if_neg (Ne.symm hqp)])

/-- An account is written with its flag exact. -/
theorem FlagsExact.write {p : Nat} {a : Account} (h : ∀ q, q ∉ g.unflagged → q ≠ p → s.Exact q) (hb : t.banks.active = s.banks.active)
    (hl : t.link.state = s.link.state) (ht : ∀ q, t.acct q = if p = q then a else s.acct q) (hp : p ∉ g.unflagged → t.Exact p) :
    FlagsExact g t := by
  intro q hq
  by_cases hqp : q = p
  · exact hqp ▸ hp (hqp ▸ hq)
  · exact (h q hq hqp).congr hb (by rw [hl]) (by rw [ht, if_neg (Ne.symm hqp)])

theorem FlagsExact.others {p : Nat} (h : FlagsExact (g.awaiting p) s) : ∀ q, q ∉ g.unflagged → q ≠ p → s.Exact q :=
  fun q hq hqp => h q ((not_congr List.mem_cons).2 (not_or.2 ⟨hqp, hq⟩))

theorem FlagsExact.enqueue (h : FlagsExact g s) (e : WaitEntry) : FlagsExact g (s.enqueue e) := by
  intro p hp
  have ha := s.acct_enqueue e p
  refine (h p hp).only rfl (fun _ => Iff.rfl) ?_ (.inl ?_) ?_ ?_ <;> rw [ha] <;> split <;> rfl

theorem FlagsExact.unlink (h : FlagsExact g s) (e : WaitEntry) : FlagsExact g (s.unlink e) := by
  intro p hp
  have ha := s.acct_unlink e p
  refine (h p hp).only rfl (fun _ => Iff.rfl) ?_ (.inl ?_) ?_ ?_ <;> rw [ha] <;> split <;> rfl

theorem State.Exact.settle {p : Nat} (h : s.Exact p) : (s.modAcct p Account.settled).Exact p := by
  have ha : (s.modAcct p Account.settled).acct p = (s.acct p).settled := by simp
  refine h.only rfl (fun _ => Iff.rfl) ?_ ?_ ?_ ?_ <;> rw [ha, Account.settled]
  case refine_2 => cases hst : (s.acct p).state <;> simp [hst]
  all_goals cases (s.acct p).state <;> rfl

theorem Move.flagsExact (hl : AccountsListed s) (m : Move G g s g' t) (h : FlagsExact g s) : FlagsExact g' t := by
  cases m with
  | still hc => exact h.congr hc.active (by rw [hc.link]) hc.accounts
  | restat p a ha =>
    refine h.figures rfl Iff.rfl fun q => ?_
    rw [State.acct_setAcct]
    split
    · next hq => exact hq ▸ ha
    · exact .refl _
  | restatAll f hf hc =>
    refine h.figures rfl Iff.rfl fun q => ?_
    rw [State.acct_restatAll hl hc]
    exact hf _
  | settle p hf =>
    exact FlagsExact.write (fun q hq _ => h q hq) rfl rfl (s.acct_modAcct p · _) fun hp => (h p hp).settle
  | await p => exact fun q hq => h q (List.not_mem_of_not_mem_cons hq)
  | flagExact p hp =>
    intro q hq
    by_cases hqp : q = p
    · exact hqp ▸ hp
    · exact h.others q hq hqp
  | flag p b hb =>
    refine FlagsExact.write h.others rfl rfl (s.acct_modAcct p · _) fun _ => ?_
    have ha : (s.modAcct p (fun a => { a with overcommit := b })).acct p = { s.acct p with overcommit := b } := by simp
    have hc : (s.modAcct p (fun a => { a with overcommit := b })).effectiveCeiling p = s.effectiveCeiling p :=
      State.effectiveCeiling_only rfl (fun _ => Iff.rfl) (by rw [ha]) (.inl (by rw [ha]))
    rw [State.Exact, hc, ha]
    exact hb
  | delegate p d m hm hf => exact h.await rfl rfl (s.acct_modAcct p · _)
  | relink l hc hk => exact h.congr rfl hk rfl
  | crossLost l hc =>
    intro p hp
    obtain ⟨hshared, hp⟩ := not_or.1 ((not_congr List.mem_append).1 hp)
    exact (h p hp).only rfl (fun hs => absurd hs (State.not_shared_of_not_mem hl hshared)) rfl (.inl rfl) rfl rfl
  | switch =>
    intro p hp
    exact State.exact_cleared (s.acct_of_not_live fun hm => hp (List.mem_append_left _ hm))
  | newHold x hn hu hf => exact h.await rfl rfl ((s.putHold _ _).acct_modAcct x.pool · _)
  | upgrade slot x tokens interval deadline hm hu ht hf => exact h.await rfl rfl ((s.putHold _ _).acct_modAcct x.pool · _)
  | remove slot x hm hf => exact h.await rfl rfl ((s.freeSlot slot).acct_modAcct x.pool · _)
  | endStrip p hg hh hq hf =>
    exact FlagsExact.write (fun q hq _ => h q hq) rfl rfl (s.acct_setAcct p · Account.cleared) fun _ =>
      State.exact_cleared (by simp)
  | enqueue e hk hw => exact h.enqueue e
  | unlink e hm => exact h.unlink e
  | handOn e f hk hm => exact (h.unlink e).congr rfl Iff.rfl rfl
  | _ => exact h.congr (by simp) (by simp) (by simp)

theorem flagsExact_rest : FlagsExact .rest s ↔ OvercommitExact s := ⟨fun h p => h p (List.not_mem_nil), fun h p _ => h p⟩

theorem Begun.flagsExact (b : Begun s t) (h : FlagsExact .rest s) : FlagsExact .rest t := by
  cases b with
  | same => exact h
  | restarted => exact fun p _ => State.exact_cleared rfl
  | cleared => exact fun p _ => State.exact_cleared rfl

/-- Settles O10: the peak is written with H, and whatever moves H, D, the mode, the ceiling or the link across LOST leaves the pool
to be re-evaluated within the same command. -/
theorem peakAndOvercommitAreKept : Obligations.PeakAndOvercommitAreKept := by
  unfold Obligations.PeakAndOvercommitAreKept
  rintro s t hl ⟨hp, ho⟩ hs
  have peak := step_keeps (G := .nothing) (P := fun _ s => AccountsListed s ∧ PeakCovers s) id (fun _ => Given.nothing_holds _)
    (fun m h => ⟨m.accountsListed h.1, m.peakCovers h.1 h.2⟩) (fun b h => ⟨b.accountsListed h.1, b.peakCovers h.2⟩) ⟨hl, hp⟩ hs
  have flags := step_keeps (G := .nothing) (P := fun g s => AccountsListed s ∧ FlagsExact g s) id (fun _ => Given.nothing_holds _)
    (fun m h => ⟨m.accountsListed h.1, m.flagsExact h.1 h.2⟩) (fun b h => ⟨b.accountsListed h.1, b.flagsExact h.2⟩)
    ⟨hl, flagsExact_rest.2 ho⟩ hs
  exact ⟨peak.2, flagsExact_rest.1 flags.2⟩

end Sys2Proof.Machine
end

section
/-! PROOFS. The wait queues (R80, R81): a key stands once, the store keeps within its places, and queue lengths count its entries. -/

namespace Sys2Proof.Machine

open Host

variable {G : Given} {g g' : Underway} {s t : State}

/-- Queue lengths count the entries. -/
def LengthsCounted (s : State) : Prop := ∀ p, (s.acct p).queueLength = (s.poolQueue p).length

theorem State.poolQueue_congr (h : t.queues.entries = s.queues.entries) (p : Nat) : t.poolQueue p = s.poolQueue p := by
  rw [State.poolQueue, State.poolQueue, h]

theorem LengthsCounted.figures (h : LengthsCounted s) (he : t.queues.entries = s.queues.entries)
    (hf : ∀ p, (t.acct p).queueLength = (s.acct p).queueLength) : LengthsCounted t := fun p => by
  rw [hf, State.poolQueue_congr he, h p]

theorem LengthsCounted.congr (h : LengthsCounted s) (he : t.queues.entries = s.queues.entries) (ha : t.accounts = s.accounts) :
    LengthsCounted t := h.figures he fun p => by rw [State.acct_congr ha]

theorem LengthsCounted.write {p : Nat} {a : Account} (h : LengthsCounted s) (he : t.queues.entries = s.queues.entries)
    (ht : ∀ q, t.acct q = if p = q then a else s.acct q) (ha : a.queueLength = (s.poolQueue p).length) : LengthsCounted t := by
  intro q
  rw [ht, State.poolQueue_congr he]
  split
  · next hq => exact hq ▸ ha
  · exact h q

theorem LengthsCounted.enqueue (h : LengthsCounted s) (e : WaitEntry) : LengthsCounted (s.enqueue e) := by
  intro p
  rw [State.acct_enqueue, State.poolQueue, State.entries_enqueue, List.filter_append, List.length_append]
  by_cases hp : p = e.pool
  · have := h p
    rw [State.poolQueue] at this
    subst hp
    simp [this]
  · have := h p
    rw [State.poolQueue] at this
    simp [hp, Ne.symm hp, this]

/-- Where keys stand once, an entry of the store and the others are what stood there. -/
theorem perm_cons_eraseP_key {l : List WaitEntry} (hn : (l.map (fun e => e.key)).Nodup) {e : WaitEntry} (he : e ∈ l) :
    l.Perm (e :: l.eraseP (fun x => x.key = e.key)) := by
  obtain ⟨x, l₁, l₂, -, hx, rfl, hl⟩ := List.exists_of_eraseP he (p := fun x => decide (x.key = e.key)) (decide_eq_true rfl)
  have hxe : x = e := eq_of_nodup_map hn (by simp) he (of_decide_eq_true hx)
  rw [hl, hxe]
  exact List.perm_middle

theorem LengthsCounted.unlink (hk : KeysUnique s) (h : LengthsCounted s) {e : WaitEntry} (he : e ∈ s.queues.entries) :
    LengthsCounted (s.unlink e) := by
  intro p
  have hlen := ((perm_cons_eraseP_key hk.entries_nodup he).filter (fun x => decide (x.pool = p))).length_eq
  have hc := h p
  rw [State.poolQueue] at hc
  rw [State.acct_unlink, State.poolQueue, State.entries_unlink]
  rw [hlen, List.filter_cons] at hc
  by_cases hp : p = e.pool
  · simp only [hp, decide_true, if_true, List.length_cons] at hc ⊢
    simp only [hc, Nat.add_sub_cancel]
  · simpa [hp, Ne.symm hp] using hc

theorem Account.queueLength_settled (a : Account) : a.settled.queueLength = a.queueLength := by
  rw [Account.settled]
  split <;> rfl

theorem Account.queueLength_delegated (a : Account) (d : Nat) (m : DelegationState) : (a.delegated d m).queueLength = a.queueLength :=
  Account.queueLength_settled _

theorem Move.lengthsCounted (hG : G.keys) (hl : AccountsListed s) (hk : KeysUnique s) (m : Move G g s g' t) (h : LengthsCounted s) :
    LengthsCounted t := by
  cases m with
  | still hc => exact h.congr hc.entries hc.accounts
  | restat p a ha => exact h.write rfl (s.acct_setAcct p · a) (ha.queueLength.trans (h p))
  | restatAll f hf hc => exact h.figures rfl fun p => by rw [State.acct_restatAll hl hc]; exact (hf _).queueLength
  | settle p hf => exact h.write rfl (s.acct_modAcct p · _) ((s.acct p).queueLength_settled.trans (h p))
  | flag p b hb => exact h.write (a := { s.acct p with overcommit := b }) rfl (s.acct_modAcct p · _) (h p)
  | delegate p d m hm hf => exact h.write rfl (s.acct_modAcct p · _) (((s.acct p).queueLength_delegated d m).trans (h p))
  | newHold x hn hu hf => exact h.write rfl ((s.putHold _ _).acct_modAcct x.pool · _) (h x.pool)
  | upgrade slot x tokens interval deadline hm hu ht hf => exact h.write rfl ((s.putHold _ _).acct_modAcct x.pool · _) (h x.pool)
  | remove slot x hm hf => exact h.write rfl ((s.freeSlot slot).acct_modAcct x.pool · _) (h x.pool)
  | endStrip p hg hh hq hf => exact h.write rfl (s.acct_setAcct p · Account.cleared) (by rw [hq hG]; rfl)
  | enqueue e hs hw => exact h.enqueue e
  | unlink e hm => exact h.unlink hk (hm hG)
  | handOn e f hf hm => exact (h.unlink hk (hm hG)).congr rfl rfl
  | reenqueue f hf hp =>
    intro p
    refine (h p).trans ?_
    rw [State.poolQueue, State.poolQueue]
    simp [List.filter_map, Function.comp_def, hp]
  | _ => exact h.congr (by simp) (by simp)

theorem Move.storeKept (m : Move G g s g' t) (h : s.queues.entries.length ≤ Config.waitPlaces) :
    t.queues.entries.length ≤ Config.waitPlaces := by
  cases m with
  | still hc => rwa [hc.entries]
  | enqueue e hs hw => rw [State.entries_enqueue, List.length_append, List.length_singleton]; omega
  | unlink e hm => exact Nat.le_trans (by simpa using List.length_eraseP_le) h
  | handOn e f hf hm => exact Nat.le_trans (by simpa using List.length_eraseP_le) h
  | _ => simpa using h

theorem Begun.queuesCounted (b : Begun s t) (h : QueuesCounted s) : QueuesCounted t := by
  cases b with
  | same => exact h
  | restarted => exact ⟨List.Pairwise.nil, Nat.zero_le _, fun p => rfl⟩
  | cleared => exact ⟨List.Pairwise.nil, Nat.zero_le _, fun p => rfl⟩

/-- Settles O13: an entry joins with its key and its place tested and is counted, and the entry that leaves is the one that stood under
its key. -/
theorem queuesAreKept : Obligations.QueuesAreKept := by
  unfold Obligations.QueuesAreKept
  intro s t hl hq hs
  refine (step_keeps (G := { keys := True, slots := False, frozen := False }) (P := fun _ s => AccountsListed s ∧ QueuesCounted s) id
    (fun h => ⟨fun _ => h.2.1, False.elim⟩) (fun m h => ?_) (fun b h => ⟨b.accountsListed h.1, b.queuesCounted h.2⟩) ⟨hl, hq⟩ hs).2
  obtain ⟨hl, hk, hw, hc⟩ := h
  exact ⟨m.accountsListed hl, m.keysUnique trivial hk, m.storeKept hw, m.lengthsCounted trivial hl hk hc⟩

end Sys2Proof.Machine
end

section
/-! PROOFS. H is the sum of the tokens of a pool's holds, and the hold count their number (R20, R22): each move that writes a slot
writes the two figures with it, and only the pool that a REVOKE strips waits for its own (R114). -/

namespace Sys2Proof

section

variable {α : Type} {t : Table α} {k : Nat} {v : α}

theorem Table.nodup_of_rising (h : Table.Rising t) : t.Nodup :=
  List.Pairwise.imp (fun hlt => by rintro rfl; exact Nat.lt_irrefl _ hlt) h

theorem Table.nodup_cons_remove (h : Table.Rising t) : ((k, v) :: Table.remove t k).Nodup :=
  List.nodup_cons.2 ⟨by simp [Table.remove], Table.nodup_of_rising (Table.rising_remove k h)⟩

/-- A table after a write is what is written and what the other keys hold. -/
theorem Table.perm_put (h : Table.Rising t) (k : Nat) (v : α) : (Table.put t k v).Perm ((k, v) :: Table.remove t k) := by
  refine (List.perm_ext_iff_of_nodup (Table.nodup_of_rising (Table.rising_put k v h)) (Table.nodup_cons_remove h)).2 fun e => ?_
  obtain ⟨a, b⟩ := e
  rw [List.mem_cons, Table.mem_iff_get? (Table.rising_put k v h), Table.get?_put, Table.mem_iff_get? (Table.rising_remove k h),
    Table.get?_remove]
  by_cases hk : k = a <;> simp [hk, eq_comm]

/-- A table is what a key of it holds and what the other keys hold. -/
theorem Table.perm_remove (h : Table.Rising t) (hm : (k, v) ∈ t) : t.Perm ((k, v) :: Table.remove t k) := by
  refine (List.perm_ext_iff_of_nodup (Table.nodup_of_rising h) (Table.nodup_cons_remove h)).2 fun e => ?_
  obtain ⟨a, b⟩ := e
  rw [Table.mem_iff_get? h] at hm
  rw [List.mem_cons, Table.mem_iff_get? h, Table.mem_iff_get? (Table.rising_remove k h), Table.get?_remove]
  by_cases hk : k = a
  · subst hk; simp [hm, eq_comm]
  · simp [hk, eq_comm]

theorem Table.remove_of_free (h : ∀ e ∈ t, e.1 ≠ k) : Table.remove t k = t := List.filter_eq_self.2 fun e he => by simpa using h e he

end

namespace Machine

open Host

variable {G : Given} {g g' : Underway} {s t : State}

/-- The account's H and hold count are those of these holds. -/
def Account.Tallies (a : Account) (hs : List (Nat × Hold)) : Prop := a.h = (hs.map (fun e => e.2.tokens)).sum ∧ a.holdCount = hs.length

theorem Account.Tallies.perm {a : Account} {hs hs' : List (Nat × Hold)} (h : a.Tallies hs) (hp : hs.Perm hs') : a.Tallies hs' :=
  ⟨h.1.trans (hp.map _).sum_nat, h.2.trans hp.length_eq⟩

theorem Account.Tallies.congr {a b : Account} {hs : List (Nat × Hold)} (h : b.Tallies hs) (hh : a.h = b.h)
    (hc : a.holdCount = b.holdCount) : a.Tallies hs := ⟨hh.trans h.1, hc.trans h.2⟩

theorem Account.Tallies.figures {a b : Account} {hs : List (Nat × Hold)} (h : b.Tallies hs) (hf : SameFigures a b) : a.Tallies hs :=
  h.congr hf.h hf.holdCount

/-- The holds of a pool in these slots. -/
def holdsIn (slots : Table Hold) (p : Nat) : List (Nat × Hold) := slots.filter (fun e => e.2.pool = p)

theorem State.holdsOf_eq (p : Nat) : s.holdsOf p = holdsIn s.holds.slots p := rfl

theorem holdsIn_cons_same (slots : Table Hold) (k : Nat) {x : Hold} {p : Nat} (h : x.pool = p) :
    holdsIn ((k, x) :: slots) p = (k, x) :: holdsIn slots p := by simp [holdsIn, h]

theorem holdsIn_cons_other (slots : Table Hold) (k : Nat) {x : Hold} {p : Nat} (h : x.pool ≠ p) :
    holdsIn ((k, x) :: slots) p = holdsIn slots p := by simp [holdsIn, h]

theorem holdsIn_perm {slots slots' : Table Hold} (h : slots.Perm slots') (p : Nat) : (holdsIn slots p).Perm (holdsIn slots' p) :=
  h.filter _

theorem Account.tallies_cons {a : Account} {k : Nat} {x : Hold} {hs : List (Nat × Hold)} :
    a.Tallies ((k, x) :: hs) ↔ a.h = x.tokens + (hs.map (fun e => e.2.tokens)).sum ∧ a.holdCount = hs.length + 1 := Iff.rfl

/-- A slot is written anew or anew filled: what the other pools hold is what they held, and the pool's own account follows. -/
theorem Account.Tallies.put {a : Account} {slots : Table Hold} (hr : Table.Rising slots) {k : Nat} {x : Hold} {p : Nat}
    (h : a.Tallies (holdsIn ((k, x) :: Table.remove slots k) p)) : a.Tallies (holdsIn (Table.put slots k x) p) :=
  h.perm (holdsIn_perm (Table.perm_put hr k x).symm p)

/-- A new hold in a free slot. -/
theorem Account.Tallies.fill {a b : Account} {slots : Table Hold} (hr : Table.Rising slots) {k : Nat} {x : Hold} {p : Nat}
    (hfree : ∀ e ∈ slots, e.1 ≠ k) (h : a.Tallies (holdsIn slots p))
    (hb : b = if x.pool = p then a.charged x.tokens 1 else a) : b.Tallies (holdsIn (Table.put slots k x) p) := by
  refine Account.Tallies.put hr ?_
  rw [Table.remove_of_free hfree, hb]
  split
  · next hp =>
    obtain ⟨hh, hc⟩ := h
    rw [holdsIn_cons_same _ _ hp, Account.tallies_cons]
    exact ⟨by simp only [Account.charged, hh]; omega, by simp only [Account.charged, hc]⟩
  · next hp => rwa [holdsIn_cons_other _ _ hp]

/-- A hold is rewritten in its pool, with as many tokens more as the account. -/
theorem Account.Tallies.rewrite {a b : Account} {slots : Table Hold} (hr : Table.Rising slots) {k : Nat} {x x' : Hold} {p : Nat}
    (hm : (k, x) ∈ slots) (hp : x'.pool = x.pool) (ht : x.tokens ≤ x'.tokens) (h : a.Tallies (holdsIn slots p))
    (hb : b.h = if x.pool = p then a.h + (x'.tokens - x.tokens) else a.h) (hc : b.holdCount = a.holdCount) :
    b.Tallies (holdsIn (Table.put slots k x') p) := by
  refine Account.Tallies.put hr ?_
  have h0 := h.perm (holdsIn_perm (Table.perm_remove hr hm) p)
  by_cases hxp : x.pool = p
  · rw [holdsIn_cons_same _ _ hxp, Account.tallies_cons] at h0
    rw [holdsIn_cons_same _ _ (hp.trans hxp), Account.tallies_cons, hb, if_pos hxp, hc]
    exact ⟨by omega, h0.2⟩
  · rw [holdsIn_cons_other _ _ hxp] at h0
    rw [holdsIn_cons_other _ _ (hp ▸ hxp)]
    exact h0.congr (by rw [hb, if_neg hxp]) hc

/-- A hold leaves its slot. -/
theorem Account.Tallies.free {a b : Account} {slots : Table Hold} (hr : Table.Rising slots) {k : Nat} {x : Hold} {p : Nat}
    (hm : (k, x) ∈ slots) (h : a.Tallies (holdsIn slots p)) (hb : b = if x.pool = p then a.credited x.tokens else a) :
    b.Tallies (holdsIn (Table.remove slots k) p) := by
  have h0 := h.perm (holdsIn_perm (Table.perm_remove hr hm) p)
  rw [hb]
  split
  · next hp =>
    rw [holdsIn_cons_same _ _ hp, Account.tallies_cons] at h0
    exact ⟨by simp only [Account.credited, h0.1]; omega, by simp only [Account.credited, h0.2]; omega⟩
  · next hp => rwa [holdsIn_cons_other _ _ hp] at h0

theorem holdsIn_remove_other {slots : Table Hold} {k p : Nat} (h : ∀ x, (k, x) ∈ slots → x.pool ≠ p) :
    holdsIn (Table.remove slots k) p = holdsIn slots p := by
  rw [holdsIn, holdsIn, Table.remove, List.filter_filter]
  refine List.filter_congr fun e he => ?_
  by_cases hk : e.1 = k
  · simp [h e.2 (hk ▸ he)]
  · simp [hk]

theorem holdsIn_map (slots : Table Hold) {f : Hold → Hold} (hf : ∀ x, (f x).pool = x.pool) (p : Nat) :
    holdsIn (slots.map (fun e => (e.1, f e.2))) p = (holdsIn slots p).map (fun e => (e.1, f e.2)) := by
  simp [holdsIn, List.filter_map, Function.comp_def, hf]

/-- The figures agree with the holds, but for the pool being stripped. -/
def Tallied (g : Underway) (s : State) : Prop := ∀ p, g.stripping ≠ some p → (s.acct p).Tallies (holdsIn s.holds.slots p)

theorem Tallied.figures (h : Tallied g s) (hs : t.holds.slots = s.holds.slots)
    (hf : ∀ p, (t.acct p).h = (s.acct p).h ∧ (t.acct p).holdCount = (s.acct p).holdCount) : Tallied g t := fun p hp =>
  hs ▸ (h p hp).congr (hf p).1 (hf p).2

theorem Tallied.congr (h : Tallied g s) (hs : t.holds.slots = s.holds.slots) (ha : t.accounts = s.accounts) : Tallied g t :=
  h.figures hs fun p => by simp [State.acct_congr ha p]

theorem Tallied.write {p : Nat} {a : Account} (h : Tallied g s) (hs : t.holds.slots = s.holds.slots)
    (ht : ∀ q, t.acct q = if p = q then a else s.acct q) (ha : a.h = (s.acct p).h ∧ a.holdCount = (s.acct p).holdCount) :
    Tallied g t := by
  refine h.figures hs fun q => ?_
  rw [ht]
  split
  · next hq => exact hq ▸ ha
  · exact ⟨rfl, rfl⟩

theorem Account.tally_settled (a : Account) : a.settled.h = a.h ∧ a.settled.holdCount = a.holdCount := by
  rw [Account.settled]
  split <;> exact ⟨rfl, rfl⟩

theorem Account.tally_delegated (a : Account) (d : Nat) (m : DelegationState) :
    (a.delegated d m).h = a.h ∧ (a.delegated d m).holdCount = a.holdCount := Account.tally_settled _

theorem Move.tallied (hG : G.slots) (hl : AccountsListed s) (hs : SlotsListed s) (m : Move G g s g' t) (h : Tallied g s) :
    Tallied g' t := by
  have hr := hs.1
  cases m with
  | still hc => exact h.congr hc.slots hc.accounts
  | restat p a ha => exact h.write rfl (s.acct_setAcct p · a) ⟨ha.h, ha.holdCount⟩
  | restatAll f hf hc => exact h.figures rfl fun p => by rw [State.acct_restatAll hl hc]; exact ⟨(hf _).h, (hf _).holdCount⟩
  | settle p hf => exact h.write rfl (s.acct_modAcct p · _) (s.acct p).tally_settled
  | flag p b hb => exact Tallied.write (a := { s.acct p with overcommit := b }) h rfl (s.acct_modAcct p · _) ⟨rfl, rfl⟩
  | delegate p d m hm hf => exact Tallied.write h rfl (s.acct_modAcct p · _) ((s.acct p).tally_delegated d m)
  | newHold x hn hu hf =>
    intro p hp
    refine Account.Tallies.fill hr (Table.lowestFree_free hr 0 fun e _ => Nat.zero_le _) (h p hp) ?_
    rw [State.acct_modAcct]
    split
    · next hx => subst hx; rfl
    · rfl
  | upgrade slot x tokens interval deadline hm hu ht hf =>
    intro p hp
    refine Account.Tallies.rewrite (x' := x.joined tokens interval deadline) hr hm rfl ht (h p hp) ?_ ?_ <;> rw [State.acct_modAcct]
    · split
      · next hx => subst hx; rfl
      · rfl
    · split
      · next hx => subst hx; rfl
      · rfl
  | rehold slot x x' hm hp ht hu =>
    intro p hg
    exact Account.Tallies.rewrite hr hm hp (Nat.le_of_eq ht.symm) (h p hg) (by simp [ht, State.acct, State.putHold]) rfl
  | reholdAll f hp ht hu =>
    intro p hg
    refine ⟨(h p hg).1.trans ?_, (h p hg).2.trans ?_⟩
    · simp [holdsIn_map _ hp, Function.comp_def, ht]
    · simp [holdsIn_map _ hp]
  | remove slot x hm hf =>
    intro p hp
    refine Account.Tallies.free hr (hm hG) (h p hp) ?_
    rw [State.acct_modAcct]
    split
    · next hx => subst hx; rfl
    · rfl
  | beginStrip p hg => exact fun q hq => h q (by simp [hg])
  | takeAway p slot hg hm =>
    intro q hq
    have hother : ∀ x, (slot, x) ∈ s.holds.slots → x.pool ≠ q := fun x hx hxq => hq (by rw [hg, ← hm hG x hx, hxq])
    rw [State.slots_freeSlot, holdsIn_remove_other hother]
    exact h q hq
  | endStrip p hg hh hq hf =>
    intro q hq
    rw [State.acct_setAcct]
    split
    · next hp =>
      subst hp
      have hnone : holdsIn s.holds.slots p = [] := hh hG
      change Account.cleared.Tallies (holdsIn s.holds.slots p)
      rw [hnone]
      exact ⟨rfl, rfl⟩
    · next hp => exact h q (fun he => hp (Option.some.inj he))
  | enqueue e hk hw => exact h.figures rfl fun p => by rw [State.acct_enqueue]; split <;> exact ⟨rfl, rfl⟩
  | unlink e hm => exact h.figures rfl fun p => by rw [State.acct_unlink]; split <;> exact ⟨rfl, rfl⟩
  | handOn e f hk hm =>
    refine Tallied.congr (s := s.unlink e) (h.figures rfl fun p => ?_) rfl rfl
    rw [State.acct_unlink]
    split <;> exact ⟨rfl, rfl⟩
  | _ => exact h.congr (by simp) (by simp)

theorem tokensHeld_iff : TokensHeld s ↔ SlotsListed s ∧ Tallied .rest s :=
  ⟨fun h => ⟨h.1, fun p _ => h.2 p⟩, fun h => ⟨h.1, fun p => h.2 p nofun⟩⟩

theorem Begun.tokensHeld (b : Begun s t) (h : TokensHeld s) : TokensHeld t := by
  cases b with
  | same => exact h
  | restarted => exact ⟨⟨List.Pairwise.nil, fun e he => by cases he⟩, fun p => ⟨rfl, rfl⟩⟩
  | cleared => exact ⟨⟨List.Pairwise.nil, fun e he => by cases he⟩, fun p => ⟨rfl, rfl⟩⟩

/-- Settles O11: the moves that write a slot move H and the hold count with it, and REVOKE clears its pool's account once the pool's holds
are gone. -/
theorem heldTokensAreKept : Obligations.HeldTokensAreKept := by
  unfold Obligations.HeldTokensAreKept
  intro s t hl h hs
  refine tokensHeld_iff.2 (step_keeps (G := { keys := False, slots := True, frozen := False })
    (P := fun g s => AccountsListed s ∧ SlotsListed s ∧ Tallied g s) id (fun h => ⟨False.elim, fun _ => h.2.1⟩) (fun m h => ?_)
    (fun b h => ⟨b.accountsListed h.1, tokensHeld_iff.1 (b.tokensHeld (tokensHeld_iff.2 h.2))⟩) ⟨hl, tokensHeld_iff.1 h⟩ hs).2
  obtain ⟨hl, hslots, ht⟩ := h
  exact ⟨m.accountsListed hl, m.slotsListed hslots, m.tallied trivial hl hslots ht⟩

end Machine

end Sys2Proof
end

section
/-! PROOFS. The step, the empty command queue and the reset. -/

namespace Sys2Proof.Machine

open Host

variable (s : State)

/-- Settles O1: the queue's front is what the step matches on. -/
theorem stepRunsFrontCommand : Obligations.StepRunsFrontCommand := by
  unfold Obligations.StepRunsFrontCommand
  exact fun c s => rfl

/-! ### No command faults or refuses -/

/-- Every command ends in a next state, in each branch of its meaning. -/
theorem exec_isNext (c : Instr) : isNext (exec c s) = true := by
  cases c
  all_goals
    simp only [exec, execIdentify, execReadStatus, execReadPool, execSetParameters, execSetNotify, execClearEvents, execLoadPools,
      execLoadGroups, execClearShadow, execSwitch, execRenewDeadlineExpiry, execGraceEndReclaim, execLingerEnd, execWaitDeadlineExpiry,
      execForwardDeadlineExpiry, execEpochBoundary, execDayChange, execProbe, execWindowExpiry, execAutonomyLimitReached, execCheckout,
      execCheckin, execRenew, execCancel, execQuery, execServiceReplyRelay, execQueueServicePass, execFrameReceive, execFarmPauseRefresh,
      execServicePauseFrame, execServicePauseExpiry, execBridgeFramePass, execFrameTransmit, execProtocolError, execSeatFrameDrop,
      execDelegate, execCensus, execRevoke, execListHolds, execListQueue, execEvict, execDrain, execUndrain, execSetTime,
      execInjectEchoError, execReconcile, execImageRead, execImageWrite, execResume, execRestart, execPowerOnReset, execLineReset]
    repeat' split
  all_goals rfl

/-- Settles O2: the front command, the command that is due, and the passing of the clock each answer a next state. -/
theorem everyStepAnswersNext : Obligations.EveryStepAnswersNext := by
  unfold Obligations.EveryStepAnswersNext
  intro s
  unfold Safe step
  split
  · exact exec_isNext ..
  · unfold State.idle
    split
    · exact exec_isNext ..
    · rfl

/-! ### The passing of the clock (R131) -/

theorem State.lt_nextMs : s.clk < s.nextMs := by
  have := Nat.lt_div_mul_add (a := s.clk) (b := Config.msCycles) (by decide)
  rw [State.nextMs, Nat.add_mul]
  omega

theorem State.sooner_bounds (m : Option Nat) {n : Nat} (h : s.clk < n) : s.clk < s.sooner m n ∧ s.sooner m n ≤ n := by
  cases m with
  | none => exact ⟨h, Nat.le_refl n⟩
  | some m =>
    rw [State.sooner]
    split
    · exact ⟨by omega, Nat.min_le_right ..⟩
    · exact ⟨h, Nat.le_refl n⟩

/-- The clock's next moment lies ahead, and not behind engine time's next advance. -/
theorem State.nextMoment_bounds : s.clk < s.nextMoment ∧ s.nextMoment ≤ s.nextMs := by
  obtain ⟨h1, g1⟩ := s.sooner_bounds s.autonomyMoment s.lt_nextMs
  obtain ⟨h2, g2⟩ := s.sooner_bounds s.farm.refreshAt h1
  obtain ⟨h3, g3⟩ := s.sooner_bounds s.svc.pauseEnd h2
  obtain ⟨h4, g4⟩ := s.sooner_bounds s.link.windowExpiry h3
  exact ⟨h4, Nat.le_trans g4 (Nat.le_trans g3 (Nat.le_trans g2 g1))⟩

/-- Settles O3: the clock stops at its next moment, and engine time advances where that is a whole millisecond. -/
theorem clockRunsOnEmptyQueue : Obligations.ClockRunsOnEmptyQueue := by
  unfold Obligations.ClockRunsOnEmptyQueue
  intro s hp hd
  obtain ⟨hlt, hle⟩ := s.nextMoment_bounds
  refine ⟨s.tick, by rw [step, hp]; simp only [State.idle, hd], ?_⟩
  rw [State.tick]
  split
  · rw [State.advance]
    split
    · next hn =>
      have htop : s.time.now < 2 ^ 48 - 1 := hn
      exact ⟨s.lt_nextMs, Nat.le_refl _, rfl, fun h => absurd h (Nat.lt_irrefl _), fun _ _ => rfl, fun _ h => by omega⟩
    · next hn =>
      have htop : ¬s.time.now < 2 ^ 48 - 1 := hn
      exact ⟨s.lt_nextMs, Nat.le_refl _, rfl, fun _ => rfl, fun _ h => absurd h htop, fun _ _ => rfl⟩
  · next hne => exact ⟨hlt, hle, rfl, fun _ => rfl, fun h => absurd h hne, fun _ _ => rfl⟩

/-! ### The reset (R194) -/

/-- Settles O4: the reset state is written out in the model; its accounts read as cleared for want of any. -/
theorem resetLeavesTheTableOfR194 : Obligations.ResetLeavesTheTableOfR194 := by
  unfold Obligations.ResetLeavesTheTableOfR194
  refine ⟨rfl, fun p => rfl, rfl, rfl, rfl, rfl, rfl, rfl, rfl, rfl, rfl, rfl, rfl, rfl, rfl, rfl, rfl, rfl, rfl, rfl, rfl, rfl, rfl, rfl,
    rfl, rfl, rfl, rfl, rfl, fun e => ?_, rfl, rfl, rfl, rfl, rfl⟩
  cases e <;> decide

/-- Settles O5: with every table empty, each invariant is about no pool, hold, entry or frame. -/
theorem invariantsHoldAtReset : Obligations.InvariantsHoldAtReset := by
  unfold Obligations.InvariantsHoldAtReset
  refine ⟨⟨List.Pairwise.nil, nofun⟩, ⟨⟨rfl, rfl⟩, by decide, by decide⟩, rfl, nofun, fun p => Nat.zero_le _, fun p => rfl,
    ⟨⟨List.Pairwise.nil, nofun⟩, fun p => ⟨rfl, rfl⟩⟩, ⟨fun _ => by decide, nofun⟩, ⟨by decide, by decide, by decide⟩,
    ⟨List.Pairwise.nil, by decide, fun p => rfl⟩, ⟨nofun, nofun⟩, ⟨List.Pairwise.nil, nofun⟩⟩

end Sys2Proof.Machine
end

section
/-! PROOFS. Bytes and frames: what is written reads back (R172, R180, R181, R182). -/

namespace Sys2Proof

/-! ### Byte order (R180) -/

@[simp] theorem length_beBytes (w n : Nat) : (beBytes w n).length = w := by
  induction w with
  | zero => rfl
  | succ w ih => simp [beBytes, ih]

theorem beNat_append (a b : List Byte) : beNat (a ++ b) = beNat a * 256 ^ b.length + beNat b := by
  induction b generalizing a with
  | nil => simp [beNat]
  | cons x b ih =>
    have hone : beNat (a ++ [x]) = beNat a * 256 + beNat [x] := by simp [beNat, List.foldl_append]
    have hfirst : beNat (x :: b) = beNat [x] * 256 ^ b.length + beNat b := ih [x]
    rw [List.append_cons, ih, hone, hfirst, List.length_cons, Nat.pow_succ, Nat.mul_comm (256 ^ b.length), ← Nat.mul_assoc, Nat.add_mul,
      Nat.add_assoc]

theorem beNat_singleton (b : Byte) : beNat [b] = b.toNat := by simp [beNat]

/-- The bytes that spell a number spell as much of it as they have room for. -/
theorem beNat_beBytes (w n : Nat) : beNat (beBytes w n) = n % 256 ^ w := by
  induction w with
  | zero => simp [beBytes, beNat, Nat.mod_one]
  | succ w ih =>
    have hmod : n % 256 ^ (w + 1) = n % 256 ^ w + 256 ^ w * (n / 256 ^ w % 2 ^ 8) := Nat.mod_mul
    rw [beBytes, ← List.singleton_append, beNat_append, beNat_singleton, length_beBytes, ih, BitVec.toNat_ofNat, hmod, Nat.mul_comm,
      Nat.add_comm]

/-! ### Fields -/

theorem field_append_right {a b : List Byte} {off len : Nat} (h : a.length ≤ off) :
    field (a ++ b) off len = field b (off - a.length) len := by simp [field, List.drop_append, List.drop_eq_nil_of_le h]

theorem field_append_left {a b : List Byte} {off len : Nat} (h : off + len ≤ a.length) : field (a ++ b) off len = field a off len := by
  rw [field, field, List.drop_append_of_le_length (by omega), List.take_append_of_le_length (by rw [List.length_drop]; omega)]

theorem field_all (a : List Byte) : field a 0 a.length = beNat a := by simp [field]

theorem field_beBytes_append (w n : Nat) (b : List Byte) : field (beBytes w n ++ b) 0 w = n % 256 ^ w := by
  rw [field_append_left (by simp), ← beNat_beBytes w n]
  simpa using field_all (beBytes w n)

theorem field_beBytes (w n : Nat) : field (beBytes w n) 0 w = n % 256 ^ w := by simpa using field_beBytes_append w n []

theorem field_cons_one (x : Byte) (b : List Byte) : field (x :: b) 0 1 = x.toNat := by simp [field, beNat]

theorem field_cons_succ (x : Byte) (b : List Byte) (off len : Nat) : field (x :: b) (off + 1) len = field b off len := rfl

/-! ### The message check (R182) -/

theorem endAround_lt {a b : Nat} (ha : a < 65536) (hb : b < 65536) : endAround a b < 65536 := by
  rw [endAround]
  split <;> omega

theorem onesSum_lt (bs : List Byte) {acc : Nat} (h : acc < 65536) : onesSum acc bs < 65536 := by
  induction acc, bs using onesSum.induct with
  | case1 acc => exact h
  | case2 acc a => exact endAround_lt h (by omega)
  | case3 acc a b rest ih => exact ih (endAround_lt h (by omega))

theorem messageCheck_lt (m : List Byte) : messageCheck m < 65536 := onesSum_lt _ (by decide)

/-- The check does not see the field that carries it. -/
theorem messageCheck_replace {before x y after : List Byte} (hb : before.length = 16) (hx : x.length = 2) (hy : y.length = 2) :
    messageCheck (before ++ (x ++ after)) = messageCheck (before ++ (y ++ after)) := by
  simp [messageCheck, List.drop_append, hb, hx, hy, List.drop_eq_nil_of_le]

/-! ### A seat message (R180) -/

/-- The header up to its check field. -/
def seatBefore (kind len tag node process : Nat) : List Byte :=
  beBytes 1 1 ++ (beBytes 1 kind ++ (beBytes 2 len ++ (beBytes 4 tag ++ (beBytes 4 node ++ beBytes 4 process))))

theorem length_seatBefore (kind len tag node process : Nat) : (seatBefore kind len tag node process).length = 16 := by
  simp [seatBefore]

section

variable (kind tag node process status : Nat) (body : List Byte) (spoiled : Bool)

/-- The check of a seat message, or the check inverted. -/
def seatCheck : Nat :=
  if spoiled then 65535 - messageCheck (seatBefore kind body.length tag node process ++ ([0, 0] ++ (beBytes 2 status ++ body)))
  else messageCheck (seatBefore kind body.length tag node process ++ ([0, 0] ++ (beBytes 2 status ++ body)))

theorem seatMessage_eq : seatMessage kind tag node process status body spoiled =
    seatBefore kind body.length tag node process ++
      (beBytes 2 (seatCheck kind tag node process status body spoiled) ++ (beBytes 2 status ++ body)) := by
  simp [seatMessage, seatBefore, seatCheck]

theorem length_seatMessage : (seatMessage kind tag node process status body spoiled).length = 20 + body.length := by
  simp [seatMessage_eq, length_seatBefore]
  omega

theorem seatCheck_lt : seatCheck kind tag node process status body spoiled < 65536 := by
  have := messageCheck_lt (seatBefore kind body.length tag node process ++ ([0, 0] ++ (beBytes 2 status ++ body)))
  rw [seatCheck]
  split <;> omega

/-- The check field of a message is right unless it is spoiled. -/
theorem seatCheck_eq_iff :
    seatCheck kind tag node process status body spoiled = messageCheck (seatMessage kind tag node process status body spoiled) ↔
      spoiled = false := by
  have h := messageCheck_lt (seatBefore kind body.length tag node process ++ ([0, 0] ++ (beBytes 2 status ++ body)))
  rw [seatMessage_eq, messageCheck_replace (y := [0, 0]) (length_seatBefore ..) (length_beBytes ..) rfl, seatCheck]
  cases spoiled with
  | false => simp
  | true => simp only [if_true, Bool.true_eq_false, iff_false]; omega

end

end Sys2Proof

namespace Sys2Proof.Machine

/-! ### Frames of the engine's own -/

section

variable (eth : EthHeader) (k : Key) (kind status : Nat) (body : List Byte) (spoiled : Bool)

/-- The message behind a frame's addresses. -/
def ownMessage : List Byte := seatMessage kind k.tag.toNat k.node.toNat k.process.toNat status body spoiled

theorem payload_ownFrame : (ownFrame eth k kind status body spoiled).payload =
    ownMessage k kind status body spoiled ++ List.replicate (46 - (ownMessage k kind status body spoiled).length) 0 := rfl

theorem etype_ownFrame : (ownFrame eth k kind status body spoiled).etype = eth.etype := rfl

theorem fcsGood_ownFrame : (ownFrame eth k kind status body spoiled).fcsGood = true := decide_eq_true rfl

theorem length_ownMessage : (ownMessage k kind status body spoiled).length = 20 + body.length := length_seatMessage ..

/-- A header field of the frame is one of its message. -/
theorem field_ownFrame {off len : Nat} (h : off + len ≤ 20) :
    field (ownFrame eth k kind status body spoiled).payload off len = field (ownMessage k kind status body spoiled) off len :=
  field_append_left (Nat.le_trans h (by rw [length_seatMessage]; omega))

theorem field_ownMessage {off len : Nat} (h : off + len ≤ 16) :
    field (ownMessage k kind status body spoiled) off len =
      field (seatBefore kind body.length k.tag.toNat k.node.toNat k.process.toNat) off len := by
  rw [ownMessage, seatMessage_eq, field_append_left (by rw [length_seatBefore]; exact h)]

theorem revision_ownFrame : field (ownFrame eth k kind status body spoiled).payload 0 1 = 1 := by
  rw [field_ownFrame _ _ _ _ _ _ (by decide), field_ownMessage _ _ _ _ _ (by decide), seatBefore]
  exact field_beBytes_append ..

variable {kind} in
theorem kindOf_ownFrame (hk : kind < 256) : kindOf (ownFrame eth k kind status body spoiled) = kind := by
  rw [kindOf, field_ownFrame _ _ _ _ _ _ (by decide), field_ownMessage _ _ _ _ _ (by decide), seatBefore,
    field_append_right (by simp), length_beBytes, field_beBytes_append]
  exact Nat.mod_eq_of_lt hk

variable {body} in
theorem bodyLength_ownFrame (hb : body.length ≤ 1024) : bodyLength (ownFrame eth k kind status body spoiled) = body.length := by
  rw [bodyLength, field_ownFrame _ _ _ _ _ _ (by decide), field_ownMessage _ _ _ _ _ (by decide), seatBefore,
    field_append_right (by simp), length_beBytes, field_append_right (by simp), length_beBytes, field_beBytes_append]
  exact Nat.mod_eq_of_lt (by omega)

theorem keyOf_ownFrame : keyOf (ownFrame eth k kind status body spoiled) = k := by
  have hw (w : Word) : BitVec.ofNat 32 (w.toNat % 256 ^ 4) = w := by
    rw [Nat.mod_eq_of_lt (show w.toNat < 256 ^ 4 from w.isLt), BitVec.ofNat_toNat, BitVec.setWidth_eq]
  simp only [keyOf, wordAt]
  rw [field_ownFrame _ _ _ _ _ _ (by decide), field_ownMessage _ _ _ _ _ (by decide), field_ownFrame _ _ _ _ _ _ (by decide),
    field_ownMessage _ _ _ _ _ (by decide), field_ownFrame _ _ _ _ _ _ (by decide), field_ownMessage _ _ _ _ _ (by decide), seatBefore]
  simp only [field_append_right, length_beBytes, Nat.reduceSub, Nat.reduceLeDiff, field_beBytes_append, field_beBytes, hw]

theorem check_ownFrame : field (ownFrame eth k kind status body spoiled).payload 16 2 =
    seatCheck kind k.tag.toNat k.node.toNat k.process.toNat status body spoiled := by
  rw [field_ownFrame _ _ _ _ _ _ (by decide), ownMessage, seatMessage_eq, field_append_right (Nat.le_of_eq (length_seatBefore ..)),
    length_seatBefore, field_beBytes_append]
  exact Nat.mod_eq_of_lt (seatCheck_lt ..)

variable {body}

theorem take_ownFrame (hb : body.length ≤ 1024) :
    (ownFrame eth k kind status body spoiled).payload.take (20 + bodyLength (ownFrame eth k kind status body spoiled)) =
      ownMessage k kind status body spoiled := by
  rw [bodyLength_ownFrame _ _ _ _ _ hb, payload_ownFrame, ← length_ownMessage k kind status body spoiled, List.take_left]

theorem bodyOf_ownFrame (hb : body.length ≤ 1024) : bodyOf (ownFrame eth k kind status body spoiled) = body := by
  have hm := take_ownFrame eth k kind status spoiled hb
  have hd := congrArg (List.drop 20) hm
  rw [List.drop_take, Nat.add_sub_cancel_left] at hd
  rw [bodyOf, hd, ownMessage, seatMessage_eq]
  simp [List.drop_append, length_seatBefore, List.drop_eq_nil_of_le]

theorem lengthGood_ownFrame (hb : body.length ≤ 1024) : lengthGood (ownFrame eth k kind status body spoiled) = true := by
  rw [lengthGood, bodyLength_ownFrame _ _ _ _ _ hb, payload_ownFrame, List.length_append, length_ownMessage]
  exact decide_eq_true (by omega)

theorem checkGood_ownFrame (hb : body.length ≤ 1024) : checkGood (ownFrame eth k kind status body spoiled) = !spoiled := by
  rw [checkGood, take_ownFrame _ _ _ _ _ hb, check_ownFrame, ownMessage]
  simp only [seatCheck_eq_iff]
  cases spoiled <;> rfl

end

/-- Settles O17: a message's fields are read where they were written, and its check does not see its own field. -/
theorem ownFramesPassTheirChecks : Obligations.OwnFramesPassTheirChecks := by
  unfold Obligations.OwnFramesPassTheirChecks
  exact fun eth k kind status body hk _ hb =>
    ⟨fcsGood_ownFrame .., lengthGood_ownFrame _ _ _ _ _ hb, checkGood_ownFrame _ _ _ _ _ hb, kindOf_ownFrame _ _ _ _ _ hk,
      keyOf_ownFrame .., bodyOf_ownFrame _ _ _ _ _ hb, checkGood_ownFrame _ _ _ _ _ hb⟩

/-! ### The checks of a received frame (R170, R172, R173) -/

/-- The kind numbers that the register map knows (R173). -/
def knownKinds : List Nat :=
  List.range' 0x01 5 ++ List.range' 0x81 14 ++ List.range' 0x20 25 ++ [0x40, 0xA0] ++ List.range' 0xC0 5

theorem mem_knownKinds {kind : Nat} (h : kindGroup kind ≠ .unknown) : kind ∈ knownKinds := by
  simp only [kindGroup] at h
  simp only [knownKinds, List.mem_append, List.mem_range'_1, List.mem_cons, List.not_mem_nil, or_false]
  grind

/-- A known kind with a body long enough is a message, taken by the command of its kind. -/
theorem messageOf_of_known {kind : Nat} (b : List Byte) (port : Port) (h : kindGroup kind ≠ .unknown) :
    ∃ m, messageOf kind b = some m ∧ commandOfKind port kind = some (m.command port) := by
  have all : ∀ k ∈ knownKinds, ∃ m, messageOf k b = some m ∧ commandOfKind port k = some (m.command port) := by
    repeat refine List.forall_mem_cons.2 ⟨⟨_, rfl, rfl⟩, ?_⟩
    exact fun _ hk => nomatch hk
  exact all kind (mem_knownKinds h)

theorem messageOf_of_unknown {kind : Nat} (b : List Byte) (h : kindGroup kind = .unknown) : messageOf kind b = none := by
  simp only [messageOf, h]

/-- Settles O16: each check is a branch of the classifier, in the spec's order. -/
theorem seatFrameChecksInOrder : Obligations.SeatFrameChecksInOrder := by
  unfold Obligations.SeatFrameChecksInOrder
  intro port seatType f
  refine ⟨fun ht => by simp [classify, ht], fun ht hf => by simp [classify, ht, hf], fun ht hf hl => by simp [classify, ht, hf, hl],
    fun ht hf hl hc => by simp [classify, ht, hf, hl, hc], fun ht hf hl hc hw => by simp [classify, ht, hf, hl, hc, hw],
    fun ht hf hl hc hw hbad => ?_, fun ht hf hl hc hw hr hk hb => ?_⟩
  · by_cases hs : field f.payload 0 1 ≠ 1 ∨ (bodyOf f).length < bodyNeeds (kindOf f)
    · simp [classify, ht, hf, hl, hc, hw, hs]
    · obtain ⟨hrev, hshort⟩ := not_or.1 hs
      have hu : kindGroup (kindOf f) = .unknown := (hbad.resolve_left hrev).resolve_right hshort
      simp [classify, ht, hf, hl, hc, hw, messageOf_of_unknown _ hu]
  · obtain ⟨m, hm, hcmd⟩ := messageOf_of_known (bodyOf f) port hk
    exact ⟨m, by simp [classify, ht, hf, hl, hc, hw, hr, Nat.not_lt.2 hb, hm], hm, hcmd⟩

/-! ### A CHECKOUT's body (R181) -/

theorem length_bytes_checkout (b : CheckoutBody) : b.bytes.length = 14 := by simp [CheckoutBody.bytes]

/-- A CHECKOUT's body reads back where each field is in its range. -/
theorem checkoutBody_bytes {b : CheckoutBody} (hf : b.feature < 2 ^ 24) (hv : b.version < 65536) (hs : b.seats < 65536)
    (hc : b.cores < 65536) (hw : b.waitLimit < 65536) (hi : b.interval < 65536) : checkoutBody b.bytes = b := by
  have h3 {n : Nat} (h : n < 2 ^ 24) : n % 256 ^ 3 = n := Nat.mod_eq_of_lt h
  have h2 {n : Nat} (h : n < 65536) : n % 256 ^ 2 = n := Nat.mod_eq_of_lt h
  simp only [checkoutBody, CheckoutBody.bytes, List.append_assoc, field_append_right, length_beBytes, field_beBytes_append, field_beBytes,
    List.cons_append, List.nil_append, field_cons_one, field_cons_succ, Nat.reduceSub, Nat.reduceLeDiff, Nat.le_refl, Nat.sub_self,
    h3 hf, h2 hv, h2 hs, h2 hc, h2 hw, h2 hi, BitVec.ofNat_toNat, BitVec.setWidth_eq]

/-- Settles O18: a rebuilt CHECKOUT passes each check, and its body is read as it was written. -/
theorem rebuiltCheckoutReadsBack : Obligations.RebuiltCheckoutReadsBack := by
  unfold Obligations.RebuiltCheckoutReadsBack
  intro eth k b hf hv hs hc hw hi
  have hlen : b.bytes.length ≤ 1024 := by rw [length_bytes_checkout]; decide
  have hkind : kindOf (ownFrame eth k 0x01 0 b.bytes false) = 0x01 := kindOf_ownFrame _ _ _ _ _ (by decide)
  have hread : messageOf 0x01 b.bytes = some (.checkout b) := congrArg (some ∘ Message.checkout) (checkoutBody_bytes hf hv hs hc hw hi)
  simp [classify, UpEntry.frame, etype_ownFrame, fcsGood_ownFrame, lengthGood_ownFrame _ _ _ _ _ hlen, checkGood_ownFrame _ _ _ _ _ hlen,
    hkind, revision_ownFrame, bodyOf_ownFrame _ _ _ _ _ hlen, length_bytes_checkout, hread, keyOf_ownFrame, kindGroup, wrongPort, bodyNeeds]

end Sys2Proof.Machine
end

section
/-! PROOFS. The ports: reception, pause, bridging, transmission, faulty frames (R170 to R179). -/

namespace Sys2Proof.Machine

open Host

variable (s : State)

/-! ### Reception (R170, R171, R174) -/

theorem State.exec_frameReceive_of_low {port : Port} {f : Frame} (h : s.resetLow = true) : exec (.frameReceive port f) s = .next s := if_pos h

theorem State.exec_frameReceive {port : Port} {f : Frame} (h : s.resetLow = false) :
    exec (.frameReceive port f) s = .next (s.receive port f) := if_neg (by simp [h])

theorem State.receive_of_pause {port : Port} {f : Frame} (h : f.isPause = true) :
    s.receive port f = (s.countFrame port).consumePause port f.pauseTime := if_pos h

theorem State.receive_of_place {port : Port} {f : Frame} (hp : f.isPause = false) (h : (s.intake port).length < intakeCapacity port) :
    s.receive port f = (s.countFrame port).pushIntake port f := by simp [State.receive, hp, h]

theorem State.receive_of_full {port : Port} {f : Frame} (hp : f.isPause = false) (h : intakeCapacity port ≤ (s.intake port).length) :
    s.receive port f = ((s.countFrame port).countPort port (fun t => { t with overruns := bump t.overruns })).raise .intakeOverrun := by
  simp [State.receive, hp, Nat.not_lt.2 h]

/-- A frame that joins the Farm intake queue moves the pause control alone with it. -/
theorem State.pushIntake_farm (f : Frame) :
    s.pushIntake .farm f =
      s.setFarm
        { s.farm with
          intake := s.farm.intake ++ [f], paused := (s.pushIntake .farm f).farm.paused,
          pauseDue := (s.pushIntake .farm f).farm.pauseDue, refreshAt := (s.pushIntake .farm f).farm.refreshAt } := by
  simp only [State.pushIntake, State.pauseAssert]
  split <;> rfl

/-- Settles O19: the frame is consumed, queued or dropped, and each way touches its own port and what a raising touches. -/
theorem frameReceiveQueuesOrOverruns : Obligations.FrameReceiveQueuesOrOverruns := by
  unfold Obligations.FrameReceiveQueuesOrOverruns
  intro port f s
  refine ⟨s.exec_frameReceive_of_low, fun hr hp hl => ?_, fun hr hp hl => ?_, fun hr hp => ?_⟩
  · refine ⟨_, s.exec_frameReceive hr, ?_⟩
    rw [s.receive_of_place hp hl]
    cases port with
    | farm =>
      rw [State.pushIntake_farm]
      exact ⟨rfl, rfl, rfl, fun _ => ⟨rfl, rfl⟩, nofun⟩
    | service => exact ⟨rfl, rfl, rfl, nofun, fun _ => ⟨rfl, rfl⟩⟩
  · refine ⟨_, s.exec_frameReceive hr, ?_⟩
    rw [s.receive_of_full hp hl]
    have only := ((s.countFrame port).countPort port (fun t => { t with overruns := bump t.overruns })).raise_only .intakeOverrun
    cases port with
    | farm =>
      exact ⟨by simp [State.intake, State.countFrame, State.countPort], by simp [State.portStats, State.countFrame, State.countPort],
        by simp [State.portStats, State.countFrame, State.countPort], by simp, fun _ => only, nofun⟩
    | service =>
      exact ⟨by simp [State.intake, State.countFrame, State.countPort],
        by rw [only]; rfl, by rw [only]; rfl, by simp, nofun, fun _ => only⟩
  · refine ⟨_, s.exec_frameReceive hr, ?_⟩
    rw [s.receive_of_pause hp]
    cases port with
    | farm => exact ⟨rfl, rfl, rfl, fun _ => rfl, nofun⟩
    | service => exact ⟨rfl, rfl, rfl, nofun, fun _ => rfl⟩

/-! ### The Farm pause control (R174) -/

/-- The head leaves the Farm intake queue, and with it only the pause control moves. -/
theorem State.popIntake_farm :
    FarmHeadLeft s (s.popIntake .farm) ∧ (s.popIntake .farm).farm.replies = s.farm.replies ∧
      (s.popIntake .farm).farm.stats = s.farm.stats ∧ s.popIntake .farm = s.setFarm (s.popIntake .farm).farm := by
  simp only [State.popIntake, State.pauseRelease]
  split
  · next h =>
    obtain ⟨hp, hl⟩ := h
    have hl : s.farm.intake.length ≤ 257 := by simpa [Config.openAt] using hl
    refine ⟨⟨rfl, rfl, rfl, fun _ _ => ⟨rfl, rfl, rfl⟩, ?_⟩, rfl, rfl, rfl⟩
    rintro (hopen | hlong)
    · cases hp.symm.trans hopen
    · omega
  · next h =>
    refine ⟨⟨rfl, rfl, rfl, fun hp hl => absurd ⟨hp, ?_⟩ h, fun _ => ⟨rfl, rfl, rfl⟩⟩, rfl, rfl, rfl⟩
    simpa [Config.openAt] using hl

theorem State.exec_bridgeFramePass_of_bridge {port : Port} {f : Frame} (hh : s.head port = some (f, .bridge)) :
    exec (.bridgeFramePass port) s = .next (s.passBridge port f) := by
  change execBridgeFramePass port s = _
  simp only [execBridgeFramePass, hh]

theorem State.passBridge_of_free {port : Port} (f : Frame) (h : s.oppositeSlot port = none) :
    s.passBridge port f = (s.popIntake port).fillOpposite port f := by rw [State.passBridge, h]

/-- Settles O20: a frame that joins makes the control's closing test, one that leaves its opening test. -/
theorem farmPauseControlCloses : Obligations.FarmPauseControlCloses := by
  unfold Obligations.FarmPauseControlCloses
  refine ⟨fun f s hr hp ho hl => ?_, fun f s hr hp ho hl => ?_, fun s m hp hm => ⟨fun hle => ?_, fun hlt => ?_⟩, fun f s hh hb hp => ?_⟩
  · refine ⟨_, s.exec_frameReceive hr, ?_⟩
    rw [s.receive_of_place hp (by simp [State.intake, hl, intakeCapacity, Config.farmIntake])]
    have hclose : (s.countFrame .farm).pushIntake .farm f =
        ((((s.countFrame .farm).setFarm { (s.countFrame .farm).farm with intake := s.farm.intake ++ [f] }).setFarm
          { (s.countFrame .farm).farm with
            intake := s.farm.intake ++ [f], paused := true, refreshAt := some (s.clk + Config.refreshCycles) }).duePause
          Config.pauseQuanta) := if_pos ⟨ho, by simp [State.countFrame, State.countPort, hl, Config.pauseAt]⟩
    rw [hclose]
    exact ⟨rfl, rfl, rfl⟩
  · refine ⟨_, s.exec_frameReceive hr, ?_⟩
    have hplace : (s.intake .farm).length < intakeCapacity .farm := Nat.lt_trans hl (by decide)
    have hopen : (s.countFrame .farm).pushIntake .farm f =
        (s.countFrame .farm).setFarm { (s.countFrame .farm).farm with intake := s.farm.intake ++ [f] } :=
      if_neg (by simp [State.countFrame, State.countPort, Config.pauseAt]; omega)
    rw [s.receive_of_place hp hplace, hopen]
    exact ⟨ho, rfl⟩
  · change execFarmPauseRefresh s = _
    simp only [execFarmPauseRefresh, hm, hp, hle, and_self, if_true]
    rfl
  · change execFarmPauseRefresh s = _
    simp [execFarmPauseRefresh, hm, Nat.not_le.2 hlt]
  · refine ⟨_, s.exec_bridgeFramePass_of_bridge hh, ?_⟩
    obtain ⟨⟨-, -, -, hopens, hstays⟩, -⟩ := s.popIntake_farm
    rw [s.passBridge_of_free (port := .farm) f hb]
    refine ⟨fun hl => hopens hp (by omega), fun hl => ?_⟩
    obtain ⟨h1, h2, -⟩ := hstays (.inr hl)
    exact ⟨h1.trans hp, h2⟩

/-! ### The pause of the Service Port (R175) -/

/-- Settles O21: a pause sets the end of the pause afresh, and the transmitter tests it. -/
theorem servicePauseStopsTheTransmitter : Obligations.ServicePauseStopsTheTransmitter := by
  unfold Obligations.ServicePauseStopsTheTransmitter
  refine ⟨fun q s hr => ?_, fun s m hm => ⟨fun hle => ?_, fun hlt => ?_, ?_⟩⟩
  · change execServicePauseFrame q s = _
    simp only [execServicePauseFrame, hr]
    rfl
  · change execServicePauseExpiry s = _
    simp only [execServicePauseExpiry, hm, hle, if_true]
  · change execServicePauseExpiry s = _
    simp only [execServicePauseExpiry, hm, Nat.not_le.2 hlt, if_false]
  · change execFrameTransmit .service s = _
    simp [execFrameTransmit, hm]

/-! ### The bridge (R170, R173) -/

theorem State.exec_bridgeFramePass_of_outbound {port : Port} {f : Frame} {k : Key} (hh : s.head port = some (f, .message k .outbound)) :
    exec (.bridgeFramePass port) s = .next (s.bridgeSeat port f) := by
  change execBridgeFramePass port s = _
  simp only [execBridgeFramePass, hh]

theorem State.bridgeSeat_of_free {port : Port} (f : Frame) (h : s.oppositeSlot port = none) :
    s.bridgeSeat port f = (s.takeMessage port f).fillOpposite port f := by rw [State.bridgeSeat, h]

theorem State.bridgeSeat_of_filled {port : Port} {f g : Frame} (h : s.oppositeSlot port = some g) : s.bridgeSeat port f = s := by
  rw [State.bridgeSeat, h]

theorem State.passBridge_of_filled {port : Port} {f g : Frame} (h : s.oppositeSlot port = some g) : s.passBridge port f = s := by
  rw [State.passBridge, h]

/-- Settles O22: a bridge frame leaves its queue uncounted, an outbound kind as a seat message, each into the free slot. -/
theorem bridgeFramePasses : Obligations.BridgeFramePasses := by
  unfold Obligations.BridgeFramePasses
  rintro port f s (hh | ⟨k, hh⟩)
  · refine ⟨fun hfree => ⟨_, s.exec_bridgeFramePass_of_bridge hh, ?_⟩, fun g hg => ?_⟩
    · rw [s.passBridge_of_free f hfree, if_pos hh]
      cases port with
      | farm =>
        obtain ⟨⟨hi, -⟩, hr, hst, honly⟩ := s.popIntake_farm
        refine ⟨rfl, hi, ?_, hr, ?_, congrArg PortStats.seatMessages hst⟩
        all_goals rw [honly]; rfl
      | service => exact ⟨rfl, rfl, rfl, rfl, rfl, rfl⟩
    · rw [s.exec_bridgeFramePass_of_bridge hh, s.passBridge_of_filled hg]
  · refine ⟨fun hfree => ⟨_, s.exec_bridgeFramePass_of_outbound hh, ?_⟩, fun g hg => ?_⟩
    · rw [s.bridgeSeat_of_free f hfree, if_neg (by simp [hh])]
      cases port with
      | farm =>
        obtain ⟨honly, hi, hst, -, -, hr⟩ := s.takeMessage_farm f
        refine ⟨rfl, hi, ?_, hr, ?_, congrArg PortStats.seatMessages hst⟩
        all_goals rw [honly]; rfl
      | service => exact ⟨rfl, rfl, rfl, rfl, rfl, rfl⟩
    · rw [s.exec_bridgeFramePass_of_outbound hh, s.bridgeSeat_of_filled hg]

/-! ### Transmission (R176, R179) -/

theorem State.exec_frameTransmit_farm (h : s.resetLow = false) : exec (.frameTransmit .farm) s = .next s.sendFarm :=
  if_neg (by simp [h])

theorem State.exec_frameTransmit_service (h : s.resetLow = false) (hp : s.svc.pauseEnd = none) :
    exec (.frameTransmit .service) s = .next s.sendService := if_neg (by simp [h, hp])

/-- Settles O23: the arbiter's three choices, each where those before it have nothing to send. -/
theorem farmPortSendsInOrder : Obligations.FarmPortSendsInOrder := by
  unfold Obligations.FarmPortSendsInOrder
  intro s hr
  rw [s.exec_frameTransmit_farm hr]
  refine ⟨fun q due hq => ?_, fun e rest hq he => ?_, fun hq he => ?_⟩
  · simp only [State.sendFarm, hq]
  · simp only [State.sendFarm, hq, he]
  · simp only [State.sendFarm, hq, he]

/-- A departure asks for passes on the stalled pools. -/
def State.departed (s : State) (e : UpEntry) (rest : List UpEntry) : State :=
  (s.setSvc { s.svc with upstream := rest, sending := some e.frame }).askPasses s.stalledPools

theorem State.depart_eq (e : UpEntry) (rest : List UpEntry) :
    s.depart e rest = if e.isReport then (s.departed e rest).testReconciling else s.departed e rest := rfl

theorem State.mem_departed {e : UpEntry} {rest : List UpEntry} {p : Nat} (h : p ∈ s.queues.marks ∨ (s.acct p).stalled = true) :
    p ∈ (s.departed e rest).queues.marks := by
  rw [State.departed, State.mem_askPasses]
  exact h.imp_right State.mem_stalledPools

theorem State.askPasses_only (ps : List Nat) (t : State) :
    t.askPasses ps = t.setQueues { t.queues with marks := (t.askPasses ps).queues.marks } := by
  induction ps generalizing t with
  | nil => rfl
  | cons p ps ih =>
    have hc : t.askPasses (p :: ps) = (t.askPass p).askPasses ps := rfl
    rw [hc]
    exact ih (t.askPass p)

/-- A departure moves the Service Port and the marks alone. -/
theorem State.departed_only (e : UpEntry) (rest : List UpEntry) :
    s.departed e rest =
      { s with
        svc := { s.svc with upstream := rest, sending := some e.frame },
        queues := { s.queues with marks := (s.departed e rest).queues.marks } } := State.askPasses_only ..

/-- The building of the image adds at most a READY to the Upstream Queue (R157). -/
theorem State.testReconciling_upstream (t : State) :
    t.testReconciling.svc.sending = t.svc.sending ∧ t.svc.upstream <+: t.testReconciling.svc.upstream := by
  simp only [State.testReconciling, State.becomeReconciling, State.offerUp]
  (repeat' split) <;> exact ⟨rfl, by simp [State.pushUp, State.dropUp]⟩

/-- Settles O24: the arbiter's three choices; a departure that is no report's, or not in ENTERING, ends with the marks. -/
theorem servicePortSendsInOrder : Obligations.ServicePortSendsInOrder := by
  unfold Obligations.ServicePortSendsInOrder
  intro s hr hp
  rw [s.exec_frameTransmit_service hr hp]
  refine ⟨fun e he => ?_, fun e rest he hu => ⟨_, rfl, ?_⟩, fun he hu => ?_⟩
  · simp only [State.sendService, he]
  · have hsend : s.sendService = s.depart e rest := by simp only [State.sendService, he, hu]
    have hkept : (s.depart e rest).svc.sending = some e.frame ∧ rest <+: (s.depart e rest).svc.upstream ∧
        (s.depart e rest).queues = (s.departed e rest).queues := by
      rw [State.depart_eq]
      split
      · obtain ⟨hsend, hup⟩ := (s.departed e rest).testReconciling_upstream
        have hsvc : (s.departed e rest).svc = { s.svc with upstream := rest, sending := some e.frame } := by rw [State.departed_only]
        rw [hsvc] at hsend hup
        exact ⟨hsend, hup, by simp⟩
      · rw [State.departed_only]
        exact ⟨rfl, List.prefix_refl _, rfl⟩
    obtain ⟨hs, hpre, hq⟩ := hkept
    rw [hsend]
    refine ⟨hs, hpre, fun p h => hq ▸ s.mem_departed (.inr h), fun p h => hq ▸ s.mem_departed (.inl h), fun hquiet => ?_⟩
    have hplain : s.depart e rest = s.departed e rest := by
      rw [State.depart_eq]
      split
      · next hrep =>
        have hmode : s.mode ≠ .entering := hquiet.resolve_left (by simp [hrep])
        exact if_neg fun h => hmode (by simpa [State.departed] using h.1)
      · rfl
    rw [hplain, State.departed_only]
    exact ⟨rfl, rfl⟩
  · simp only [State.sendService, he, hu]

/-! ### Faulty frames (R172, R173) -/

theorem State.exec_protocolError {port : Port} {f : Frame} {k : Key} (h : s.head port = some (f, .protocolError k)) :
    exec (.protocolError port) s = .next ((s.popIntake port).answerFault port f k) := by
  change execProtocolError port s = _
  simp only [execProtocolError, h]

theorem State.exec_seatFrameDrop {port : Port} {f : Frame} {c : HeadClass} (h : s.head port = some (f, c)) :
    ((c = .badFcs ∨ c = .badCheck) → exec (.seatFrameDrop port) s = .next ((s.popIntake port).countCheckError port)) ∧
      ((c = .badLength ∨ c = .wrongPort) → exec (.seatFrameDrop port) s = .next ((s.popIntake port).countFramingError port)) := by
  refine ⟨?_, ?_⟩ <;> rintro (rfl | rfl) <;> change execSeatFrameDrop port s = _ <;> simp only [execSeatFrameDrop, h]

/-- A PROTOCOL_ERROR is a reply that the engine does not count (R45, R192). -/
theorem State.toFarm_protocolError (a : Addrs) (k : Key) :
    Answers s (s.toFarm a k .protocolError) a k .protocolError ∧
      ∃ replies dropped, s.toFarm a k .protocolError =
        s.setFarm { s.farm with replies, stats := { s.farm.stats with droppedReplies := dropped } } := by
  by_cases h : s.farm.replies.length < Config.farmReplies
  · simp only [Answers, State.toFarm, State.offerFarm, State.setMgmt_farm, h, if_true]
    exact ⟨⟨rfl, rfl⟩, _, s.farm.stats.droppedReplies, rfl⟩
  · simp only [Answers, State.toFarm, State.offerFarm, State.setMgmt_farm, h, if_false]
    exact ⟨⟨rfl, rfl⟩, s.farm.replies, _, rfl⟩

/-- A frame dropped for a failed check that is neither its sequence nor its message's is dropped for its framing. -/
theorem framing_of_not_check {c : HeadClass} (hc : c = .badFcs ∨ c = .badCheck ∨ c = .badLength ∨ c = .wrongPort)
    (hk : ¬(c = .badFcs ∨ c = .badCheck)) : c = .badLength ∨ c = .wrongPort :=
  (hc.resolve_left fun h => hk (.inl h)).resolve_left fun h => hk (.inr h)

/-- Settles O26: the head leaves its queue, and what is left of it is one entry or one count. -/
theorem faultyFramesAreAnsweredOrDropped : Obligations.FaultyFramesAreAnsweredOrDropped := by
  unfold Obligations.FaultyFramesAreAnsweredOrDropped
  refine ⟨fun f k s => ⟨fun hh => ?_, fun hh hq => ?_⟩, fun f c s hc => ⟨fun hh => ?_, fun hh => ?_⟩⟩
  · refine ⟨_, s.exec_protocolError hh, ?_⟩
    obtain ⟨hleft, hreplies, hstats, honly⟩ := s.popIntake_farm
    obtain ⟨hanswer, replies, dropped, hfarm⟩ := (s.popIntake .farm).toFarm_protocolError (addrsOf f) k
    have hparams : (s.popIntake .farm).mgmt = s.mgmt := by rw [honly]; rfl
    rw [Answers, hreplies, hstats, hparams] at hanswer
    have ht : (s.popIntake .farm).answerFault .farm f k = _ := hfarm
    refine ⟨hanswer, ?_, ?_, ?_⟩
    · rw [ht]; exact hleft
    · rw [ht, ← hstats]; rfl
    · rw [ht, honly]; rfl
  · rw [s.exec_protocolError hh]
    change Outcome.next ((s.popIntake .service).offerUp _) = _
    have hroom : (s.popIntake .service).mgmtRoom = decide (s.svc.upstream.length < Config.upstream) := by
      simp [State.mgmtRoom, State.popIntake, hq.1]
    rw [State.offerUp, hroom]
    by_cases h : s.svc.upstream.length < Config.upstream
    · simp only [h, decide_true, if_true]
      rfl
    · simp only [h, decide_false, if_false]
      rfl
  · obtain ⟨hleft, hreplies, hstats, honly⟩ := s.popIntake_farm
    obtain ⟨hcheck, hframing⟩ := s.exec_seatFrameDrop hh
    by_cases hk : c = .badFcs ∨ c = .badCheck
    · refine ⟨_, hcheck hk, hleft, hreplies, ?_, ?_⟩
      · rw [if_pos hk, ← hstats]; rfl
      · rw [honly]; rfl
    · refine ⟨_, hframing (framing_of_not_check hc hk), hleft, hreplies, ?_, ?_⟩
      · rw [if_neg hk, ← hstats]; rfl
      · rw [honly]; rfl
  · obtain ⟨hcheck, hframing⟩ := s.exec_seatFrameDrop hh
    by_cases hk : c = .badFcs ∨ c = .badCheck
    · rw [hcheck hk, if_pos hk]; rfl
    · rw [hframing (framing_of_not_check hc hk), if_neg hk]; rfl

end Sys2Proof.Machine
end

section
/-! PROOFS. The image as it is built (R157 to R159). -/

namespace Sys2Proof.Machine

open Host

/-- A list of runs of `n` items each, read at an item of a run. -/
theorem getElem?_flatMap_of_length {α β : Type} {f : α → List β} {n : Nat} (hf : ∀ a, (f a).length = n) :
    ∀ {l : List α} {i : Nat} {a : α}, l[i]? = some a → ∀ j, j < n → (l.flatMap f)[n * i + j]? = (f a)[j]?
  | b :: l, 0, a, hi, j, hj => by
    cases Option.some.inj hi
    rw [List.flatMap_cons, Nat.mul_zero, Nat.zero_add, List.getElem?_append_left (by rwa [hf])]
  | b :: l, i + 1, a, hi, j, hj => by
    rw [List.flatMap_cons, List.getElem?_append_right (by rw [hf, Nat.mul_succ]; omega), hf,
      show n * (i + 1) + j - n = n * i + j by rw [Nat.mul_succ]; omega]
    exact getElem?_flatMap_of_length hf (l := l) hi j hj

theorem epochNumber_lt (now period : Nat) : epochNumber now period < 4294967296 := Nat.mod_lt _ (by decide)

variable {s u : State}

/-! ### The delegated pools -/

theorem State.mem_delegatedPools {p : Nat} : p ∈ s.delegatedPools ↔ (s.acct p).state ≠ .absent := by
  rw [State.delegatedPools, List.mem_filter, State.delegated, decide_eq_true_eq, and_iff_right_iff_imp]
  intro hp
  refine Classical.byContradiction fun hm => ?_
  rw [State.acct_of_unlisted fun e he hep => hm (List.mem_map.2 ⟨e, he, hep⟩)] at hp
  exact hp rfl

theorem State.delegatedPools_rising (hl : AccountsListed s) : s.delegatedPools.Pairwise (· < ·) :=
  (List.pairwise_map.2 hl.1).filter _

theorem State.delegatedPools_congr (ha : u.accounts = s.accounts) : u.delegatedPools = s.delegatedPools := by
  simp [State.delegatedPools, State.livePools, State.delegated, State.acct_congr ha, ha]

/-! ### The words -/

theorem State.length_headerWords (s : State) : s.headerWords.length = 16 := by simp [State.headerWords, timeWords]

theorem State.length_summaryWords (s : State) (p : Nat) : (s.summaryWords p).length = 8 := by simp [State.summaryWords]

theorem State.length_builtImage (s : State) : s.builtImage.length = 16 + 8 * s.delegatedPools.length := by
  rw [State.builtImage, List.length_append, State.length_headerWords, List.length_flatMap]
  simp only [State.length_summaryWords, List.map_const', List.sum_replicate_nat, Nat.mul_comm]

theorem State.imageWord_header (s : State) {o : Nat} (h : o < 16) : imageWord s.builtImage o = imageWord s.headerWords o := by
  rw [imageWord, imageWord, State.builtImage, List.getElem?_append_left (by rwa [State.length_headerWords])]

theorem State.imageWord_summary (s : State) {i p j : Nat} (hi : s.delegatedPools[i]? = some p) (hj : j < 8) :
    imageWord s.builtImage (16 + 8 * i + j) = imageWord (s.summaryWords p) j := by
  rw [imageWord, imageWord, State.builtImage, List.getElem?_append_right (by rw [State.length_headerWords]; omega),
    State.length_headerWords, show 16 + 8 * i + j - 16 = 8 * i + j by omega,
    getElem?_flatMap_of_length s.length_summaryWords hi j hj]

theorem BuiltImage.congr {entry : Nat} {draining : Bool} {image : List Word} (h : BuiltImage s entry draining image)
    (ha : u.accounts = s.accounts) (hn : u.time.now = s.time.now) (hp : u.mgmt.params.epochPeriod = s.mgmt.params.epochPeriod) :
    BuiltImage u entry draining image := by
  simpa only [BuiltImage, State.acct_congr ha, hn, hp] using h

/-- The image that a state builds is the one that R158 and R159 describe. -/
theorem State.builtImage_built (hl : AccountsListed s) {entry : Nat} (he : s.recon.entryTime = some entry) :
    BuiltImage s entry s.recon.entryDraining s.builtImage := by
  have header {o : Nat} (h : o < 16) := s.imageWord_header h
  refine ⟨s.delegatedPools, State.delegatedPools_rising hl, fun p => State.mem_delegatedPools, s.length_builtImage, ?_, ?_, ?_, ?_, ?_, ?_,
    ?_, ?_, ?_, ?_, fun o ho hlt => ?_, fun i p hi => ?_⟩
  case refine_4 => rw [header (by decide)]; simpa [imageWord, State.headerWords, timeWords] using epochNumber_lt ..
  case refine_11 =>
    have zeros : ∀ o ∈ List.range' 10 6, imageWord s.headerWords o = 0 := by
      simp [List.range', imageWord, State.headerWords, timeWords]
    exact (header hlt).trans (zeros o (List.mem_range'_1.2 ⟨ho, hlt⟩))
  case refine_12 =>
    have hd : (s.acct p).state ≠ .absent := State.mem_delegatedPools.1 (List.mem_of_getElem? hi)
    have word {j : Nat} (hj : j < 8) := s.imageWord_summary hi hj
    refine ⟨(word (j := 0) (by decide)).trans ?_, (word (by decide)).trans ?_, (word (by decide)).trans ?_, (word (by decide)).trans ?_,
      (word (by decide)).trans ?_, (word (by decide)).trans ?_, (word (by decide)).trans ?_, (word (by decide)).trans ?_⟩
    case refine_2 => cases hs : (s.acct p).state <;> simp_all [imageWord, State.summaryWords, DelegationState.code]
    case refine_4 => cases hs : (s.acct p).state <;> simp_all [imageWord, State.summaryWords, DelegationState.modeWord]
    all_goals simp [imageWord, State.summaryWords]
  all_goals
    rw [header (by decide)]
    simp [imageWord, State.headerWords, timeWords, he, apply_ite BitVec.toNat]

/-! ### The move to RECONCILING (R157) -/

theorem State.testReconciling_of_entering (hm : s.mode = .entering) (hr : s.reportCount = 0) :
    s.testReconciling = s.becomeReconciling := if_pos ⟨hm, hr⟩

/-- The image is built and READY is queued where it finds room. -/
theorem State.becomeReconciling_eq (s : State) :
    s.becomeReconciling =
      ((s.setRecon { s.recon with image := some s.builtImage }).setMode .reconciling).offerUp
        (UpEntry.ready s.ownEth (s.recon.originKey.getD { node := 0, process := 0, tag := 0 })
          { length := s.builtImage.length, summaries := s.delegatedPools.length, entryTime := s.recon.entryTime.getD 0,
            buildTime := s.time.now, reentry := s.recon.reentry }) := rfl

/-- Settles O25: the departure leaves no report, so the test for the move succeeds, on the accounts as they stand. -/
theorem lastReportBuildsTheImage : Obligations.LastReportBuildsTheImage := by
  unfold Obligations.LastReportBuildsTheImage
  intro s e rest k entry hlow hpause hq hslot hup hrep hrest hroom hmode hkey hentry hl
  have honly := s.departed_only e rest
  generalize (s.departed e rest).queues.marks = marks at honly
  have hmove : s.sendService = (s.departed e rest).becomeReconciling := by
    have hdep : s.sendService = s.depart e rest := by simp only [State.sendService, hslot, hup]
    rw [hdep, State.depart_eq, if_pos hrep]
    refine State.testReconciling_of_entering (by rw [honly]; exact hmode) ?_
    simpa [State.reportCount, honly] using hrest
  have hbuilt : (s.departed e rest).builtImage = s.builtImage := by rw [honly]; rfl
  have hpools : (s.departed e rest).delegatedPools = s.delegatedPools := by rw [honly]; rfl
  refine ⟨_, s.builtImage, s.exec_frameTransmit_service hlow hpause, ?_⟩
  rw [hmove, State.becomeReconciling_eq, State.offerUp, if_pos, hbuilt, hpools, honly]
  · exact ⟨rfl, rfl, s.length_builtImage, State.builtImage_built hl hentry, by simp [State.pushUp, hkey, hentry]; rfl⟩
  · rw [honly]
    simpa [State.mgmtRoom, hq.1] using hroom

end Sys2Proof.Machine
end

section
/-! PROOFS. The CHECKOUT's trial (R49 to R52): the join target, the fresh grant, the join and the upgrade. -/

namespace Sys2Proof

variable {α : Type}

/-! ### Searching a rising table -/

/-- The first listed pair that passes a test is the one of the least key. -/
theorem Table.find?_eq_some_iff {t : Table α} (h : Table.Rising t) {test : Nat × α → Bool} {k : Nat} {v : α} :
    t.find? test = some (k, v) ↔
      (Table.get? t k = some v ∧ test (k, v) = true) ∧ ∀ n x, n < k → ¬(Table.get? t n = some x ∧ test (n, x) = true) := by
  induction t with
  | nil => simp [Table.get?]
  | cons e t ih =>
    obtain ⟨a, b⟩ := e
    have hmem {n : Nat} {x : α} : Table.get? ((a, b) :: t) n = some x ↔ (n = a ∧ x = b) ∨ (n, x) ∈ t := by
      rw [← Table.mem_iff_get? h, List.mem_cons, Prod.mk.injEq]
    rw [Table.rising_cons] at h
    obtain ⟨hlt, hr⟩ := h
    rw [List.find?_cons]
    split
    · next htest =>
      constructor
      · intro heq
        cases heq
        refine ⟨⟨hmem.2 (.inl ⟨rfl, rfl⟩), htest⟩, fun n x hn hx => ?_⟩
        rcases hmem.1 hx.1 with ⟨rfl, -⟩ | hin
        · exact Nat.lt_irrefl _ hn
        · exact Nat.lt_asymm hn (hlt _ hin)
      · rintro ⟨⟨hk, -⟩, hleast⟩
        rcases hmem.1 hk with ⟨rfl, rfl⟩ | hin
        · rfl
        · exact absurd ⟨hmem.2 (.inl ⟨rfl, rfl⟩), htest⟩ (hleast a b (hlt _ hin))
    · next htest =>
      rw [ih hr]
      have hother {n : Nat} {x : α} : Table.get? ((a, b) :: t) n = some x ∧ test (n, x) = true ↔
          Table.get? t n = some x ∧ test (n, x) = true := by
        rw [hmem, Table.mem_iff_get? hr]
        constructor
        · rintro ⟨⟨rfl, rfl⟩ | hin, hx⟩
          · exact absurd hx (by simp [htest])
          · exact ⟨hin, hx⟩
        · exact fun ⟨hin, hx⟩ => ⟨.inr hin, hx⟩
      simp only [hother]

/-- Every number below the lowest free one is a key. -/
theorem Table.filled_below_lowestFree (t : Table α) : ∀ n, ∀ m, n ≤ m → m < Table.lowestFree n t → ∃ v, (m, v) ∈ t := by
  induction t with
  | nil => intro n m hn hm; exact absurd hn (Nat.not_le.2 hm)
  | cons e t ih =>
    obtain ⟨a, b⟩ := e
    intro n m hn hm
    rw [Table.lowestFree] at hm
    split at hm
    · next ha =>
      rcases Nat.eq_or_lt_of_le hn with rfl | hlt
      · exact ⟨b, by rw [ha]; exact List.mem_cons_self ..⟩
      · obtain ⟨v, hv⟩ := ih (n + 1) m hlt hm
        exact ⟨v, List.mem_cons_of_mem _ hv⟩
    · exact absurd hn (Nat.not_le.2 hm)

namespace Machine

section

variable {s : State}

theorem State.lowestSlot_free (h : SlotsListed s) :
    Table.get? s.holds.slots s.lowestSlot = none ∧ ∀ n, n < s.lowestSlot → Table.get? s.holds.slots n ≠ none := by
  refine ⟨?_, fun n hn hnone => ?_⟩
  · rw [Option.eq_none_iff_forall_ne_some]
    exact fun x hx => Table.lowestFree_free h.1 0 (fun e _ => Nat.zero_le _) _ (Table.get?_mem hx) rfl
  · obtain ⟨v, hv⟩ := Table.filled_below_lowestFree s.holds.slots 0 n (Nat.zero_le _) hn
    rw [(Table.mem_iff_get? h.1).1 hv] at hnone
    cases hnone

/-! ### The join target (R49) -/

theorem Hold.joinable_iff (h : Hold) (rule : Sharing) (node process : Word) :
    h.joinable rule node process = true ↔
      h.node = node ∧ (rule = .perNode ∨ (rule = .perProcess ∧ h.state = .lingering ∧ h.process = process)) := by
  cases rule <;> simp [Hold.joinable, and_left_comm]

theorem State.joinTarget_eq (p : Nat) (node process : Word) :
    s.joinTarget p node process =
      s.holds.slots.find? (fun e => decide (e.2.pool = p) && e.2.joinable (s.record p).sharing node process) := by
  simp only [State.joinTarget, State.holdsOf, List.find?_filter, Bool.decide_and, Bool.decide_eq_true]

theorem State.mayJoin_iff {p : Nat} {node process : Word} {slot : Nat} {h : Hold} :
    s.MayJoin p node process slot h ↔
      Table.get? s.holds.slots slot = some h ∧ (decide (h.pool = p) && h.joinable (s.record p).sharing node process) = true := by
  rw [State.MayJoin, Bool.and_eq_true, decide_eq_true_iff, Hold.joinable_iff]

/-- The join target is the hold of the lowest slot that the requester may join. -/
theorem State.joinTarget_eq_some_iff (hl : SlotsListed s) {p : Nat} {node process : Word} {slot : Nat} {h : Hold} :
    s.joinTarget p node process = some (slot, h) ↔
      s.MayJoin p node process slot h ∧ ∀ n x, n < slot → ¬s.MayJoin p node process n x := by
  simp only [State.joinTarget_eq, Table.find?_eq_some_iff hl.1, State.mayJoin_iff]

theorem State.joinTarget_eq_none_iff (hl : SlotsListed s) {p : Nat} {node process : Word} :
    s.joinTarget p node process = none ↔ ∀ n x, ¬s.MayJoin p node process n x := by
  simp only [State.joinTarget_eq, List.find?_eq_none, State.mayJoin_iff, ← Table.mem_iff_get? hl.1, Prod.forall, not_and]

end

/-! ### What a trial sees once the message has been taken -/

section

variable (s : State) (c : CheckoutRequest) (p : Nat)

/-- The taking of a farm message leaves all but the Farm Port. -/
theorem State.takeMessage_setFarm (f : Frame) : ∃ w, s.takeMessage .farm f = s.setFarm w := ⟨_, (s.takeMessage_farm f).1⟩

@[simp] theorem State.svc_takeMessage_farm (f : Frame) : (s.takeMessage .farm f).svc = s.svc := by
  obtain ⟨w, hw⟩ := s.takeMessage_setFarm f; rw [hw]; rfl

@[simp] theorem State.eventPending_toFarm (a : Addrs) (k : Key) (b : FarmBody) (e : Event) :
    (s.toFarm a k b).eventPending e = s.eventPending e := by rw [State.eventPending, State.events_toFarm]; rfl

@[simp] theorem State.demandOf_takeMessage (f : Frame) : (s.takeMessage .farm f).demandOf c p = s.demandOf c p := by
  obtain ⟨w, hw⟩ := s.takeMessage_setFarm f; rw [hw]; rfl

@[simp] theorem State.intervalOf_takeMessage (f : Frame) : (s.takeMessage .farm f).intervalOf c p = s.intervalOf c p := by
  obtain ⟨w, hw⟩ := s.takeMessage_setFarm f; rw [hw]; rfl

@[simp] theorem State.joinTarget_takeMessage (f : Frame) (node process : Word) :
    (s.takeMessage .farm f).joinTarget p node process = s.joinTarget p node process := by
  obtain ⟨w, hw⟩ := s.takeMessage_setFarm f; rw [hw]; rfl

@[simp] theorem State.admits_takeMessage (f : Frame) (tokens : Nat) : (s.takeMessage .farm f).admits p tokens = s.admits p tokens := by
  obtain ⟨w, hw⟩ := s.takeMessage_setFarm f; rw [hw]; rfl

@[simp] theorem State.effectiveCeiling_takeMessage (f : Frame) : (s.takeMessage .farm f).effectiveCeiling p = s.effectiveCeiling p := by
  obtain ⟨w, hw⟩ := s.takeMessage_setFarm f; rw [hw]; rfl

@[simp] theorem State.ceiling_takeMessage (f : Frame) : (s.takeMessage .farm f).ceiling p = s.ceiling p := by
  obtain ⟨w, hw⟩ := s.takeMessage_setFarm f; rw [hw]; rfl

@[simp] theorem State.record_takeMessage (f : Frame) : (s.takeMessage .farm f).record p = s.record p := by
  obtain ⟨w, hw⟩ := s.takeMessage_setFarm f; rw [hw]; rfl

@[simp] theorem State.newHoldLack_takeMessage (f : Frame) : (s.takeMessage .farm f).newHoldLack p = s.newHoldLack p := by
  obtain ⟨w, hw⟩ := s.takeMessage_setFarm f; rw [hw]; rfl

@[simp] theorem State.upgradeLack_takeMessage (f : Frame) : (s.takeMessage .farm f).upgradeLack p = s.upgradeLack p := by
  obtain ⟨w, hw⟩ := s.takeMessage_setFarm f; rw [hw]; rfl

@[simp] theorem State.grantBody_takeMessage (f : Frame) (slot tokens interval : Nat) :
    (s.takeMessage .farm f).grantBody slot tokens interval = s.grantBody slot tokens interval := by
  obtain ⟨w, hw⟩ := s.takeMessage_setFarm f; rw [hw]; rfl

@[simp] theorem State.lowestSlot_takeMessage (f : Frame) : (s.takeMessage .farm f).lowestSlot = s.lowestSlot := by
  obtain ⟨w, hw⟩ := s.takeMessage_setFarm f; rw [hw]; rfl

@[simp] theorem State.freshHold_takeMessage (f : Frame) (node process tag : Word) (tokens interval : Nat) :
    (s.takeMessage .farm f).freshHold p node process tag tokens interval = s.freshHold p node process tag tokens interval := by
  obtain ⟨w, hw⟩ := s.takeMessage_setFarm f; rw [hw]; rfl

@[simp] theorem State.delegated_takeMessage (f : Frame) : (s.takeMessage .farm f).delegated p = s.delegated p := by
  obtain ⟨w, hw⟩ := s.takeMessage_setFarm f; rw [hw]; rfl

@[simp] theorem State.candidatesOf_takeMessage (f : Frame) : (s.takeMessage .farm f).candidatesOf c = s.candidatesOf c :=
  s.candidates_takeMessage ..

end

/-! ### The trial (R49, R52) -/

section

variable {s : State} {c : CheckoutRequest} {p : Nat}

theorem State.tryServing_eq_none (hm : s.mode = .serving) (h : s.passesOver c p = true) : s.tryServing c p = none := by
  rw [State.passesOver] at h
  rw [State.tryServing]
  cases hj : s.joinTarget p c.key.node c.key.process with
  | none => simp_all
  | some x =>
    simp only [hj, hm, Bool.and_eq_true, decide_eq_true_eq] at h
    obtain ⟨⟨hu, hlt⟩, ha⟩ := h
    simp_all [Nat.not_le.2 hlt]

theorem State.tryDraining_eq_none (h : s.passesOver c p = true) : s.tryDraining c p = none := by
  rw [State.passesOver] at h
  rw [State.tryDraining]
  cases hj : s.joinTarget p c.key.node c.key.process with
  | none => rfl
  | some x =>
    simp only [hj, Bool.and_eq_true, decide_eq_true_eq] at h
    obtain ⟨⟨hu, hlt⟩, -⟩ := h
    exact (if_neg hu).trans (if_neg (Nat.not_le.2 hlt))

theorem State.TakesCheckout.autonomy (h : s.TakesCheckout c) (hm : s.mode = .serving ∨ s.mode = .draining) :
    s.link.autonomyPassed = false := by
  obtain ⟨-, -, ha⟩ := h
  rcases hm with hm | hm <;> simpa [hm] using ha

/-- The trial ends where the first candidate that does not pass it over takes it. -/
theorem findSome?_reached {β : Type} {f : Nat → Option β} {l before after : List Nat} {t : β} (hl : l = before ++ p :: after)
    (hb : ∀ q ∈ before, f q = none) (hp : f p = some t) : l.findSome? f = some t := by
  rw [hl, List.findSome?_append, List.findSome?_eq_none_iff.2 hb, Option.none_or, List.findSome?_cons, hp]

theorem State.checkout_of_serving (hk : s.keyStands c.key = false) (hc : s.candidatesOf c ≠ []) (hm : s.mode = .serving) :
    s.checkout c = s.checkoutServing c (s.candidatesOf c) := by
  rw [State.candidatesOf] at hc ⊢
  simp [State.checkout, hk, hc, hm]

theorem State.checkout_of_draining (hk : s.keyStands c.key = false) (hc : s.candidatesOf c ≠ []) (hm : s.mode = .draining) :
    s.checkout c = s.checkoutDraining c (s.candidatesOf c) := by
  rw [State.candidatesOf] at hc ⊢
  simp [State.checkout, hk, hc, hm]

theorem State.TrialReaches.candidates (h : s.TrialReaches c p) : s.candidatesOf c ≠ [] := by
  obtain ⟨before, after, hl, -⟩ := h
  have hp : p ∈ (s.candidatesOf c).filter (fun q => s.delegated q) := by rw [hl]; simp
  exact List.ne_nil_of_mem (List.mem_filter.1 hp).1

theorem State.passesOver_takeMessage (f : Frame) : (s.takeMessage .farm f).passesOver c p = s.passesOver c p := by
  obtain ⟨w, hw⟩ := s.takeMessage_setFarm f; rw [hw]; rfl

theorem State.TrialReaches.taken (h : s.TrialReaches c p) (f : Frame) : (s.takeMessage .farm f).TrialReaches c p := by
  simpa [State.TrialReaches, State.passesOver_takeMessage] using h

theorem State.TakesCheckout.next_of_taken (h : s.TakesCheckout c) (hu : s.mode ≠ .unconfigured) (hf : s.mode ≠ .faultHold) :
    exec .checkout s = .next ((s.takeMessage .farm c.frame).checkout c) := exec_checkout_of_taken h.1 hu hf

/-- A CHECKOUT ends as the trial of the candidate that it reaches ends, where that candidate does not pass it over. -/
theorem State.TakesCheckout.next_of_tried {t : State} (h : s.TakesCheckout c) (hr : s.TrialReaches c p)
    (ht : (s.mode = .serving ∧ (s.takeMessage .farm c.frame).tryServing c p = some t) ∨
      (s.mode = .draining ∧ (s.takeMessage .farm c.frame).tryDraining c p = some t)) : exec .checkout s = .next t := by
  have hk : (s.takeMessage .farm c.frame).keyStands c.key = false := by simpa using h.2.1
  have hru := hr.taken c.frame
  have hc := hru.candidates
  obtain ⟨before, after, hl, hb⟩ := hru
  rcases ht with ⟨hm, ht⟩ | ⟨hm, ht⟩
  · have ha := h.autonomy (.inl hm)
    have hmu : (s.takeMessage .farm c.frame).mode = .serving := by simpa using hm
    rw [h.next_of_taken (by simp [hm]) (by simp [hm]), State.checkout_of_serving hk hc hmu, State.checkoutServing, if_neg (by simpa using ha),
      findSome?_reached hl (fun q hq => State.tryServing_eq_none hmu (hb q hq)) ht]
  · have ha := h.autonomy (.inr hm)
    have hmu : (s.takeMessage .farm c.frame).mode = .draining := by simpa using hm
    rw [h.next_of_taken (by simp [hm]) (by simp [hm]), State.checkout_of_draining hk hc hmu, State.checkoutDraining, if_neg (by simpa using ha),
      findSome?_reached hl (fun q hq => State.tryDraining_eq_none (hb q hq)) ht]

end

/-! ### What a charge leaves alone (R22, R108) -/

section

variable {s t t' : State} {c : CheckoutRequest} {p : Nat}

theorem State.queues_reevaluate (h : (s.acct p).overcommit = false) : (s.reevaluate p).queues = s.queues := by
  simp only [State.reevaluate, h]
  split <;> simp

theorem State.queues_charge (tokens newHolds : Nat) (change : ChangeKind) (hold : Hold) (handle : Handle)
    (h : (s.acct p).overcommit = false) : (s.charge p tokens newHolds change hold handle).queues = s.queues := by
  have evaluated : ∀ (u : State) (d : Prop) [Decidable d], u.queues = s.queues →
      ((if d then (u.setAcct p ((s.acct p).charged tokens newHolds)).raise .poolOverdraft
        else u.setAcct p ((s.acct p).charged tokens newHolds)).reevaluate p).queues = s.queues := by
    intro u d _ hu
    have hq : (if d then (u.setAcct p ((s.acct p).charged tokens newHolds)).raise .poolOverdraft
        else u.setAcct p ((s.acct p).charged tokens newHolds)).queues = s.queues := by split <;> simpa using hu
    have ha : (if d then (u.setAcct p ((s.acct p).charged tokens newHolds)).raise .poolOverdraft
        else u.setAcct p ((s.acct p).charged tokens newHolds)).acct p = (s.acct p).charged tokens newHolds := by
      split
      · rw [State.acct_congr (s := u.setAcct p ((s.acct p).charged tokens newHolds)) (by simp)]
        simp
      · simp
    rw [State.queues_reevaluate (by rw [ha]; exact h), hq]
  simp only [State.charge]
  by_cases hs : (s.acct p).state = .shared
  · simp only [hs, decide_true, if_true]
    refine Eq.trans ?_ (evaluated (s.setReserved (s.reserved + 1))
      ((s.acct p).overdraftInUse = 0 ∧ 0 < ((s.acct p).charged tokens newHolds).overdraftInUse) rfl)
    simp [State.queueReport]
  · simp only [hs, decide_false, Bool.false_eq_true, if_false]
    exact evaluated s ((s.acct p).overdraftInUse = 0 ∧ 0 < ((s.acct p).charged tokens newHolds).overdraftInUse) rfl

theorem State.stats_charge (tokens newHolds : Nat) (change : ChangeKind) (hold : Hold) (handle : Handle) :
    (s.charge p tokens newHolds change hold handle).mgmt.stats = s.mgmt.stats := by
  simp only [State.charge, State.queueReport, State.reevaluate]
  (repeat' split) <;> simp [State.pushUp]

theorem ChargedBy.congr {base : Account} {tokens newHolds : Nat} {change : ChangeKind} {hold : Hold} {handle : Handle}
    (h : ChargedBy s t base p tokens newHolds change hold handle) (ha : t'.accounts = t.accounts)
    (hu : t'.svc.upstream = t.svc.upstream) (he : t'.mgmt.events = t.mgmt.events) :
    ChargedBy s t' base p tokens newHolds change hold handle := by
  simpa only [ChargedBy, OtherAccounts, State.acct_congr ha, hu, State.eventPending, he] using h

/-- Nothing overcommitted where a charge fits. -/
theorem overcommit_of_fits (hx : OvercommitExact s) {tokens : Nat} (hf : s.admits p tokens = true) : (s.acct p).overcommit = false := by
  have h := hx p
  have hfit : tokens + (s.acct p).h ≤ s.effectiveCeiling p := of_decide_eq_true (Bool.and_eq_true _ _ ▸ hf).1
  rw [h, decide_eq_false (by omega)]

end

/-! ### The fresh grant (R50) -/

section

variable {s : State} {c : CheckoutRequest} {p : Nat}

theorem State.tryServing_of_admitted (hj : s.joinTarget p c.key.node c.key.process = none) (ha : s.admits p (s.demandOf c p) = true) :
    s.tryServing c p = some (s.freshGrant c p) := by
  rw [State.tryServing, hj]
  exact if_pos ha

theorem State.freshGrant_of_full (h : s.tableFull = true) : s.freshGrant c p = (s.raise .holdTableFull).answerRetry c .holdsFull := by
  rw [State.freshGrant, State.newHoldLack, if_pos h]

theorem State.freshGrant_of_no_room (h : s.tableFull = false) (hs : (s.acct p).state = .shared) (hr : s.seatRoom = false) :
    s.freshGrant c p = s.answerRetry c .noRoom := by
  rw [State.freshGrant, State.newHoldLack, if_neg (by simp [h]), if_pos ⟨hs, hr⟩]

theorem State.freshGrant_of_room (h : s.tableFull = false) (hr : (s.acct p).state = .shared → s.seatRoom = true) :
    s.freshGrant c p =
      (s.newHold p (s.freshHold p c.key.node c.key.process c.key.tag (s.demandOf c p) (s.intervalOf c p))).answer c
        (s.grantBody s.lowestSlot (s.demandOf c p) (s.intervalOf c p)) := by
  rw [State.freshGrant, State.newHoldLack, if_neg (by simp [h]), if_neg (by rintro ⟨hs, hn⟩; rw [hr hs] at hn; cases hn)]

@[simp] theorem State.tableFull_takeMessage (s : State) (f : Frame) : (s.takeMessage .farm f).tableFull = s.tableFull := by
  obtain ⟨w, hw⟩ := s.takeMessage_setFarm f; rw [hw]; rfl

@[simp] theorem State.seatRoom_takeMessage (s : State) (f : Frame) : (s.takeMessage .farm f).seatRoom = s.seatRoom := by
  obtain ⟨w, hw⟩ := s.takeMessage_setFarm f; rw [hw]; rfl

/-- A new hold's writing and its charge, made on the state that the taking of a message left. -/
theorem State.newHold_taken (f : Frame) (hold : Hold) (hx : OvercommitExact s)
    (ha : s.admits p hold.tokens = true) :
    ChargedBy s ((s.takeMessage .farm f).newHold p hold) (s.acct p) p hold.tokens 1 .grant hold (s.handleAt s.lowestSlot) ∧
      ((s.takeMessage .farm f).newHold p hold).queues = s.queues ∧
      ((s.takeMessage .farm f).newHold p hold).mgmt.stats = s.mgmt.stats ∧
      ((s.takeMessage .farm f).newHold p hold).holds = { s.holds with slots := Table.put s.holds.slots s.lowestSlot hold } := by
  have hfit : hold.tokens + (s.acct p).h ≤ s.effectiveCeiling p := of_decide_eq_true (Bool.and_eq_true _ _ ▸ ha).1
  obtain ⟨w, hw⟩ := s.takeMessage_setFarm f
  rw [hw]
  refine ⟨State.charge_charged (s := (s.setFarm w).putHold s.lowestSlot hold) p hold.tokens 1 .grant hold (s.handleAt s.lowestSlot) (hx p) hfit,
    ?_, ?_, ?_⟩
  · simp only [State.newHold, State.countPoolGrant, State.modAcct_kept]
    exact State.queues_charge _ _ _ _ _ (overcommit_of_fits (s := (s.setFarm w).putHold s.lowestSlot hold) (p := p) hx ha)
  · simp only [State.newHold, State.countPoolGrant, State.modAcct_kept, State.stats_charge]
    rfl
  · simp only [State.newHold, State.countPoolGrant, State.modAcct_kept, State.charge_kept]
    rfl

theorem otherSlots_put {t : State} {slot : Nat} {hold : Hold}
    (h : t.holds = { s.holds with slots := Table.put s.holds.slots slot hold }) :
    Table.get? t.holds.slots slot = some hold ∧ OtherSlots s t slot ∧ t.generation slot = s.generation slot := by
  refine ⟨by rw [h, Table.get?_put, if_pos rfl], ⟨fun n hn => ?_, fun n _ => ?_⟩, ?_⟩
  · rw [h, Table.get?_put, if_neg (Ne.symm hn)]
  · rw [State.generation, h]; rfl
  · rw [State.generation, h]; rfl

/-- Settles O28: the trial reaches the pool, which admits; the lacks of a new hold are tested in their order. -/
theorem checkoutGrantsANewHold : Obligations.CheckoutGrantsANewHold := by
  unfold Obligations.CheckoutGrantsANewHold
  refine ⟨fun s hl => ?_, fun c p s hc hx hm hr hj ha => ?_⟩
  · obtain ⟨hfree, hfilled⟩ := State.lowestSlot_free hl
    exact ⟨hfree, hfilled, State.lowestSlot_lt, fun p node process =>
      ⟨fun slot h => State.joinTarget_eq_some_iff hl, State.joinTarget_eq_none_iff hl⟩⟩
  · have granted : exec .checkout s = .next ((s.takeMessage .farm c.frame).freshGrant c p) :=
      hc.next_of_tried hr (.inl ⟨hm, State.tryServing_of_admitted (by simpa using hj) (by simpa using ha)⟩)
    refine ⟨fun hfull => ?_, fun hfree hs hn => ?_, fun hfree hs => ?_⟩
    · rw [State.freshGrant_of_full (by simpa using hfull)] at granted
      obtain ⟨htaken, hans⟩ := State.toFarm_answers s c.frame ((s.takeMessage .farm c.frame).raise .holdTableFull) (addrsOf c.frame) c.key
        (.retry .holdsFull s.mgmt.params.retryHint) (by simp) (by simp)
      refine ⟨_, granted, ?_⟩
      simp only [State.answerRetry, State.retry, State.raise_parts, State.takeMessage_kept]
      exact ⟨htaken, hans, by simp, by simp [TablesKept], by simp [FarmRequestFrame]⟩
    · rw [State.freshGrant_of_no_room (by simpa using hfree) (by simpa using hs) (by simpa using hn)] at granted
      exact ⟨_, granted, s.retried_only _ _⟩
    · rw [State.freshGrant_of_room (by simpa using hfree) (by simpa using hs)] at granted
      simp only [State.demandOf_takeMessage, State.intervalOf_takeMessage, State.freshHold_takeMessage, State.grantBody_takeMessage,
        State.lowestSlot_takeMessage] at granted
      obtain ⟨hcharged, hqueues, hstats, hholds⟩ := State.newHold_taken c.frame
        (s.freshHold p c.key.node c.key.process c.key.tag (s.demandOf c p) (s.intervalOf c p)) hx ha
      obtain ⟨htaken, hans⟩ := State.toFarm_answers s c.frame
        ((s.takeMessage .farm c.frame).newHold p
          (s.freshHold p c.key.node c.key.process c.key.tag (s.demandOf c p) (s.intervalOf c p)))
        (addrsOf c.frame) c.key (s.grantBody s.lowestSlot (s.demandOf c p) (s.intervalOf c p)) (by simp) (by simp)
      obtain ⟨hput, hothers, hgen⟩ := otherSlots_put hholds
      refine ⟨_, s.freshHold p c.key.node c.key.process c.key.tag (s.demandOf c p) (s.intervalOf c p), _, granted, rfl, rfl, htaken, hans,
        ?_, ?_, ?_, ?_, ?_, ?_, ?_, ?_⟩
      · simpa [State.answer] using hput
      · simpa [State.answer, OtherSlots, State.generation] using hothers
      · simpa [State.answer, State.generation] using hgen
      · exact hcharged.congr (by simp [State.answer]) (by simp [State.answer]) (by simp [State.answer])
      · rw [State.answer, State.toFarm_only]
        simp [EngineStats.countReply, State.grantBody, hstats]
      · simpa [State.answer] using hqueues
      · simp [State.answer]
      · simp [State.answer, FarmRequestFrame]

end

end Machine

end Sys2Proof
end

section
/-! PROOFS. The CHECKOUT that joins or upgrades a hold (R51, R52). -/

namespace Sys2Proof.Machine

open Host

variable {s : State} {c : CheckoutRequest} {p slot : Nat} {h : Hold}

/-! ### What the trial of a candidate with a join target comes to -/

theorem State.tried_of_useLimit (hj : s.joinTarget p c.key.node c.key.process = some (slot, h)) (hu : h.useCount = 255) :
    s.tryServing c p = some (s.answer c (.deny .useLimit)) ∧ s.tryDraining c p = some (s.answer c (.deny .useLimit)) := by
  rw [State.tryServing, State.tryDraining, hj]
  exact ⟨if_pos hu, if_pos hu⟩

theorem State.tried_of_joined (hj : s.joinTarget p c.key.node c.key.process = some (slot, h)) (hu : h.useCount ≠ 255)
    (hd : s.demandOf c p ≤ h.tokens) :
    s.tryServing c p = some (s.joinGrant c p slot h) ∧ s.tryDraining c p = some (s.joinGrant c p slot h) := by
  simp [State.tryServing, State.tryDraining, hj, hu, hd]

theorem State.tryServing_of_upgraded (hj : s.joinTarget p c.key.node c.key.process = some (slot, h)) (hu : h.useCount ≠ 255)
    (hd : h.tokens < s.demandOf c p) (ha : s.admits p (s.demandOf c p - h.tokens) = true) :
    s.tryServing c p = some (s.upgradeGrant c p slot h) := by
  simp [State.tryServing, hj, hu, Nat.not_le.2 hd, ha]

theorem State.upgradeGrant_of_no_room (hs : (s.acct p).state = .shared) (hr : s.seatRoom = false) :
    s.upgradeGrant c p slot h = s.answerRetry c .noRoom := by
  rw [State.upgradeGrant, State.upgradeLack, if_pos ⟨hs, hr⟩]

theorem State.upgradeGrant_of_room (hr : (s.acct p).state = .shared → s.seatRoom = true) :
    s.upgradeGrant c p slot h =
      (s.upgradeHold slot h (s.demandOf c p) (s.intervalOf c p)).answer c
        (s.grantBody slot (s.demandOf c p) (s.intervalOf c p)) := by
  rw [State.upgradeGrant, State.upgradeLack, if_neg (by rintro ⟨hs, hn⟩; rw [hr hs] at hn; cases hn)]

/-! ### The writing of the hold -/

variable (s h slot) in
/-- A join, made on the state that the taking of a message left: the hold, and the count of the grant in its pool. -/
theorem State.joinHold_taken (f : Frame) (interval : Nat) :
    ((s.takeMessage .farm f).joinHold slot h interval).holds =
        { s.holds with slots := Table.put s.holds.slots slot (h.joined h.tokens interval (s.renewDeadline interval)) } ∧
      ∀ q, ((s.takeMessage .farm f).joinHold slot h interval).acct q =
        if h.pool = q then { s.acct h.pool with grantsThis := bump (s.acct h.pool).grantsThis } else s.acct q := by
  obtain ⟨w, hw⟩ := s.takeMessage_setFarm f
  rw [hw, State.joinHold, State.countPoolGrant]
  exact ⟨rfl, fun q => State.acct_modAcct ..⟩

/-- An upgrade, made on the state that the taking of a message left. -/
theorem State.upgradeHold_taken (f : Frame) {tokens : Nat} (interval : Nat) (hx : OvercommitExact s)
    (ha : s.admits h.pool (tokens - h.tokens) = true) :
    ChargedBy s ((s.takeMessage .farm f).upgradeHold slot h tokens interval) (s.acct h.pool) h.pool (tokens - h.tokens) 0 .upgrade h
        (s.handleAt slot) ∧
      ((s.takeMessage .farm f).upgradeHold slot h tokens interval).queues = s.queues ∧
      ((s.takeMessage .farm f).upgradeHold slot h tokens interval).mgmt.stats = s.mgmt.stats ∧
      ((s.takeMessage .farm f).upgradeHold slot h tokens interval).holds =
        { s.holds with slots := Table.put s.holds.slots slot (h.joined tokens interval (s.renewDeadline interval)) } := by
  have hfits : s.fits h.pool (tokens - h.tokens) = true := (Bool.and_eq_true _ _ ▸ ha).1
  obtain ⟨w, hw⟩ := s.takeMessage_setFarm f
  rw [hw]
  refine ⟨State.upgradeHold_charged (s := s.setFarm w) slot h tokens interval (hx h.pool) hfits, ?_, ?_, ?_⟩
  · simp only [State.upgradeHold, State.countPoolGrant, State.modAcct_kept]
    exact State.queues_charge (s := (s.setFarm w).putHold slot _) _ _ _ _ _ (overcommit_of_fits (s := s) hx ha)
  · simp only [State.upgradeHold, State.countPoolGrant, State.modAcct_kept, State.stats_charge]
    rfl
  · simp only [State.upgradeHold, State.countPoolGrant, State.modAcct_kept, State.charge_kept]
    rfl

/-- Settles O29: the trial reaches the pool, and its join target decides. -/
theorem checkoutJoinsOrUpgrades : Obligations.CheckoutJoinsOrUpgrades := by
  unfold Obligations.CheckoutJoinsOrUpgrades
  intro c p slot h s hc hx hm hr hj
  have hju : (s.takeMessage .farm c.frame).joinTarget p c.key.node c.key.process = some (slot, h) := by simpa using hj
  have hpool : h.pool = p := (State.joinTarget_mem s hj).2
  have tried {t : State} (ht : (s.takeMessage .farm c.frame).tryServing c p = some t ∧
      (s.takeMessage .farm c.frame).tryDraining c p = some t) : exec .checkout s = .next t :=
    hc.next_of_tried hr (hm.imp (fun hs => ⟨hs, ht.1⟩) (fun hd => ⟨hd, ht.2⟩))
  refine ⟨fun hu => ?_, fun hu hd => ?_, fun hs hu hd ha => ⟨fun hsh hn => ?_, fun hroom => ?_⟩⟩
  · exact ⟨_, tried (State.tried_of_useLimit hju hu), s.denied_only _ _⟩
  · have hnext := tried (State.tried_of_joined hju hu (by simpa using hd))
    rw [State.joinGrant, State.intervalOf_takeMessage, State.grantBody_takeMessage] at hnext
    obtain ⟨hholds, hacct⟩ := s.joinHold_taken slot h c.frame (s.intervalOf c p)
    obtain ⟨htaken, hans⟩ := State.toFarm_answers s c.frame ((s.takeMessage .farm c.frame).joinHold slot h (s.intervalOf c p))
      (addrsOf c.frame) c.key (s.grantBody slot h.tokens (s.intervalOf c p)) (by simp) (by simp)
    obtain ⟨hput, hothers, hgen⟩ := otherSlots_put hholds
    refine ⟨_, s.renewDeadline (s.intervalOf c p), hnext, rfl, htaken, hans, ?_, ?_, ?_, ?_, ?_, ?_, ?_, ?_, ?_, ?_, ?_⟩
    · simpa [State.answer, Hold.joined] using hput
    · simpa [State.answer, OtherSlots, State.generation] using hothers
    · simpa [State.answer, State.generation] using hgen
    · rw [State.answer, State.acct_congr (State.toFarm_kept ..).2.2.2.2.2.1, hacct, if_pos hpool, hpool]
    · intro q hq
      rw [State.answer, State.acct_congr (State.toFarm_kept ..).2.2.2.2.2.1, hacct, if_neg (by rw [hpool]; exact Ne.symm hq)]
    · simp [State.answer]
    · rw [State.answer, State.toFarm_only]
      simp [EngineStats.countReply, State.grantBody]
    · simp [State.answer]
    · simp [State.answer]
    · simp [State.answer]
    · simp [State.answer, FarmRequestFrame]
  · have hnext : exec .checkout s = .next ((s.takeMessage .farm c.frame).upgradeGrant c p slot h) :=
      hc.next_of_tried hr (.inl ⟨hs, State.tryServing_of_upgraded hju hu (by simpa using hd) (by simpa using ha)⟩)
    rw [State.upgradeGrant_of_no_room (by simpa using hsh) (by simpa using hn)] at hnext
    exact ⟨_, hnext, s.retried_only _ _⟩
  · have hnext : exec .checkout s = .next ((s.takeMessage .farm c.frame).upgradeGrant c p slot h) :=
      hc.next_of_tried hr (.inl ⟨hs, State.tryServing_of_upgraded hju hu (by simpa using hd) (by simpa using ha)⟩)
    rw [State.upgradeGrant_of_room (by simpa using hroom), State.intervalOf_takeMessage, State.demandOf_takeMessage,
      State.grantBody_takeMessage] at hnext
    obtain ⟨hcharged, hqueues, hstats, hholds⟩ := State.upgradeHold_taken (slot := slot) (tokens := s.demandOf c p) c.frame
      (s.intervalOf c p) hx (by rwa [hpool])
    obtain ⟨htaken, hans⟩ := State.toFarm_answers s c.frame
      ((s.takeMessage .farm c.frame).upgradeHold slot h (s.demandOf c p) (s.intervalOf c p)) (addrsOf c.frame) c.key
      (s.grantBody slot (s.demandOf c p) (s.intervalOf c p)) (by simp) (by simp)
    obtain ⟨hput, hothers, hgen⟩ := otherSlots_put hholds
    refine ⟨_, s.renewDeadline (s.intervalOf c p), _, hnext, rfl, rfl, htaken, hans, ?_, ?_, ?_, ?_, ?_, ?_, ?_, ?_⟩
    · simpa [State.answer, Hold.joined] using hput
    · simpa [State.answer, OtherSlots, State.generation] using hothers
    · simpa [State.answer, State.generation] using hgen
    · rw [hpool] at hcharged
      exact hcharged.congr (by simp [State.answer]) (by simp [State.answer]) (by simp [State.answer])
    · rw [State.answer, State.toFarm_only]
      simp [EngineStats.countReply, State.grantBody, hstats]
    · simpa [State.answer] using hqueues
    · simp [State.answer]
    · simp [State.answer, FarmRequestFrame]

end Sys2Proof.Machine
end

section
/-! PROOFS. The CHECKOUT that nothing admits: denied, queued or forwarded (R46, R52 to R54). -/

namespace Sys2Proof.Machine

open Host

variable {s : State} {c : CheckoutRequest} {p : Nat}

/-! ### The trial that ends with no candidate -/

theorem State.findSome?_eq_none {f : Nat → Option State} (h : ∀ q ∈ s.candidatesOf c, (s.acct q).state ≠ .absent → f q = none) :
    ((s.candidatesOf c).filter (fun q => s.delegated q)).findSome? f = none := by
  rw [List.findSome?_eq_none_iff]
  intro q hq
  obtain ⟨hm, hd⟩ := List.mem_filter.1 hq
  exact h q hm (of_decide_eq_true hd)

theorem State.checkoutServing_of_unadmitted (hm : s.mode = .serving) (ha : s.link.autonomyPassed = false)
    (h : ∀ q ∈ s.candidatesOf c, (s.acct q).state ≠ .absent → s.passesOver c q = true) :
    s.checkoutServing c (s.candidatesOf c) = s.unadmitted c (s.candidatesOf c) := by
  rw [State.checkoutServing, if_neg (by simp [ha]),
    State.findSome?_eq_none fun q hq hd => State.tryServing_eq_none hm (h q hq hd)]

theorem State.checkoutDraining_of_unadmitted (ha : s.link.autonomyPassed = false)
    (h : ∀ q ∈ s.candidatesOf c, (s.acct q).state ≠ .absent → s.passesOver c q = true) :
    s.checkoutDraining c (s.candidatesOf c) = s.forwardCheckout c := by
  rw [State.checkoutDraining, if_neg (by simp [ha]), State.findSome?_eq_none fun q hq hd => State.tryDraining_eq_none (h q hq hd)]

theorem State.checkout_of_entering (hk : s.keyStands c.key = false) (hc : s.candidatesOf c ≠ [])
    (hm : s.mode = .entering ∨ s.mode = .reconciling) : s.checkout c = s.checkoutReconciling c (s.candidatesOf c) := by
  rw [State.candidatesOf] at hc ⊢
  rcases hm with hm | hm <;> simp [State.checkout, hk, hc, hm]

theorem State.checkoutReconciling_of_absent (h : ∀ q ∈ s.candidatesOf c, (s.acct q).state = .absent) :
    s.checkoutReconciling c (s.candidatesOf c) = s.forwardCheckout c := by
  rw [State.checkoutReconciling, if_neg]
  simpa [State.delegated] using h

/-- In SERVING a CHECKOUT that no candidate takes comes to the tests of R53. -/
theorem State.TakesCheckout.next_of_unadmitted (h : s.TakesCheckout c) (hm : s.mode = .serving) (hc : s.candidatesOf c ≠ [])
    (hp : ∀ q ∈ s.candidatesOf c, (s.acct q).state ≠ .absent → s.passesOver c q = true) :
    Machine.exec .checkout s = .next ((s.takeMessage .farm c.frame).unadmitted c (s.candidatesOf c)) := by
  have ha := h.autonomy (.inl hm)
  have hk := h.2.1
  have hs := State.checkoutServing_of_unadmitted (s := s.takeMessage .farm c.frame) (c := c) (by simpa using hm) (by simpa using ha)
    (by simpa [State.passesOver_takeMessage] using hp)
  rw [h.next_of_taken (by simp [hm]) (by simp [hm]),
    State.checkout_of_serving (by simpa using hk) (by simpa using hc) (by simpa using hm), hs, State.candidatesOf_takeMessage]

/-! ### The tests of R53 where every candidate is delegated -/

section

variable {cs : List Nat} (hd : ∀ q ∈ cs, (s.acct q).state ≠ .absent)

include hd

theorem State.filter_delegated_of_all : cs.filter (fun q => s.delegated q) = cs :=
  List.filter_eq_self.2 fun q hq => decide_eq_true (hd q hq)

theorem State.any_absent_of_all : cs.any (fun q => !s.delegated q) = false := by
  simpa [State.delegated] using hd

theorem State.unadmitted_of_too_large (h : ∀ q ∈ cs, s.ceiling q < s.demandOf c q) :
    s.unadmitted c cs = s.answer c (.deny .tooLarge) := by
  simp only [State.unadmitted, State.any_absent_of_all hd, State.filter_delegated_of_all hd, Bool.false_eq_true, if_false]
  exact if_pos (by simpa using h)

variable (hf : ∃ q ∈ cs, s.demandOf c q ≤ s.ceiling q)

include hf

theorem State.unadmitted_of_fitting :
    s.unadmitted c cs =
      if c.body.noWait then s.answer c (.deny .noWait)
      else if cs.all (fun q => decide (s.ceiling q < s.demandOf c q ∨ clampWait (s.record q) c.body.waitLimit = 0)) then
        s.answer c (.deny .noWait)
      else s.queueCheckout c cs := by
  simp only [State.unadmitted, State.any_absent_of_all hd, State.filter_delegated_of_all hd, Bool.false_eq_true, if_false]
  exact if_neg (by simpa using hf)

theorem State.unadmitted_of_no_wait (h : c.body.noWait = true ∨
    ∀ q ∈ cs, s.demandOf c q ≤ s.ceiling q → clampWait (s.record q) c.body.waitLimit = 0) :
    s.unadmitted c cs = s.answer c (.deny .noWait) := by
  rw [State.unadmitted_of_fitting hd hf]
  rcases h with h | h
  · rw [if_pos h]
  · have hall : cs.all (fun q => decide (s.ceiling q < s.demandOf c q ∨ clampWait (s.record q) c.body.waitLimit = 0)) = true := by
      rw [List.all_eq_true]
      exact fun q hq => decide_eq_true (Decidable.or_iff_not_imp_left.2 fun hn => h q hq (Nat.not_lt.1 hn))
    rw [hall, if_pos rfl, ite_self]

end

theorem State.unadmitted_of_waiting {cs : List Nat} (hd : ∀ q ∈ cs, (s.acct q).state ≠ .absent) (hn : c.body.noWait = false)
    (hw : ∃ q ∈ cs, s.demandOf c q ≤ s.ceiling q ∧ 0 < clampWait (s.record q) c.body.waitLimit) :
    s.unadmitted c cs = s.queueCheckout c cs := by
  obtain ⟨q, hq, hfit, hwait⟩ := hw
  rw [State.unadmitted_of_fitting hd ⟨q, hq, hfit⟩, if_neg (by simp [hn]), if_neg]
  rw [List.all_eq_true]
  intro hall
  have := of_decide_eq_true (hall q hq)
  omega

/-! ### The queue (R54) -/

theorem State.queueCheckout_of_full {cs : List Nat} (h : Config.waitPlaces ≤ s.queues.entries.length) :
    s.queueCheckout c cs = (s.raise .queueStoreFull).answer c (.deny .queueFull) := if_pos h

theorem State.queueCheckout_of_none {cs : List Nat} (h : s.queues.entries.length < Config.waitPlaces)
    (hq : ∀ q ∈ cs, s.queuesOn c q = false) : s.queueCheckout c cs = s.answer c (.deny .queueFull) := by
  rw [State.queueCheckout, if_neg (Nat.not_le.2 h), List.find?_eq_none.2 (by simpa using hq)]

theorem State.queueCheckout_of_found {before after : List Nat} (h : s.queues.entries.length < Config.waitPlaces)
    (hb : ∀ q ∈ before, s.queuesOn c q = false) (hp : s.queuesOn c p = true) :
    s.queueCheckout c (before ++ p :: after) =
      (s.enqueue (s.waitEntry c p)).answer c (.queued ((s.acct p).queueLength + 1) (s.rememberedDemand c p).1) := by
  have hfind : (before ++ p :: after).find? (s.queuesOn c) = some p :=
    List.find?_eq_some_iff_append.2 ⟨hp, before, after, rfl, by simpa using hb⟩
  rw [State.queueCheckout, if_neg (Nat.not_le.2 h), hfind]

section

variable (s c p)

@[simp] theorem State.queuesOn_takeMessage (f : Frame) : (s.takeMessage .farm f).queuesOn c p = s.queuesOn c p := by
  obtain ⟨w, hw⟩ := s.takeMessage_setFarm f; rw [hw]; rfl

@[simp] theorem State.waitEntry_takeMessage (f : Frame) : (s.takeMessage .farm f).waitEntry c p = s.waitEntry c p := by
  obtain ⟨w, hw⟩ := s.takeMessage_setFarm f; rw [hw]; rfl

@[simp] theorem State.rememberedDemand_takeMessage (f : Frame) :
    (s.takeMessage .farm f).rememberedDemand c p = s.rememberedDemand c p := by
  obtain ⟨w, hw⟩ := s.takeMessage_setFarm f; rw [hw]; rfl

theorem State.queuesOn_iff :
    s.queuesOn c p = true ↔
      s.demandOf c p ≤ s.ceiling p ∧ 0 < min (s.record p).maxWait c.body.waitLimit ∧
        (s.acct p).queueLength < (s.record p).queueLimit := decide_eq_true_iff

end

theorem State.rememberedDemand_of_target {slot : Nat} {h : Hold} (hs : (s.record p).sharing = .perNode)
    (hj : s.joinTarget p c.key.node c.key.process = some (slot, h)) :
    s.rememberedDemand c p = (s.demandOf c p - h.tokens, some (s.handleAt slot)) := by
  simp only [State.rememberedDemand, hs, hj]

theorem State.rememberedDemand_full (h : (s.record p).sharing = .perProcess ∨ s.joinTarget p c.key.node c.key.process = none) :
    s.rememberedDemand c p = (s.demandOf c p, none) := by
  rcases h with h | h
  · simp only [State.rememberedDemand, h]
  · simp only [State.rememberedDemand, h]
    split <;> rfl

/-- Settles O30: no candidate takes the CHECKOUT, every one is delegated, and the tests of R53 and R54 follow in their order. -/
theorem checkoutQueuesOrIsDenied : Obligations.CheckoutQueuesOrIsDenied := by
  unfold Obligations.CheckoutQueuesOrIsDenied
  refine ⟨fun c p s => ⟨s.queuesOn_iff c p, fun slot h => State.rememberedDemand_of_target, State.rememberedDemand_full⟩,
    fun c s hc hm hne hall => ?_⟩
  have hnext := hc.next_of_unadmitted hm hne fun q hq _ => (hall q hq).2
  have hd : ∀ q ∈ s.candidatesOf c, ((s.takeMessage .farm c.frame).acct q).state ≠ .absent := by
    simpa using fun q hq => (hall q hq).1
  refine ⟨fun hlarge => ?_, fun hfit hno => ?_, fun hflag hfit => ?_⟩
  · rw [State.unadmitted_of_too_large hd (by simpa using hlarge)] at hnext
    exact ⟨_, hnext, s.denied_only _ _⟩
  · rw [State.unadmitted_of_no_wait hd (by simpa using hfit) (by simpa [clampWait, CheckoutBody.noWait] using hno)] at hnext
    exact ⟨_, hnext, s.denied_only _ _⟩
  · rw [State.unadmitted_of_waiting hd hflag (by simpa [clampWait] using hfit)] at hnext
    refine ⟨fun hfull => ?_, fun hplace hnone => ?_, fun before p after hplace hsplit hb hp => ?_⟩
    · rw [State.queueCheckout_of_full (by simpa [Config.waitPlaces] using hfull)] at hnext
      obtain ⟨htaken, hans⟩ := State.toFarm_answers s c.frame ((s.takeMessage .farm c.frame).raise .queueStoreFull) (addrsOf c.frame)
        c.key (.deny .queueFull) (by simp) (by simp)
      exact ⟨_, hnext, htaken, hans, by simp [State.answer], by simp [State.answer, TablesKept],
        by simp [State.answer, FarmRequestFrame]⟩
    · rw [State.queueCheckout_of_none (by simpa [Config.waitPlaces] using hplace) (by simpa using hnone)] at hnext
      exact ⟨_, hnext, s.denied_only _ _⟩
    · rw [hsplit, State.queueCheckout_of_found (by simpa [Config.waitPlaces] using hplace) (by simpa using hb) (by simpa using hp),
        State.waitEntry_takeMessage, State.rememberedDemand_takeMessage, State.acct_takeMessage] at hnext
      obtain ⟨htaken, hans⟩ := State.toFarm_answers s c.frame ((s.takeMessage .farm c.frame).enqueue (s.waitEntry c p))
        (addrsOf c.frame) c.key (.queued ((s.acct p).queueLength + 1) (s.rememberedDemand c p).1) (by simp) (by simp)
      have hacct (q : Nat) : (((s.takeMessage .farm c.frame).enqueue (s.waitEntry c p)).toFarm (addrsOf c.frame) c.key
          (.queued ((s.acct p).queueLength + 1) (s.rememberedDemand c p).1)).acct q =
          if q = p then { s.acct q with queueLength := (s.acct q).queueLength + 1 } else s.acct q := by
        rw [State.acct_congr (State.toFarm_kept ..).2.2.2.2.2.1, State.acct_enqueue, State.acct_takeMessage]
        rfl
      refine ⟨_, hnext, htaken, hans, ?_, (hacct p).trans (if_pos rfl), fun q hq => (hacct q).trans (if_neg hq), ?_, ?_, ?_, ?_, ?_, ?_⟩
      · simp [State.answer, State.enqueue]
        rfl
      · simp [State.answer]
      · simp [State.answer]
      · simp [State.answer]
      · simp [State.answer]
      · rw [State.answer, State.toFarm_only]
        simp [EngineStats.countReply]
      · simp [State.answer, FarmRequestFrame]

end Sys2Proof.Machine
end

section
/-! PROOFS. The farm requests behind the CHECKOUT: forwarding, CHECKIN, RENEW, CANCEL and QUERY, and the relay of service replies (R40,
R46, R55 to R60, R117). -/

namespace Sys2Proof.Machine

open Host

variable {s : State} {f : Frame} {k : Key}

/-! ### Taking and bridging (R40, R170) -/

theorem State.takeOrBridge_of_taken {port : Port} {act : State → State} (hu : s.mode ≠ .unconfigured) (hf : s.mode ≠ .faultHold) :
    s.takeOrBridge port f act = act (s.takeMessage port f) := if_neg (by simp [State.bridging, hu, hf])

theorem State.takeOrBridge_of_bridged {port : Port} {act : State → State} (hm : s.mode = .unconfigured ∨ s.mode = .faultHold) :
    s.takeOrBridge port f act = s.bridgeSeat port f := if_pos (decide_eq_true hm)

section

variable (hu : s.mode ≠ .unconfigured) (hf : s.mode ≠ .faultHold)

include hu hf

theorem exec_checkin_of_taken {handle : Handle} {noLinger : Bool} (h : s.headMessage .farm = some (f, k, .checkin handle noLinger)) :
    exec .checkin s = .next ((s.takeMessage .farm f).checkin f k handle noLinger) := by
  change execCheckin s = _
  simp only [execCheckin, h, State.takeOrBridge_of_taken hu hf]

theorem exec_renew_of_taken {handle : Handle} {interval : Option Nat} (h : s.headMessage .farm = some (f, k, .renew handle interval)) :
    exec .renew s = .next ((s.takeMessage .farm f).renew f k handle interval) := by
  change execRenew s = _
  simp only [execRenew, h, State.takeOrBridge_of_taken hu hf]

theorem exec_cancel_of_taken {tag : Word} (h : s.headMessage .farm = some (f, k, .cancel tag)) :
    exec .cancel s = .next ((s.takeMessage .farm f).cancel f k tag) := by
  change execCancel s = _
  simp only [execCancel, h, State.takeOrBridge_of_taken hu hf]

theorem exec_query_of_taken {feature version : Nat} (h : s.headMessage .farm = some (f, k, .query feature version)) :
    exec .query s = .next ((s.takeMessage .farm f).query f k feature version) := by
  change execQuery s = _
  simp only [execQuery, h, State.takeOrBridge_of_taken hu hf]

theorem exec_serviceReplyRelay_of_taken (h : s.headMessage .service = some (f, k, .farmReply)) :
    exec .serviceReplyRelay s = .next ((s.tookRequest f).relay f k) := by
  change execServiceReplyRelay s = _
  simp only [execServiceReplyRelay, h, State.takeOrBridge_of_taken hu hf, State.takeMessage_service]

end

/-! ### Forwarding (R46) -/

section

variable (s)

theorem State.retry_only (a : Addrs) (r : RetryReason) :
    AnsweredOnly s ((s.takeMessage .farm f).retry a k r) a k (.retry r s.mgmt.params.retryHint) := by
  have hp : (s.takeMessage .farm f).mgmt = s.mgmt := by simp
  rw [State.retry, hp]
  exact s.answered_only f a k _

/-- The forwarding of a request that has been taken comes to one of R46's four ends. -/
theorem State.forwardRequest_forwards (f : Frame) (k : Key) (kind : RequestKind) (feature : Nat) :
    Forwards s ((s.takeMessage .farm f).forwardRequest f k kind feature) f k kind feature := by
  have hlink : (s.takeMessage .farm f).link = s.link := by simp
  have hroom : (s.takeMessage .farm f).forwardRoom = (decide (s.fwd.entries.length < 256) && s.seatRoom) := by
    simp [State.forwardRoom, Config.forwardEntries]
  rw [State.forwardRequest, hlink, State.keyStands_takeMessage, hroom]
  refine ⟨fun hl => ?_, fun hl hk => ?_, fun hl hk hn hle => ?_, fun hl hk hlt hr => ?_⟩
  · rw [if_pos hl]
    exact s.answered_only f _ k _
  · rw [if_neg hl, if_pos hk]
    exact s.retry_only _ _
  · rw [if_neg hl, if_neg (by simp [hk]), if_pos]
    · exact s.retry_only _ _
    · rcases hn with hn | hn <;> simp [hn]
  · rw [if_neg hl, if_neg (by simp [hk]), if_neg (by simp [hlt, hr])]
    obtain ⟨honly, hi, hst, hb, hsend, hrep⟩ := s.takeMessage_farm f
    refine ⟨⟨hi, congrArg PortStats.seatMessages hst, hb, hsend⟩, hrep, ?_⟩
    generalize (s.takeMessage .farm f).farm = w at honly
    rw [honly]
    rfl

end

theorem State.namedHold_takeMessage (handle : Handle) : (s.takeMessage .farm f).namedHold handle = s.namedHold handle := by
  obtain ⟨w, hw⟩ := s.takeMessage_setFarm f; rw [hw]; rfl

theorem State.checkin_of_none {handle : Handle} {noLinger : Bool} (h : s.namedHold handle = none) :
    s.checkin f k handle noLinger = s.forwardRequest f k .checkin 0 := by rw [State.checkin, h]

theorem State.renew_of_none {handle : Handle} {interval : Option Nat} (h : s.namedHold handle = none) :
    s.renew f k handle interval = s.forwardRequest f k .renew 0 := by rw [State.renew, h]

theorem State.waiting?_eq_none : s.waiting? k = none ↔ ∀ e ∈ s.queues.entries, e.key ≠ k := by simp [State.waiting?]

theorem State.cancel_of_forward {tag : Word} (hn : ∀ e ∈ s.queues.entries, e.key ≠ { k with tag })
    (hf : ∃ e, e ∈ s.fwd.entries ∧ e.key = { k with tag }) : s.cancel f k tag = s.forwardRequest f k .cancel 0 := by
  simp only [State.cancel, State.waiting?_eq_none.2 hn]
  exact if_pos (by simpa using hf)

theorem State.query_of_none {feature version : Nat} (h : ∀ p ∈ s.candidates feature version k.node, (s.acct p).state = .absent) :
    s.query f k feature version = s.forwardRequest f k .query feature := by
  have hfind : (s.candidates feature version k.node).find? (fun p => s.delegated p) = none := by simpa [State.delegated] using h
  simp only [State.query, hfind]

/-- A CHECKOUT that R46 forwards, in each state that takes it. -/
theorem State.TakesCheckout.next_of_forwarded {c : CheckoutRequest} (h : s.TakesCheckout c) (hu : s.mode ≠ .unconfigured)
    (hf : s.mode ≠ .faultHold) (hc : s.candidatesOf c ≠ [])
    (hp : ∀ q ∈ s.candidatesOf c, (s.acct q).state ≠ .absent → s.passesOver c q = true ∧ s.mode ≠ .entering ∧ s.mode ≠ .reconciling)
    (habs : s.mode = .serving → ∃ q, q ∈ s.candidatesOf c ∧ (s.acct q).state = .absent) :
    Machine.exec .checkout s = .next ((s.takeMessage .farm c.frame).forwardCheckout c) := by
  have hk : (s.takeMessage .farm c.frame).keyStands c.key = false := by simpa using h.2.1
  have hcu : (s.takeMessage .farm c.frame).candidatesOf c ≠ [] := by simpa using hc
  have reconciling (hm : s.mode = .entering ∨ s.mode = .reconciling) :
      Machine.exec .checkout s = .next ((s.takeMessage .farm c.frame).forwardCheckout c) := by
    rw [h.next_of_taken hu hf, State.checkout_of_entering hk hcu (by simpa using hm), State.checkoutReconciling_of_absent]
    intro q hq
    rw [State.acct_takeMessage]
    refine Classical.byContradiction fun hd => ?_
    obtain ⟨-, he, hr⟩ := hp q (by simpa using hq) hd
    exact hm.elim he hr
  cases hm : s.mode with
  | unconfigured => exact absurd hm hu
  | faultHold => exact absurd hm hf
  | entering => exact reconciling (.inl hm)
  | reconciling => exact reconciling (.inr hm)
  | draining =>
    have ha := h.autonomy (.inr hm)
    rw [h.next_of_taken hu hf, State.checkout_of_draining hk hcu (by simpa using hm), State.checkoutDraining_of_unadmitted (by simpa using ha)]
    simpa [State.passesOver_takeMessage] using fun q hq hd => (hp q hq hd).1
  | serving =>
    rw [h.next_of_unadmitted hm hc fun q hq hd => (hp q hq hd).1, State.unadmitted, if_pos]
    simpa [State.delegated] using habs hm

/-- Settles O31: each request's way to the forwarding, and the four ends of a forwarding. -/
theorem requestsAreForwarded : Obligations.RequestsAreForwarded := by
  unfold Obligations.RequestsAreForwarded
  intro s hu hf
  refine ⟨fun c hc hne hp habs => ⟨_, hc.next_of_forwarded hu hf hne hp habs, s.forwardRequest_forwards ..⟩,
    fun f k handle noLinger hh hn => ⟨_, exec_checkin_of_taken hu hf hh, ?_⟩,
    fun f k handle interval hh hn => ⟨_, exec_renew_of_taken hu hf hh, ?_⟩,
    fun f k tag hh hn hfw => ⟨_, exec_cancel_of_taken hu hf hh, ?_⟩,
    fun f k feature version hh habs => ⟨_, exec_query_of_taken hu hf hh, ?_⟩⟩
  · rw [State.checkin_of_none (by rwa [State.namedHold_takeMessage])]
    exact s.forwardRequest_forwards ..
  · rw [State.renew_of_none (by rwa [State.namedHold_takeMessage])]
    exact s.forwardRequest_forwards ..
  · rw [State.cancel_of_forward (by simpa using hn) (by simpa using hfw)]
    exact s.forwardRequest_forwards ..
  · rw [State.query_of_none (by simpa using habs)]
    exact s.forwardRequest_forwards ..

/-! ### CHECKIN and RENEW (R55 to R58) -/

theorem State.namedHold_eq_some_iff {handle : Handle} {h : Hold} :
    s.namedHold handle = some h ↔
      handle.service = false ∧ s.generation handle.slot = handle.gen ∧ Table.get? s.holds.slots handle.slot = some h := by
  rw [State.namedHold]
  split
  · next hn => simp only [reduceCtorEq, false_iff]; rintro ⟨h1, h2, -⟩; exact hn.elim (by simp [h1]) (absurd h2)
  · next hn =>
    obtain ⟨h1, h2⟩ := not_or.1 hn
    simp only [Bool.not_eq_true, Decidable.not_not] at h1 h2
    simp [h1, h2]

theorem State.matches_iff {h : Hold} :
    s.matches h k = true ↔ h.node = k.node ∧ ((s.record h.pool).sharing = .perProcess → h.process = k.process) := by
  rw [State.matches]
  cases (s.record h.pool).sharing <;> simp

/-- A reply that the engine does not count moves the Farm Port alone (R45, R192). -/
theorem State.toFarm_uncounted {a : Addrs} {b : FarmBody} (hb : ∀ x : EngineStats, x.countReply b = x) :
    s.toFarm a k b = s.setFarm (s.toFarm a k b).farm := by
  have h := s.toFarm_only a k b
  rw [hb] at h
  exact h

/-- A hold is rewritten under a request that has been taken, and the request answered. -/
theorem State.putHold_answered (s : State) (f : Frame) (k : Key) (slot : Nat) (h : Hold) {b : FarmBody}
    (hb : ∀ x : EngineStats, x.countReply b = x) :
    TakenFromFarm s (((s.takeMessage .farm f).putHold slot h).toFarm (addrsOf f) k b) ∧
      Answers s (((s.takeMessage .farm f).putHold slot h).toFarm (addrsOf f) k b) (addrsOf f) k b ∧
      FarmRequestFrame s (((s.takeMessage .farm f).putHold slot h).toFarm (addrsOf f) k b) ∧
      Table.get? (((s.takeMessage .farm f).putHold slot h).toFarm (addrsOf f) k b).holds.slots slot = some h ∧
      OtherSlots s (((s.takeMessage .farm f).putHold slot h).toFarm (addrsOf f) k b) slot ∧
      ((s.takeMessage .farm f).putHold slot h).toFarm (addrsOf f) k b =
        { s with
          farm := (((s.takeMessage .farm f).putHold slot h).toFarm (addrsOf f) k b).farm,
          holds :=
            { s.holds with slots := (((s.takeMessage .farm f).putHold slot h).toFarm (addrsOf f) k b).holds.slots } } := by
  obtain ⟨htaken, hans⟩ := State.toFarm_answers s f ((s.takeMessage .farm f).putHold slot h) (addrsOf f) k b (by simp) (by simp)
  have honly := State.toFarm_uncounted (s := (s.takeMessage .farm f).putHold slot h) (a := addrsOf f) (k := k) hb
  obtain ⟨hput, hothers, -⟩ := otherSlots_put (s := s) (t := ((s.takeMessage .farm f).putHold slot h).toFarm (addrsOf f) k b)
    (slot := slot) (hold := h) (by simp [State.putHold])
  refine ⟨htaken, hans, by simp [FarmRequestFrame], hput, hothers, ?_⟩
  obtain ⟨w, hw⟩ := s.takeMessage_setFarm f
  rw [hw] at honly ⊢
  generalize (((s.setFarm w).putHold slot h).toFarm (addrsOf f) k b).farm = v at honly
  rw [honly]
  rfl

theorem Removed.congr {t t' : State} {slot : Nat} {h : Hold} (hr : Removed s t slot h) (hh : t'.holds = t.holds)
    (ha : t'.accounts = t.accounts) (hq : t'.queues = t.queues) (hf : t'.fwd = t.fwd) : Removed s t' slot h := by
  simpa only [Removed, OtherSlots, OtherAccounts, State.generation, State.acct_congr ha, hh, hq, hf] using hr

theorem ReportsRemoval.congr {t t' : State} {slot : Nat} {h : Hold} {change : ChangeKind} (hr : ReportsRemoval s t slot h change)
    (ha : t'.accounts = t.accounts) (hu : t'.svc.upstream = t.svc.upstream) (he : t'.mgmt.events = t.mgmt.events) :
    ReportsRemoval s t' slot h change := by
  simpa only [ReportsRemoval, State.acct_congr ha, hu, State.eventPending, he] using hr

/-- The removal of a hold under a farm request that has been taken. -/
theorem State.removeHold_taken (f : Frame) (slot : Nat) (h : Hold) (change : ChangeKind) (hx : OvercommitExact s) :
    Removed s ((s.takeMessage .farm f).removeHold slot h change) slot h ∧
      ReportsRemoval s ((s.takeMessage .farm f).removeHold slot h change) slot h change := by
  obtain ⟨w, hw⟩ := s.takeMessage_setFarm f
  rw [hw]
  exact ⟨State.removeHold_removed (s := s.setFarm w) slot h change (hx h.pool),
    State.removeHold_reports (s := s.setFarm w) slot h change (hx h.pool)⟩

theorem State.matches_takeMessage (h : Hold) : (s.takeMessage .farm f).matches h k = s.matches h k := by
  obtain ⟨w, hw⟩ := s.takeMessage_setFarm f; rw [hw]; rfl

theorem State.checkin_of_reconciling {handle : Handle} {noLinger : Bool} {h : Hold} (hn : s.namedHold handle = some h)
    (hm : s.mode = .entering ∨ s.mode = .reconciling) : s.checkin f k handle noLinger = s.retry (addrsOf f) k .reconciling := by
  simp only [State.checkin, hn]
  exact if_pos (decide_eq_true hm)

theorem State.checkin_of_working {handle : Handle} {noLinger : Bool} {h : Hold} (hn : s.namedHold handle = some h)
    (hm : s.mode = .serving ∨ s.mode = .draining) :
    s.checkin f k handle noLinger = s.checkinHold f k handle.slot h noLinger := by
  simp only [State.checkin, hn]
  exact if_neg (by rcases hm with hm | hm <;> simp [State.reconciling, hm])

theorem State.renew_of_some {handle : Handle} {interval : Option Nat} {h : Hold} (hn : s.namedHold handle = some h) :
    s.renew f k handle interval = s.renewHold f k handle.slot h interval := by simp only [State.renew, hn]

section

variable {slot : Nat} {h : Hold} {noLinger : Bool}

theorem State.checkinHold_of_unknown (hh : h.state = .lingering ∨ s.matches h k = false) :
    s.checkinHold f k slot h noLinger = s.toFarm (addrsOf f) k .unknownHold := if_pos hh

variable (hs : h.state ≠ .lingering) (hm : s.matches h k = true)

include hs hm

theorem State.checkinHold_of_used (hu : 1 < h.useCount) :
    s.checkinHold f k slot h noLinger = (s.putHold slot { h with useCount := h.useCount - 1 }).toFarm (addrsOf f) k .released := by
  rw [State.checkinHold, if_neg (by simp [hs, hm]), if_pos hu]

theorem State.checkinHold_of_linger (hu : ¬1 < h.useCount) (hl : 0 < (s.record h.pool).linger) (hn : noLinger = false) :
    s.checkinHold f k slot h noLinger =
      (s.putHold slot
        { h with
          useCount := 0, state := .lingering, deadline := capTime (s.time.now + (s.record h.pool).linger * 1000) }).toFarm
        (addrsOf f) k .released := by
  rw [State.checkinHold, if_neg (by simp [hs, hm]), if_neg hu, if_pos ⟨hl, hn⟩]

theorem State.checkinHold_of_removed (hu : ¬1 < h.useCount) (hl : ¬(0 < (s.record h.pool).linger ∧ noLinger = false)) :
    s.checkinHold f k slot h noLinger = (s.removeHold slot h .release).toFarm (addrsOf f) k .released := by
  rw [State.checkinHold, if_neg (by simp [hs, hm]), if_neg hu, if_neg hl]

end

theorem State.renewedInterval_cases (s : State) (h : Hold) (interval : Option Nat) :
    (interval = none → s.renewedInterval h interval = h.interval) ∧
      (interval = some 0 → s.renewedInterval h interval = (s.record h.pool).renewMin) ∧
      ∀ n, interval = some n → n ≠ 0 →
        s.renewedInterval h interval = min (s.record h.pool).renewMax (max (s.record h.pool).renewMin n) := by
  refine ⟨?_, ?_, ?_⟩
  · rintro rfl; rfl
  · rintro rfl; simp [State.renewedInterval, clampInterval]
  · rintro n rfl hn; simp only [State.renewedInterval, clampInterval, if_neg hn, clamp]

@[simp] theorem State.renewedInterval_takeMessage (s : State) (f : Frame) (h : Hold) (interval : Option Nat) :
    (s.takeMessage .farm f).renewedInterval h interval = s.renewedInterval h interval := by
  obtain ⟨w, hw⟩ := s.takeMessage_setFarm f; rw [hw]; rfl

@[simp] theorem State.renewDeadline_takeMessage (s : State) (f : Frame) (i : Nat) :
    (s.takeMessage .farm f).renewDeadline i = s.renewDeadline i := by
  obtain ⟨w, hw⟩ := s.takeMessage_setFarm f; rw [hw]; rfl

/-- Settles O32: the cases of `checkinHold` and `renewHold`, the removal by its law. -/
theorem checkinAndRenewServeTheHold : Obligations.CheckinAndRenewServeTheHold := by
  unfold Obligations.CheckinAndRenewServeTheHold
  refine ⟨fun handle h k s => ⟨State.namedHold_eq_some_iff, State.matches_iff⟩, fun f k handle h s hn hu hf hx =>
    ⟨fun noLinger hh => ⟨fun hm => ?_, fun hm hun => ?_, fun hm hs hma => ?_⟩, fun interval hh => ⟨fun hun => ?_, fun hs hma => ?_⟩⟩⟩
  all_goals have hnu : (s.takeMessage .farm f).namedHold handle = some h := by rwa [State.namedHold_takeMessage]
  · refine ⟨_, exec_checkin_of_taken hu hf hh, ?_⟩
    rw [State.checkin_of_reconciling hnu (by simpa using hm)]
    exact s.retry_only _ _
  · refine ⟨_, exec_checkin_of_taken hu hf hh, ?_⟩
    rw [State.checkin_of_working hnu (by simpa using hm), State.checkinHold_of_unknown (by simpa [State.matches_takeMessage] using hun)]
    exact s.answered_only f _ k _
  · have hmu : (s.takeMessage .farm f).matches h k = true := by rwa [State.matches_takeMessage]
    have hnext := exec_checkin_of_taken hu hf hh
    rw [State.checkin_of_working hnu (by simpa using hm)] at hnext
    by_cases hone : 1 < h.useCount
    · rw [State.checkinHold_of_used hs hmu hone] at hnext
      obtain ⟨htaken, hans, hframe, hput, hothers, honly⟩ := s.putHold_answered f k handle.slot
        { h with useCount := h.useCount - 1 } (b := .released) fun _ => rfl
      exact ⟨_, hnext, htaken, hans, hframe, fun _ => ⟨hput, hothers, honly⟩, fun hu => absurd hone (by omega),
        fun hu => absurd hone (by omega)⟩
    by_cases hl : 0 < (s.record h.pool).linger ∧ noLinger = false
    · rw [State.checkinHold_of_linger hs hmu hone (by simpa using hl.1) hl.2] at hnext
      obtain ⟨htaken, hans, hframe, hput, hothers, honly⟩ := s.putHold_answered f k handle.slot
        { h with useCount := 0, state := .lingering, deadline := capTime (s.time.now + (s.record h.pool).linger * 1000) } (b := .released) fun _ => rfl
      have htime : (s.takeMessage .farm f).time = s.time := by simp
      rw [htime, State.record_takeMessage] at hnext
      refine ⟨_, hnext, htaken, hans, hframe, fun hu => absurd hu hone, fun _ _ _ => ⟨hput, hothers, honly⟩, fun _ hz => ?_⟩
      rcases hz with hz | hz
      · omega
      · exact absurd (hz.symm.trans hl.2) (by decide)
    · rw [State.checkinHold_of_removed hs hmu hone (by simpa using hl)] at hnext
      obtain ⟨htaken, hans⟩ := State.toFarm_answers s f ((s.takeMessage .farm f).removeHold handle.slot h .release) (addrsOf f) k
        .released (by simp) (by simp)
      obtain ⟨hremoved, hreports⟩ := State.removeHold_taken f handle.slot h .release hx
      exact ⟨_, hnext, htaken, hans, by simp [FarmRequestFrame], fun hu => absurd hu hone, fun _ h1 h2 => absurd ⟨h1, h2⟩ hl,
        fun _ _ => ⟨hremoved.congr (by simp) (by simp) (by simp) (by simp), hreports.congr (by simp) (by simp) (by simp)⟩⟩
  · refine ⟨_, exec_renew_of_taken hu hf hh, ?_⟩
    rw [State.renew_of_some hnu, State.renewHold, if_pos (by simpa [State.matches_takeMessage] using hun)]
    exact s.answered_only f _ k _
  · have hnext := exec_renew_of_taken hu hf hh
    rw [State.renew_of_some hnu, State.renewHold, if_neg (by simpa [State.matches_takeMessage] using ⟨hs, hma⟩)] at hnext
    simp only [State.renewedInterval_takeMessage, State.renewDeadline_takeMessage] at hnext
    obtain ⟨htaken, hans, -, hput, hothers, honly⟩ := s.putHold_answered f k handle.slot
      { h with
        state := .active, interval := s.renewedInterval h interval, deadline := s.renewDeadline (s.renewedInterval h interval) }
      (b := .renewed (s.renewDeadline (s.renewedInterval h interval))) fun _ => rfl
    obtain ⟨hnone, hzero, hsome⟩ := s.renewedInterval_cases h interval
    exact ⟨_, _, _, hnext, htaken, hans, rfl, hnone, hzero, hsome, hput, hothers, honly⟩

/-! ### CANCEL and QUERY (R59, R60) -/

@[simp] theorem State.waiting?_takeMessage (s : State) (f : Frame) (k : Key) :
    (s.takeMessage .farm f).waiting? k = s.waiting? k := by
  obtain ⟨w, hw⟩ := s.takeMessage_setFarm f; rw [hw]; rfl

theorem State.cancel_of_waiting {tag : Word} {e : WaitEntry} (h : s.waiting? { k with tag } = some e) :
    s.cancel f k tag = (s.unlinkAsking e).toFarm (addrsOf f) k (.cancelled tag) := by simp only [State.cancel, h]

theorem State.cancel_of_unknown {tag : Word} (h : s.keyStands { k with tag } = false) :
    s.cancel f k tag = s.toFarm (addrsOf f) k (.notWaiting tag) := by
  obtain ⟨hq, hw⟩ := Bool.or_eq_false_iff.1 h
  have hnone : s.waiting? { k with tag } = none := State.waiting?_eq_none.2 fun e he => by simpa using List.any_eq_false.1 hq e he
  simp only [State.cancel, hnone, hw, Bool.false_eq_true, if_false]

theorem State.query_of_some {feature version p : Nat}
    (h : (s.candidates feature version k.node).find? (fun q => (s.acct q).state ≠ .absent) = some p) :
    s.query f k feature version = s.toFarm (addrsOf f) k (.poolStatus p (s.free p) (s.acct p).queueLength (s.acct p).state) := by
  have hfind : (s.candidates feature version k.node).find? (fun q => s.delegated q) = some p := h
  simp only [State.query, hfind]

theorem State.unlinkAsking_of_head {e : WaitEntry} (h : s.isHead e = true) : s.unlinkAsking e = (s.unlink e).askPass e.pool := if_pos h

theorem State.unlinkAsking_of_behind {e : WaitEntry} (h : s.isHead e = false) : s.unlinkAsking e = s.unlink e := if_neg (by simp [h])

theorem State.entries_unlinkAsking (s : State) (e : WaitEntry) :
    (s.unlinkAsking e).queues.entries = s.queues.entries.eraseP (fun x => x.key = e.key) := by
  rw [State.unlinkAsking]
  split <;> rfl

theorem State.acct_unlinkAsking (s : State) (e : WaitEntry) (p : Nat) : (s.unlinkAsking e).acct p = (s.unlink e).acct p := by
  rw [State.unlinkAsking]
  split <;> rfl

/-- Settles O33: the entry leaves by `unlinkAsking`, and the answers leave everything else alone. -/
theorem cancelAndQueryAnswer : Obligations.CancelAndQueryAnswer := by
  unfold Obligations.CancelAndQueryAnswer
  refine fun f k s hu hf => ⟨fun tag e hh he => ?_, fun tag hh hn => ⟨_, exec_cancel_of_taken hu hf hh, ?_⟩,
    fun feature version p hh hp => ⟨_, exec_query_of_taken hu hf hh, ?_⟩⟩
  · have hnext := exec_cancel_of_taken hu hf hh
    rw [State.cancel_of_waiting (e := e) (by simpa using he)] at hnext
    obtain ⟨htaken, hans⟩ := State.toFarm_answers s f ((s.takeMessage .farm f).unlinkAsking e) (addrsOf f) k (.cancelled tag)
      (by simp) (by simp)
    have honly := State.toFarm_uncounted (s := (s.takeMessage .farm f).unlinkAsking e) (a := addrsOf f) (k := k)
      (b := .cancelled tag) fun _ => rfl
    have hacct : ∀ p, (((s.takeMessage .farm f).unlinkAsking e).toFarm (addrsOf f) k (.cancelled tag)).acct p =
        if p = e.pool then { s.acct p with queueLength := (s.acct p).queueLength - 1 } else s.acct p := fun p => by
      rw [State.acct_congr (s := (s.takeMessage .farm f).unlinkAsking e) (by rw [honly]; rfl), State.acct_unlinkAsking, State.acct_unlink,
        State.acct_congr (s := s) (by simp)]
    have hhead : (s.takeMessage .farm f).isHead e = s.isHead e := by
      obtain ⟨w, hw⟩ := s.takeMessage_setFarm f; rw [hw]; rfl
    refine ⟨_, hnext, htaken, hans, ?_, (hacct _).trans (if_pos rfl), fun q hq => (hacct q).trans (if_neg hq), fun hs => ?_,
      fun hs => ?_, by simp, by simp, by simp, ?_, by simp [FarmRequestFrame]⟩
    · simp [State.entries_unlinkAsking]
    · rw [State.unlinkAsking_of_head (hhead.trans hs)]
      simp [State.askPass, mem_insertNat]
    · rw [State.unlinkAsking_of_behind (hhead.trans hs)]
      simp [State.unlink]
    · rw [honly]; simp
  · rw [State.cancel_of_unknown (by simpa using hn)]
    exact s.answered_only f _ k _
  · rw [State.query_of_some (p := p) (by simpa using hp)]
    obtain ⟨w, hw⟩ := s.takeMessage_setFarm f
    have hfree : (s.takeMessage .farm f).free p = s.effectiveCeiling p - (s.acct p).h := by rw [hw]; rfl
    have hacct : (s.takeMessage .farm f).acct p = s.acct p := State.acct_congr (by simp) p
    rw [hfree, hacct]
    exact s.answered_only f _ k _

/-! ### Farm kinds in the states that bridge them (R40) -/

section

variable (hm : s.mode = .unconfigured ∨ s.mode = .faultHold)

include hm

/-- Each farm request kind is bridged by its own command. -/
theorem exec_request_of_bridged {c : Instr} {m : Message} (hh : s.headMessage .farm = some (f, k, m)) (hc : m.command .farm = c)
    (hr : c = .checkout ∨ c = .checkin ∨ c = .renew ∨ c = .cancel ∨ c = .query) : exec c s = .next (s.bridgeSeat .farm f) := by
  cases m with
  | checkout b =>
    subst hc
    change execCheckout s = _
    simp only [execCheckout, hh, State.takeOrBridge_of_bridged hm]
  | checkin handle noLinger =>
    subst hc
    change execCheckin s = _
    simp only [execCheckin, hh, State.takeOrBridge_of_bridged hm]
  | renew handle interval =>
    subst hc
    change execRenew s = _
    simp only [execRenew, hh, State.takeOrBridge_of_bridged hm]
  | cancel tag =>
    subst hc
    change execCancel s = _
    simp only [execCancel, hh, State.takeOrBridge_of_bridged hm]
  | query feature version =>
    subst hc
    change execQuery s = _
    simp only [execQuery, hh, State.takeOrBridge_of_bridged hm]
  | farmReply => subst hc; simp [Message.command] at hr
  | probe sequence mark => subst hc; simp [Message.command] at hr
  | mgmt r => subst hc; cases r <;> simp [Message.command, MgmtRequest.command] at hr
  | outbound => subst hc; simp [Message.command] at hr

theorem exec_serviceReplyRelay_of_bridged (hh : s.headMessage .service = some (f, k, .farmReply)) :
    exec .serviceReplyRelay s = .next (s.bridgeSeat .service f) := by
  change execServiceReplyRelay s = _
  simp only [execServiceReplyRelay, hh, State.takeOrBridge_of_bridged hm]

end

theorem State.bridgeSeat_of_full {port : Port} (h : s.oppositeSlot port ≠ none) : s.bridgeSeat port f = s := by
  obtain ⟨g, hg⟩ := Option.ne_none_iff_exists'.1 h
  rw [State.bridgeSeat, hg]

/-- Settles O34: `bridgeSeat` at each port, into the free slot and against the full one. -/
theorem farmKindsAreBridged : Obligations.FarmKindsAreBridged := by
  unfold Obligations.FarmKindsAreBridged
  intro f k s hm
  refine ⟨fun c m hh hc hr => ⟨fun hfree => ⟨_, exec_request_of_bridged hm hh hc hr, ?_⟩, fun hfull => ?_⟩,
    fun hh => ⟨fun hfree => ⟨_, exec_serviceReplyRelay_of_bridged hm hh, ?_⟩, fun hfull => ?_⟩⟩
  · have hbridge : s.bridgeSeat .farm f = (s.takeMessage .farm f).fillOpposite .farm f := by
      rw [State.bridgeSeat, show s.oppositeSlot .farm = none from hfree]
    obtain ⟨honly, hi, hst, -, -, hrep⟩ := s.takeMessage_farm f
    rw [hbridge]
    refine ⟨?_, hi, hrep, congrArg PortStats.seatMessages hst, ?_⟩
    all_goals rw [honly]; rfl
  · rw [exec_request_of_bridged hm hh hc hr, State.bridgeSeat_of_full (port := .farm) hfull]
  · have hbridge : s.bridgeSeat .service f = (s.takeMessage .service f).fillOpposite .service f := by
      rw [State.bridgeSeat, show s.oppositeSlot .service = none from hfree]
    rw [hbridge]
    exact ⟨rfl, rfl, rfl, rfl, rfl⟩
  · rw [exec_serviceReplyRelay_of_bridged hm hh, State.bridgeSeat_of_full (port := .service) hfull]

/-! ### The relay of service replies (R117) -/

theorem State.offerFarm_eq (s : State) (e : FarmEntry) :
    s.offerFarm e = s.setFarm
      (if s.farm.replies.length < 1024 then { s.farm with replies := s.farm.replies ++ [e] }
      else { s.farm with stats := { s.farm.stats with droppedReplies := bump s.farm.stats.droppedReplies } }) := by
  rw [State.offerFarm]
  split
  · next h => exact congrArg s.setFarm (if_pos h).symm
  · next h => exact congrArg s.setFarm (if_neg h).symm

/-- Settles O35: the three cases of `relay`, by the forward and the late-key record. -/
theorem serviceReplyIsRelayed : Obligations.ServiceReplyIsRelayed := by
  unfold Obligations.ServiceReplyIsRelayed
  intro f k s hh hu hf
  refine ⟨_, exec_serviceReplyRelay_of_taken hu hf hh, ?_⟩
  simp only [State.relay, State.offerFarm_eq]
  have htook : (s.tookRequest f).fwd = s.fwd := rfl
  rw [htook]
  by_cases hfwd : ∃ e ∈ s.fwd.entries, e.key = k
  · have hany : s.fwd.entries.any (fun e => e.key = k) = true := by simpa using hfwd
    have hno : ¬((∀ e ∈ s.fwd.entries, e.key ≠ k) ∧ k ∈ s.fwd.late) := fun ⟨h, _⟩ => hfwd.elim fun e he => h e he.1 he.2
    simp only [hany, if_true, if_neg hno]
    exact ⟨rfl, rfl, rfl, rfl, rfl, rfl⟩
  · have hany : s.fwd.entries.any (fun e => e.key = k) = false := by simpa using hfwd
    have hnone : ∀ e ∈ s.fwd.entries, e.key ≠ k := fun e he hk => hfwd ⟨e, he, hk⟩
    have herase : s.fwd.entries.eraseP (fun e => e.key = k) = s.fwd.entries := List.eraseP_of_forall_not (by simpa using hnone)
    by_cases hlate : k ∈ s.fwd.late
    · have hl : s.fwd.late.any (fun x => x = k) = true := by simpa using hlate
      simp only [hany, herase, hl, Bool.false_eq_true, if_false, if_true, if_pos (And.intro hnone hlate)]
      exact ⟨rfl, rfl, rfl, rfl, rfl, rfl⟩
    · have hl : s.fwd.late.any (fun x => x = k) = false :=
        List.any_eq_false.2 fun x hx => by simpa using fun h : x = k => hlate (h ▸ hx)
      have hno : ¬((∀ e ∈ s.fwd.entries, e.key ≠ k) ∧ k ∈ s.fwd.late) := fun h => hlate h.2
      simp only [hany, herase, hl, Bool.false_eq_true, if_false, if_neg hno]
      exact ⟨rfl, rfl, rfl, rfl, rfl, rfl⟩

end Sys2Proof.Machine
end

section
/-! PROOFS. The taking of a management request (R184), and the requests that read, load or write one item (R15 to R17, R78, R97, R123,
R124, R153, R161, R185 to R191). -/

namespace Sys2Proof.Machine

open Host

variable {s : State} {f : Frame} {k : Key} {r : MgmtRequest}

/-! ### One rule for every request -/

/-- What each request does once it has been taken with room for its reply; RESTART alone is not taken so (R184, R193). -/
def MgmtRequest.act (k : Key) : MgmtRequest → State → State
  | .identify => State.identify k
  | .readStatus => State.readStatus k
  | .readPool p => State.readPool k p
  | .setParameters present v => State.setParameters k present v
  | .setNotify set => State.replaceNotify k set
  | .clearEvents set => State.clearEvents k set
  | .restart scope => State.restart k scope
  | .loadPools count items => State.loadPools k count items
  | .loadGroups count items => State.loadGroups k count items
  | .clearShadow => State.clearShadow k
  | .switch expected => State.takeSwitch k expected
  | .delegate p d mode => State.delegate k p d mode
  | .census first count => State.census k first count
  | .revoke p => State.revoke k p
  | .listHolds p page => State.listHolds k p page
  | .listQueue p page => State.listQueue k p page
  | .evict handle => State.evict k handle
  | .drain => State.drain k
  | .undrain => State.undrain k
  | .setTime mode value => State.takeSetTime k mode value
  | .injectEchoError => State.injectEchoError k
  | .reconcile => State.reconcile k
  | .imageRead offset count => State.imageRead k offset count
  | .imageWrite offset count items => State.imageWrite k offset count items
  | .resume => State.resume k

theorem exec_command_of_headRequest (h : s.headRequest = some (f, k, r)) (hr : r.command ≠ .restart) :
    exec r.command s = .next (s.manage f (r.act k)) := by
  cases r with
  | identify => change execIdentify s = _; simp only [execIdentify, h, MgmtRequest.act]
  | readStatus => change execReadStatus s = _; simp only [execReadStatus, h, MgmtRequest.act]
  | readPool p => change execReadPool s = _; simp only [execReadPool, h, MgmtRequest.act]
  | setParameters present v => change execSetParameters s = _; simp only [execSetParameters, h, MgmtRequest.act]
  | setNotify set => change execSetNotify s = _; simp only [execSetNotify, h, MgmtRequest.act]
  | clearEvents set => change execClearEvents s = _; simp only [execClearEvents, h, MgmtRequest.act]
  | restart scope => exact absurd rfl hr
  | loadPools count items => change execLoadPools s = _; simp only [execLoadPools, h, MgmtRequest.act]
  | loadGroups count items => change execLoadGroups s = _; simp only [execLoadGroups, h, MgmtRequest.act]
  | clearShadow => change execClearShadow s = _; simp only [execClearShadow, h, MgmtRequest.act]
  | switch expected => change execSwitch s = _; simp only [execSwitch, h, MgmtRequest.act]
  | delegate p d mode => change execDelegate s = _; simp only [execDelegate, h, MgmtRequest.act]
  | census first count => change execCensus s = _; simp only [execCensus, h, MgmtRequest.act]
  | revoke p => change execRevoke s = _; simp only [execRevoke, h, MgmtRequest.act]
  | listHolds p page => change execListHolds s = _; simp only [execListHolds, h, MgmtRequest.act]
  | listQueue p page => change execListQueue s = _; simp only [execListQueue, h, MgmtRequest.act]
  | evict handle => change execEvict s = _; simp only [execEvict, h, MgmtRequest.act]
  | drain => change execDrain s = _; simp only [execDrain, h, MgmtRequest.act]
  | undrain => change execUndrain s = _; simp only [execUndrain, h, MgmtRequest.act]
  | setTime mode value => change execSetTime s = _; simp only [execSetTime, h, MgmtRequest.act]
  | injectEchoError => change execInjectEchoError s = _; simp only [execInjectEchoError, h, MgmtRequest.act]
  | reconcile => change execReconcile s = _; simp only [execReconcile, h, MgmtRequest.act]
  | imageRead offset count => change execImageRead s = _; simp only [execImageRead, h, MgmtRequest.act]
  | imageWrite offset count items => change execImageWrite s = _; simp only [execImageWrite, h, MgmtRequest.act]
  | resume => change execResume s = _; simp only [execResume, h, MgmtRequest.act]

/-- The taking of a request leaves all but the Service Port (R170, R184). -/
@[simp] theorem State.managed_kept (s : State) (f : Frame) :
    (s.managed f).pending = s.pending ∧ (s.managed f).clk = s.clk ∧ (s.managed f).resetLow = s.resetLow ∧ (s.managed f).mode = s.mode ∧
    (s.managed f).banks = s.banks ∧ (s.managed f).accounts = s.accounts ∧ (s.managed f).holds = s.holds ∧
    (s.managed f).queues = s.queues ∧ (s.managed f).fwd = s.fwd ∧ (s.managed f).time = s.time ∧ (s.managed f).link = s.link ∧
    (s.managed f).recon = s.recon ∧ (s.managed f).farm = s.farm ∧ (s.managed f).svc = s.svc.took f [] ∧ (s.managed f).mgmt = s.mgmt :=
  ⟨rfl, rfl, rfl, rfl, rfl, rfl, rfl, rfl, rfl, rfl, rfl, rfl, rfl, rfl, rfl⟩

/-- A request that finds room for its reply does its act on what its taking left (R184). -/
theorem Manages.exec_act (h : Manages s f k r) (hr : r.command ≠ .restart) : exec r.command s = .next (r.act k (s.managed f)) := by
  rw [exec_command_of_headRequest h.1 hr, State.manage_of_room h]

/-- Settles O49: `manage` without room is `dropManagement`. -/
theorem requestWithoutRoomIsDropped : Obligations.RequestWithoutRoomIsDropped := by
  unfold Obligations.RequestWithoutRoomIsDropped
  intro f k r s h hr hfull
  have hroom : ¬(s.takeMessage .service f).mgmtRoom = true := by
    simpa [State.takeMessage_service, State.mgmtRoom, State.tookRequest, ServicePort.took, Config.upstream] using hfull
  rw [exec_command_of_headRequest h hr, State.manage, if_neg hroom, State.takeMessage_service]
  rfl

/-! ### Answers to requests that raise nothing (R184) -/

/-- The reply of a request whose work left the Service Port as its taking left it and raised nothing. -/
theorem Manages.answer_unraised (h : Manages s f k r) {u : State} (hsvc : u.svc = s.svc.took f [])
    (hp : u.mgmt.params.seatType = s.mgmt.params.seatType) (hd : u.deferred = some []) (q : MgmtReply) :
    u.answerMgmt k q =
      { u with
        svc := s.svc.took f [replyTo f s.mgmt.params.seatType k q], reserved := s.reserved, deferred := s.deferred } := by
  obtain ⟨_, ⟨hreserved, hdeferred⟩, _⟩ := h
  rw [State.answerMgmt_clean k q hd, hreserved, hdeferred]
  cases u
  simp_all [State.pushUp, ServicePort.took, replyTo, State.ownEth, addrsOf, State.setSvc, State.setReserved, State.setDeferred]

/-- A refusal, or any other answer that goes with no work. -/
theorem Manages.exec_answered (h : Manages s f k r) (hr : r.command ≠ .restart) {q : MgmtReply}
    (hact : r.act k (s.managed f) = (s.managed f).answerMgmt k q) : exec r.command s = .next (onlyAnswered s f k q) := by
  rw [h.exec_act hr, hact, State.managed_answer h]

theorem Option.isSome_eq_decide_ne_none {α : Type} (o : Option α) [Decidable (o ≠ none)] : o.isSome = decide (o ≠ none) := by
  cases o <;> simp

/-! ### The reading requests (R78, R97, R161, R185 to R187) -/

theorem State.imageWords_of_some {image : List Word} (h : s.recon.image = some image) : s.imageWords = image := by
  rw [State.imageWords, h, Option.getD_some]

theorem State.imageRead_of_refused {offset count : Nat} (hm : s.mode ≠ .reconciling) :
    s.imageRead k offset count = s.answerBare k .imageRead .badState := if_pos hm

theorem State.imageRead_of_bad {offset count : Nat} (hm : s.mode = .reconciling)
    (h : count = 0 ∨ 255 < count ∨ s.imageWords.length < offset + count) :
    s.imageRead k offset count = s.answerBare k .imageRead .badRequest := by
  rw [State.imageRead, if_neg (by simp [hm]), if_pos h]

theorem State.imageRead_of_sound {offset count : Nat} (hm : s.mode = .reconciling)
    (h : ¬(count = 0 ∨ 255 < count ∨ s.imageWords.length < offset + count)) :
    s.imageRead k offset count = s.answerOk k .imageRead (.words ((s.imageWords.drop offset).take count)) := by
  rw [State.imageRead, if_neg (by simp [hm]), if_neg h]

/-- The report of READ_STATUS reads the ports once it has itself been taken (R186). -/
theorem State.statusReport_managed (s : State) (f : Frame) :
    (s.managed f).statusReport =
      { s.statusReport with
        serviceIntake := s.svc.intake.length - 1,
        serviceStats := { s.svc.stats with seatMessages := bump s.svc.stats.seatMessages } } := by
  have hseat : (s.managed f).seatCount = s.seatCount := by
    simp [State.seatCount, State.managed, State.tookRequest, ServicePort.took]
  have hup : (s.managed f).svc.upstream = s.svc.upstream := by simp [State.managed, State.tookRequest, ServicePort.took]
  simp only [State.statusReport, hseat, hup]
  simp [State.managed, State.tookRequest, ServicePort.took, State.occupied, State.autonomyMs]

/-- Settles O48: every one answers and does nothing more. -/
theorem readingRequestsAnswer : Obligations.ReadingRequestsAnswer := by
  unfold Obligations.ReadingRequestsAnswer
  intro f k s
  refine ⟨fun h => h.exec_answered (by simp [MgmtRequest.command]) rfl, fun h => h.exec_answered (by simp [MgmtRequest.command]) ?_,
    fun p h => ⟨fun hp => h.exec_answered (by simp [MgmtRequest.command]) ?_,
      fun hp => h.exec_answered (by simp [MgmtRequest.command]) (if_pos hp)⟩,
    fun p page h => ⟨fun hp => h.exec_answered (by simp [MgmtRequest.command]) (if_neg (Nat.not_le.2 hp)),
      fun hp => h.exec_answered (by simp [MgmtRequest.command]) (if_pos hp)⟩,
    fun p page h => ⟨fun hp => h.exec_answered (by simp [MgmtRequest.command]) (if_neg (Nat.not_le.2 hp)),
      fun hp => h.exec_answered (by simp [MgmtRequest.command]) (if_pos hp)⟩,
    fun offset count h => ⟨fun hm => h.exec_answered (by simp [MgmtRequest.command]) (State.imageRead_of_refused hm),
      fun image hm hi => ?_⟩⟩
  · change (s.managed f).answerOk k .readStatus (.status (s.managed f).statusReport) = _
    rw [State.statusReport_managed]
    have hrecords := s.banks.active.getD_map (fun b => b.records.length) Bank.blank
    have hranges := s.banks.active.getD_map (fun b => b.ranges.length) Bank.blank
    simp only [State.statusReport, Option.isSome_eq_decide_ne_none, ← hrecords, ← hranges]
    rfl
  · exact if_neg (Nat.not_le.2 hp)
  · have hwords : (s.managed f).imageWords = image := State.imageWords_of_some hi
    refine ⟨fun h1 h2 h3 => h.exec_answered (by simp [MgmtRequest.command]) ?_,
      fun hbad => h.exec_answered (by simp [MgmtRequest.command]) (State.imageRead_of_bad hm (by rwa [hwords]))⟩
    change (s.managed f).imageRead k offset count = _
    rw [State.imageRead_of_sound (s := s.managed f) hm (by rw [hwords]; omega), hwords]
    rfl

/-! ### Raising while a request is carried out (R184, R189; log 16) -/

/-- While a request is carried out an event sets its flag, and its notice is held back. -/
theorem State.raise_held {l : List UpEntry} (e : Event) (h : s.deferred = some l) :
    ∃ notices, (∀ x ∈ notices, UpEntry.isNotice x = true) ∧
      s.raise e =
        { s with mgmt := { s.mgmt with events := (s.raise e).mgmt.events }, deferred := some (l ++ notices) } := by
  simp only [State.raise]
  split
  · exact ⟨[], by simp, by simp [← h]⟩
  · split
    · refine ⟨[UpEntry.event (s.flagEvent e).ownEth (s.flagEvent e).mgmt.events e (s.flagEvent e).time.now], ?_, ?_⟩
      · simp [UpEntry.isNotice]
      · have hd : (s.flagEvent e).deferred = some l := h
        simp only [State.notice, hd]
        rfl
    · exact ⟨[], by simp, by rw [List.append_nil, ← h]; rfl⟩

/-- Entries offered to the Upstream Queue join its tail as far as it has room (R178). -/
theorem State.offerAll_joined (l : List UpEntry) (t : State) :
    ∃ joined, joined.Sublist l ∧ (l.foldl (fun t e => t.offerUp e) t).svc.upstream = t.svc.upstream ++ joined := by
  induction l generalizing t with
  | nil => exact ⟨[], List.Sublist.refl _, by simp⟩
  | cons e l ih =>
    obtain ⟨joined, hsub, hup⟩ := ih (t.offerUp e)
    rw [List.foldl_cons, hup]
    by_cases hr : t.mgmtRoom = true
    · exact ⟨e :: joined, hsub.cons_cons e, by simp [State.offerUp, hr, State.pushUp]⟩
    · exact ⟨joined, hsub.cons e, by simp [State.offerUp, hr, State.dropUp]⟩

/-- The reply stands behind what waited and only held notices follow it; no place is kept any more (R184). -/
theorem State.answerMgmt_joins {l : List UpEntry} (k : Key) (q : MgmtReply) (h : s.deferred = some l) :
    ∃ joined, joined.Sublist l ∧
      (s.answerMgmt k q).svc.upstream = s.svc.upstream ++ [UpEntry.reply s.ownEth k q] ++ joined ∧
      s.answerMgmt k q =
        { s with
          svc :=
            { s.svc with
              upstream := (s.answerMgmt k q).svc.upstream,
              stats := { s.svc.stats with droppedReplies := (s.answerMgmt k q).svc.stats.droppedReplies } },
          reserved := 0, deferred := none } := by
  obtain ⟨joined, hsub, hup⟩ := State.offerAll_joined l (((s.setReserved 0).setDeferred none).pushUp (UpEntry.reply s.ownEth k q))
  have heq : s.answerMgmt k q =
      l.foldl (fun t e => t.offerUp e) (((s.setReserved 0).setDeferred none).pushUp (UpEntry.reply s.ownEth k q)) := by
    simp [State.answerMgmt, h]
  refine ⟨joined, hsub, heq ▸ hup, ?_⟩
  rw [heq, State.offerAll_only]
  rfl

/-- An answer leaves all but the Service Port, and keeps no place any more (R184). -/
theorem State.answerMgmt_only (k : Key) (q : MgmtReply) :
    s.answerMgmt k q = { s with svc := (s.answerMgmt k q).svc, reserved := 0, deferred := none } := by
  simp only [State.answerMgmt]
  rw [State.offerAll_only]
  rfl

/-! ### The autonomy limit (R151) -/

theorem State.autonomyDue_iff {start : Nat} (h : s.link.autonomyStart = some start) :
    s.autonomyDue = true ↔
      s.mgmt.params.autonomyLimit * 1000 ≤ (s.clk - start) / 156250 ∧ s.link.autonomyPassed = false := by
  simp [State.autonomyDue, State.autonomyMs, h, Config.msCycles]

theorem State.checkAutonomy_of_due (h : s.autonomyDue = true) :
    s.checkAutonomy = (s.setLink { s.link with autonomyPassed := true }).raise .autonomyExpired := if_pos h

theorem State.checkAutonomy_of_not_due (h : ¬s.autonomyDue = true) : s.checkAutonomy = s := if_neg h

/-- Settles O42: `checkAutonomy` raises at the limit and is idle before it and after it has raised. -/
theorem autonomyLimitIsTakenOnce : Obligations.AutonomyLimitIsTakenOnce := by
  unfold Obligations.AutonomyLimitIsTakenOnce
  intro s start hstart
  have hexec : exec .autonomyLimitReached s = .next s.checkAutonomy := rfl
  refine ⟨fun hlimit hpassed => ⟨_, hexec, ?_⟩, fun hnot => ?_⟩
  · rw [State.checkAutonomy_of_due ((State.autonomyDue_iff hstart).2 ⟨hlimit, hpassed⟩)]
    have hlink : ((s.setLink { s.link with autonomyPassed := true }).raise .autonomyExpired).link =
        { s.link with autonomyPassed := true } := by simp
    refine ⟨hlink, by simp, ?_⟩
    rw [hlink]
    exact State.raise_only _ _
  · rw [hexec, State.checkAutonomy_of_not_due]
    rw [State.autonomyDue_iff hstart, Classical.not_and_iff_not_or_not]
    exact hnot.symm.imp Nat.not_le.2 (by simp_all)

/-! ### SET_PARAMETERS, SET_NOTIFY, CLEAR_EVENTS, INJECT_ECHO_ERROR (R137, R151, R153, R188 to R191) -/

theorem clamp_ne_iff {low high n : Nat} (h : low ≤ high) : clamp low high n ≠ n ↔ n < low ∨ high < n := by
  rw [clamp]; omega

theorem paramClamp_eq {present bit low high carried : Nat} (h : low ≤ high) :
    paramClamp present bit low high carried =
      if present.testBit bit = true ∧ (carried < low ∨ high < carried) then 1 else 0 := by
  simp only [paramClamp, clamp_ne_iff h]

theorem Params.clamped_eq (present : Nat) (v : Params) :
    Params.clamped present v =
      (if present.testBit 1 = true ∧ (v.probeInterval < 100 ∨ 10000 < v.probeInterval) then 1 else 0) +
        (if present.testBit 2 = true ∧ (v.forwardTimeout < 50 ∨ 5000 < v.forwardTimeout) then 1 else 0) +
        (if present.testBit 3 = true ∧ (v.epochPeriod < 1 ∨ 60 < v.epochPeriod) then 1 else 0) +
        (if present.testBit 4 = true ∧ 259200 < v.autonomyLimit then 1 else 0) +
        (if present.testBit 5 = true ∧ (v.stepLimit < 100 ∨ 60000 < v.stepLimit) then 1 else 0) +
        (if present.testBit 6 = true ∧ (v.retryHint < 10 ∨ 10000 < v.retryHint) then 1 else 0) := by
  rw [Params.clamped, paramClamp_eq (by decide), paramClamp_eq (by decide), paramClamp_eq (by decide), paramClamp_eq (by decide),
    paramClamp_eq (by decide), paramClamp_eq (by decide)]
  simp only [Nat.not_lt_zero, false_or]

/-- The parameters written and the boundary that a new period owes, as one update (R137, R188; log 5). -/
theorem State.setParams_eq (s : State) (p : Params) :
    s.setParams p =
      { s with
        mgmt := { s.mgmt with params := p },
        time :=
          { s.time with
            epochOwed :=
              if epochNumber s.time.now s.mgmt.params.epochPeriod = epochNumber s.time.now p.epochPeriod then s.time.epochOwed
              else s.time.epochOwed + 1 } } := by
  simp only [State.setParams]
  split <;> rfl

/-- The test of the limit while a request is carried out. -/
theorem State.checkAutonomy_held {l : List UpEntry} (h : s.deferred = some l) :
    ∃ notices, (∀ x ∈ notices, UpEntry.isNotice x = true) ∧
      s.checkAutonomy =
        { s with
          link := { s.link with autonomyPassed := s.checkAutonomy.link.autonomyPassed },
          mgmt := { s.mgmt with events := s.checkAutonomy.mgmt.events }, deferred := some (l ++ notices) } := by
  by_cases hdue : s.autonomyDue = true
  · rw [State.checkAutonomy_of_due hdue]
    obtain ⟨notices, hn, heq⟩ :=
      State.raise_held (s := s.setLink { s.link with autonomyPassed := true }) .autonomyExpired (l := l) h
    refine ⟨notices, hn, ?_⟩
    generalize ((s.setLink { s.link with autonomyPassed := true }).raise .autonomyExpired).mgmt.events = ev at heq
    rw [heq]
    rfl
  · rw [State.checkAutonomy_of_not_due hdue]
    exact ⟨[], by simp, by rw [List.append_nil, ← h]⟩

/-- What SET_PARAMETERS leaves: the parameters, the boundary owed, the autonomy clock's flag and events, and its reply. -/
theorem Manages.setParameters_eq {present : Nat} {v p : Params} {n : Nat} (h : Manages s f k (.setParameters present v))
    (hp : p = s.mgmt.params.updated present v) (hn : n = Params.clamped present v) {t : State}
    (ht : t = (s.managed f).setParameters k present v) :
    t = { s with svc := t.svc, mgmt := { s.mgmt with params := p, events := t.mgmt.events },
                 link := { s.link with autonomyPassed := t.link.autonomyPassed },
                 time :=
                   { s.time with
                     epochOwed :=
                       if epochNumber s.time.now s.mgmt.params.epochPeriod = epochNumber s.time.now p.epochPeriod then
                         s.time.epochOwed
                       else s.time.epochOwed + 1 } } ∧
      (s.svc.upstream ++
          [UpEntry.reply { dst := f.src, src := f.dst, etype := p.seatType } k
            { kind := .setParameters, status := if n = 0 then .ok else .okClamped, body := .parameters n p }]) <+:
        t.svc.upstream ∧
      (∀ start, s.link.autonomyStart = some start → p.autonomyLimit * 1000 ≤ (s.clk - start) / 156250 →
        s.link.autonomyPassed = false → t.link.autonomyPassed = true ∧ t.eventPending .autonomyExpired = true) ∧
      (s.link.autonomyStart = none → t.link.autonomyPassed = s.link.autonomyPassed) := by
  obtain ⟨_, ⟨hreserved, hdeferred⟩, _⟩ := h
  subst hp hn
  let w := (s.managed f).setParams (s.mgmt.params.updated present v)
  have hw : w = _ := (s.managed f).setParams_eq (s.mgmt.params.updated present v)
  have hdue : w.link = s.link ∧ w.clk = s.clk ∧ w.mgmt.params = s.mgmt.params.updated present v := by rw [hw]; exact ⟨rfl, rfl, rfl⟩
  obtain ⟨hlink, hclk, hparams⟩ := hdue
  obtain ⟨notices, -, hu⟩ := State.checkAutonomy_held (s := w) (l := []) (by rw [hw]; rfl)
  let q : MgmtReply :=
    { kind := .setParameters, status := if Params.clamped present v = 0 then .ok else .okClamped,
      body := .parameters (Params.clamped present v) (s.mgmt.params.updated present v) }
  obtain ⟨joined, -, hup, -⟩ := State.answerMgmt_joins (s := w.checkAutonomy) (l := notices) k q (by rw [hu]; rfl)
  have ht : t = w.checkAutonomy.answerMgmt k q := ht
  have htlink : t.link = w.checkAutonomy.link := by rw [ht]; simp
  have htevents : t.mgmt.events = w.checkAutonomy.mgmt.events := by rw [ht]; simp
  have hsvc : w.checkAutonomy.svc = s.svc.took f [] := by rw [hu, hw]; rfl
  refine ⟨?_, ?_, fun start hstart hle hpassed => ?_, fun hnone => ?_⟩
  · have honly : t = { w.checkAutonomy with svc := t.svc, reserved := 0, deferred := none } := by
      rw [ht]; exact State.answerMgmt_only k q
    rw [htlink, htevents]
    generalize w.checkAutonomy.mgmt.events = events at hu
    generalize w.checkAutonomy.link.autonomyPassed = passed at hu
    generalize t.svc = svc at honly ⊢
    rw [honly, hu, hw, ← hreserved, ← hdeferred]
    rfl
  · have heth : w.checkAutonomy.ownEth =
        { dst := f.src, src := f.dst, etype := (s.mgmt.params.updated present v).seatType } := by
      rw [State.ownEth, hsvc, hu]
      simp only [hparams]
      rfl
    rw [ht, hup, hsvc, heth]
    exact ⟨joined, by simp [ServicePort.took, q]⟩
  · have hd : w.autonomyDue = true :=
      (State.autonomyDue_iff (by rw [hlink, hstart])).2 ⟨by rwa [hparams, hclk], by rwa [hlink]⟩
    rw [htlink, State.eventPending, htevents, State.checkAutonomy_of_due hd]
    have hpending : ((w.setLink { w.link with autonomyPassed := true }).raise .autonomyExpired).eventPending .autonomyExpired = true := by
      simp
    exact ⟨by simp, hpending⟩
  · have hd : ¬w.autonomyDue = true := by simp [State.autonomyDue, State.autonomyMs, hlink, hnone]
    rw [htlink, State.checkAutonomy_of_not_due hd, hlink]

/-- Settles O50: SET_PARAMETERS by its update, the test of the limit and the reply; the other three by the answer behind one write. -/
theorem settingRequestsWrite : Obligations.SettingRequestsWrite := by
  unfold Obligations.SettingRequestsWrite
  intro f k s
  refine ⟨fun present v h => ?_, fun set h => ?_, fun set h => ?_, fun h => ?_⟩
  · obtain ⟨honly, hup, hexpired, hstopped⟩ := h.setParameters_eq rfl rfl rfl
    refine ⟨(s.managed f).setParameters k present v, Params.clamped present v, h.exec_act (by simp [MgmtRequest.command]), ?_⟩
    generalize (s.managed f).setParameters k present v = t at *
    have hmgmt : t.mgmt = { s.mgmt with params := s.mgmt.params.updated present v, events := t.mgmt.events } :=
      congrArg State.mgmt honly
    have htime := congrArg State.time honly
    have hlink : t.link = { s.link with autonomyPassed := t.link.autonomyPassed } := congrArg State.link honly
    have hparams : t.mgmt.params = s.mgmt.params.updated present v := congrArg Management.params hmgmt
    rw [hparams]
    refine ⟨?_, Params.clamped_eq present v, ?_, htime, hexpired, fun hnone => ?_, hlink, hmgmt ▸ rfl,
      hmgmt ▸ rfl, ?_⟩
    · simp only [Params.updated, paramAfter, clamp]
      rw [Nat.zero_max]
    · rw [ethTo, hparams]
      exact hup
    · rw [hlink, hstopped hnone]
    · exact honly.trans (by rw [← hmgmt, ← hlink]; exact congrArg (fun x => { s with svc := t.svc, mgmt := t.mgmt, link := t.link, time := x }) htime.symm)
  · refine (h.exec_act (by simp [MgmtRequest.command])).trans (congrArg Outcome.next ?_)
    exact h.answer_unraised (u := (s.managed f).setMgmt { s.mgmt with notify := set }) rfl rfl rfl _
  · refine (h.exec_act (by simp [MgmtRequest.command])).trans (congrArg Outcome.next ?_)
    exact h.answer_unraised (u := (s.managed f).setMgmt { s.mgmt with events := s.mgmt.events &&& ~~~set }) rfl rfl rfl _
  · refine (h.exec_act (by simp [MgmtRequest.command])).trans (congrArg Outcome.next ?_)
    exact h.answer_unraised (u := (s.managed f).setLink { s.link with echoError := true }) rfl rfl rfl _

end Sys2Proof.Machine
end

section
/-! PROOFS. LOAD_POOLS, LOAD_GROUPS and CLEAR_SHADOW (R15 to R17, R123, R124). -/

namespace Sys2Proof

theorem field_drop (bs : List Byte) (n off len : Nat) : field (bs.drop n) off len = field bs (n + off) len := by
  rw [field, List.drop_drop, field]

theorem wordAt_drop (bs : List Byte) (n off : Nat) : wordAt (bs.drop n) off = wordAt bs (n + off) := by
  rw [wordAt, field_drop, wordAt]

/-- The first that passes the test is the one behind a run of those that fail it. -/
theorem findIdx?_append_cons {α : Type} {test : α → Bool} {before after : List α} {x : α} (hb : ∀ y ∈ before, test y = false)
    (hx : test x = true) : (before ++ x :: after).findIdx? test = some before.length := by
  rw [List.findIdx?_append, List.findIdx?_eq_none_iff.2 hb, List.findIdx?_cons, hx]
  simp

namespace Machine

open Host

variable {s : State} {f : Frame} {k : Key}

/-! ### Records and ranges as a message carries them (R16, R17, R181) -/

theorem carriedRecords_getElem? {count i : Nat} (items : List Byte) (h : i < count) :
    (carriedRecords count items)[i]? = some (carriedRecord (items.drop (44 * i))) := by
  rw [carriedRecords, List.getElem?_map, List.getElem?_range h, Option.map_some, recordBytes, Nat.mul_comm]

theorem carriedRanges_getElem? {count i : Nat} (items : List Byte) (h : i < count) :
    (carriedRanges count items)[i]? = some (carriedRange (items.drop (10 * i))) := by
  rw [carriedRanges, List.getElem?_map, List.getElem?_range h, Option.map_some, rangeBytes, Nat.mul_comm]

theorem clampCount_eq {low high n : Nat} (h : low ≤ high) : clampCount low high n = if n < low ∨ high < n then 1 else 0 := by
  by_cases hc : n < low ∨ high < n
  · rw [clampCount, if_neg (by rw [clamp]; omega), if_pos hc]
  · rw [clampCount, if_pos (by rw [clamp]; omega), if_neg hc]

theorem sharingOf_eq_none {code : Nat} : sharingOf code = none ↔ code ≠ 1 ∧ code ≠ 2 := by
  by_cases h1 : code = 1 <;> by_cases h2 : code = 2 <;> simp_all [sharingOf]

theorem policyOf_eq_none {code : Nat} : policyOf code = none ↔ code ≠ 1 ∧ code ≠ 2 := by
  by_cases h1 : code = 1 <;> by_cases h2 : code = 2 <;> simp_all [policyOf]

theorem sharingOf_of_known {code : Nat} (h : ¬(code ≠ 1 ∧ code ≠ 2)) :
    sharingOf code = some (if code = 1 then .perProcess else .perNode) := by
  by_cases h1 : code = 1 <;> by_cases h2 : code = 2 <;> simp_all [sharingOf]

theorem policyOf_of_known {code : Nat} (h : ¬(code ≠ 1 ∧ code ≠ 2)) : policyOf code = some (if code = 1 then .fifo else .backfill) := by
  by_cases h1 : code = 1 <;> by_cases h2 : code = 2 <;> simp_all [policyOf]

namespace CarriedRecord

variable (r : CarriedRecord)

/-- The structural faults of a record's own fields (R17). -/
def Faulty : Prop :=
  (r.sharing ≠ 1 ∧ r.sharing ≠ 2) ∨ (r.policy ≠ 1 ∧ r.policy ≠ 2) ∨ r.versionCeiling < r.versionFloor ∨
    clamp 10 3600 r.renewMax < clamp 10 3600 r.renewMin

variable {r}

theorem taken_of_faulty (h : r.Faulty) : r.taken = none := by
  rcases h with h | h | h
  · rw [taken, sharingOf_eq_none.2 h]; split <;> simp_all
  · rw [taken, policyOf_eq_none.2 h]; split <;> simp_all
  · rw [taken]; split <;> simp_all

theorem taken_of_sound (h : ¬r.Faulty) :
    r.taken =
      some
        { feature := r.feature, versionFloor := r.versionFloor, versionCeiling := r.versionCeiling,
          tokensPerSeat := clamp 1 64 r.tokensPerSeat, coreStep := clamp 0 256 r.coreStep, coreCap := clamp 1 64 r.coreCap,
          overdraft := clamp 0 500 r.overdraft, groupMask := r.groupMask,
          sharing := if r.sharing = 1 then .perProcess else .perNode, renewMin := clamp 10 3600 r.renewMin,
          renewMax := clamp 10 3600 r.renewMax, grace := clamp 0 600 r.grace, linger := clamp 0 86400 r.linger,
          queueLimit := clamp 0 255 r.queueLimit, maxWait := clamp 0 3600 r.maxWait,
          policy := if r.policy = 1 then .fifo else .backfill, protectAge := clamp 0 600 r.protectAge, startDay := r.startDay,
          endDay := r.endDay } := by
  obtain ⟨hs, h⟩ := not_or.1 h
  obtain ⟨hp, h⟩ := not_or.1 h
  simp only [taken, sharingOf_of_known hs, policyOf_of_known hp, if_neg h]

theorem taken_eq_none_iff : r.taken = none ↔ r.Faulty :=
  ⟨fun h => Classical.byContradiction fun hn => by simp [taken_of_sound hn] at h, taken_of_faulty⟩

theorem atFault_iff : r.atFault = true ↔ r.feature ≠ 0 ∧ (1023 < r.pool ∨ r.Faulty) := by
  rw [atFault, Bool.and_eq_true, decide_eq_true_iff, Bool.or_eq_true, decide_eq_true_iff, Option.isNone_iff_eq_none, taken_eq_none_iff]
  exact Iff.rfl

theorem clamps_eq (r : CarriedRecord) :
    r.clamps =
      (if r.tokensPerSeat < 1 ∨ 64 < r.tokensPerSeat then 1 else 0) + (if 256 < r.coreStep then 1 else 0) +
        (if r.coreCap < 1 ∨ 64 < r.coreCap then 1 else 0) + (if 500 < r.overdraft then 1 else 0) +
        (if r.renewMin < 10 ∨ 3600 < r.renewMin then 1 else 0) + (if r.renewMax < 10 ∨ 3600 < r.renewMax then 1 else 0) +
        (if 600 < r.grace then 1 else 0) + (if 86400 < r.linger then 1 else 0) + (if 255 < r.queueLimit then 1 else 0) +
        (if 3600 < r.maxWait then 1 else 0) + (if 600 < r.protectAge then 1 else 0) := by
  simp only [clamps, clampCount_eq (show (1 : Nat) ≤ 64 by decide), clampCount_eq (Nat.zero_le _),
    clampCount_eq (show (10 : Nat) ≤ 3600 by decide), Nat.not_lt_zero, false_or]

end CarriedRecord

/-! ### SHADOW under a load (R15, R16) -/

/-- A sound record takes its pool number's place in SHADOW, or empties it, and no other. -/
theorem Bank.get?_load {r : CarriedRecord} (b : Bank) (h : r.atFault = false) (p : Nat) :
    Table.get? (b.load r).records p =
      if r.pool = p then (if r.feature = 0 then none else r.taken) else Table.get? b.records p := by
  rw [Bank.load]
  by_cases hz : r.feature = 0
  · simp only [if_pos hz, Table.get?_remove]
  · have hsound : ¬r.Faulty := fun hf => by simp [CarriedRecord.atFault_iff.2 ⟨hz, .inr hf⟩] at h
    simp only [if_neg hz, CarriedRecord.taken_of_sound hsound, Table.get?_put]

theorem Bank.ranges_load (b : Bank) (r : CarriedRecord) : (b.load r).ranges = b.ranges := by
  rw [Bank.load]
  (repeat' split) <;> rfl

theorem Bank.ranges_loadAll (rs : List CarriedRecord) (b : Bank) : (rs.foldl Bank.load b).ranges = b.ranges := by
  induction rs generalizing b with
  | nil => rfl
  | cons r rs ih => rw [List.foldl_cons, ih, Bank.ranges_load]

theorem Bank.get?_loadAll_other {rs : List CarriedRecord} (h : ∀ x ∈ rs, x.atFault = false) {p : Nat} (hp : ∀ x ∈ rs, x.pool ≠ p)
    (b : Bank) : Table.get? (rs.foldl Bank.load b).records p = Table.get? b.records p := by
  induction rs generalizing b with
  | nil => rfl
  | cons r rs ih =>
    rw [List.foldl_cons, ih (fun x hx => h x (List.mem_cons_of_mem _ hx)) (fun x hx => hp x (List.mem_cons_of_mem _ hx)),
      b.get?_load (h r List.mem_cons_self), if_neg (hp r List.mem_cons_self)]

/-- The last record for a pool number decides what SHADOW holds for it. -/
theorem Bank.get?_loadAll_last {before after : List CarriedRecord} {r : CarriedRecord}
    (h : ∀ x ∈ before ++ r :: after, x.atFault = false) (ha : ∀ x ∈ after, x.pool ≠ r.pool) (b : Bank) :
    Table.get? ((before ++ r :: after).foldl Bank.load b).records r.pool = if r.feature = 0 then none else r.taken := by
  rw [List.foldl_append, List.foldl_cons,
    Bank.get?_loadAll_other (fun x hx => h x (List.mem_append_right _ (List.mem_cons_of_mem _ hx))) ha,
    Bank.get?_load _ (h r (List.mem_append_right _ List.mem_cons_self)), if_pos rfl]

/-! ### The requests -/

theorem State.loadPools_of_fault {count position : Nat} {items : List Byte} (h : loadFault count items = some position) :
    s.loadPools k count items = s.answerMgmt k { kind := .loadPools, status := .badRequest, body := .position position } := by
  simp only [State.loadPools, h]

theorem State.loadPools_of_sound {count : Nat} {items : List Byte} (h : loadFault count items = none) :
    s.loadPools k count items =
      (s.setBanks { s.banks with shadow := (carriedRecords count items).foldl Bank.load s.banks.shadow }).answerMgmt k
        { kind := .loadPools, status := if clampedTotal (carriedRecords count items) = 0 then .ok else .okClamped,
          body := .clampedCount (clampedTotal (carriedRecords count items)) } := by
  simp only [State.loadPools, h]

theorem loadFault_of_bad {count : Nat} {items : List Byte} (h : count = 0 ∨ 8 < count ∨ items.length < 44 * count) :
    loadFault count items = some 0 := if_pos (by rwa [recordBytes, Nat.mul_comm])

theorem loadFault_of_whole {count : Nat} {items : List Byte} (h1 : 1 ≤ count) (h8 : count ≤ 8) (hl : 44 * count ≤ items.length) :
    loadFault count items = ((carriedRecords count items).findIdx? CarriedRecord.atFault).map (fun i => i + 1) :=
  if_neg (by rw [recordBytes]; omega)

theorem State.loadGroups_of_fault {count position : Nat} {items : List Byte} (h : groupFault count items = some position) :
    s.loadGroups k count items = s.answerMgmt k { kind := .loadGroups, status := .badRequest, body := .position position } := by
  simp only [State.loadGroups, h]

theorem groupFault_of_bad {count : Nat} {items : List Byte} (h : count = 0 ∨ 32 < count ∨ items.length < 10 * count) :
    groupFault count items = some 0 := if_pos (by rwa [rangeBytes, Nat.mul_comm])

theorem groupFault_of_whole {count : Nat} {items : List Byte} (h1 : 1 ≤ count) (h32 : count ≤ 32) (hl : 10 * count ≤ items.length) :
    groupFault count items = ((carriedRanges count items).findIdx? (fun r => decide (31 < r.group))).map (fun i => i + 1) :=
  if_neg (by rw [rangeBytes]; omega)

/-- LOAD_POOLS, refused at its first fault or written record by record (R15 to R17). -/
theorem Manages.loadPools {count : Nat} {items : List Byte} (h : Manages s f k (.loadPools count items)) :
    (count = 0 ∨ 8 < count ∨ items.length < 44 * count →
        Machine.exec .loadPools s =
          .next (onlyAnswered s f k { kind := .loadPools, status := .badRequest, body := .position 0 })) ∧
      (∀ before r after, 1 ≤ count → count ≤ 8 → 44 * count ≤ items.length →
        carriedRecords count items = before ++ r :: after → (∀ x ∈ before, x.atFault = false) → r.atFault = true →
        Machine.exec .loadPools s =
          .next
            (onlyAnswered s f k { kind := .loadPools, status := .badRequest, body := .position (before.length + 1) })) ∧
      (1 ≤ count → count ≤ 8 → 44 * count ≤ items.length → (∀ x ∈ carriedRecords count items, x.atFault = false) →
        Machine.exec .loadPools s =
          .next
            { onlyAnswered s f k
                { kind := .loadPools, status := if clampedTotal (carriedRecords count items) = 0 then .ok else .okClamped,
                  body := .clampedCount (clampedTotal (carriedRecords count items)) } with
              banks := { s.banks with shadow := (carriedRecords count items).foldl Bank.load s.banks.shadow } }) := by
  refine ⟨fun hbad => ?_, fun before r after h1 h8 hl hsplit hbefore hr => ?_, fun h1 h8 hl hsound => ?_⟩
  · exact h.exec_answered (by simp [MgmtRequest.command]) (State.loadPools_of_fault (loadFault_of_bad hbad))
  · refine h.exec_answered (by simp [MgmtRequest.command]) (State.loadPools_of_fault ?_)
    rw [loadFault_of_whole h1 h8 hl, hsplit, findIdx?_append_cons hbefore hr, Option.map_some]
  · have hnone : loadFault count items = none := by
      rw [loadFault_of_whole h1 h8 hl, List.findIdx?_eq_none_iff.2 hsound, Option.map_none]
    refine (h.exec_act (by simp [MgmtRequest.command])).trans (congrArg Outcome.next ((State.loadPools_of_sound hnone).trans ?_))
    exact h.answer_unraised
      (u := (s.managed f).setBanks { s.banks with shadow := (carriedRecords count items).foldl Bank.load s.banks.shadow }) rfl rfl rfl _

/-- Settles O51: what a message carries, the faults of a record, and the three requests. -/
theorem loadingRequestsWriteShadow : Obligations.LoadingRequestsWriteShadow := by
  unfold Obligations.LoadingRequestsWriteShadow
  refine ⟨fun count i items hi => ⟨?_, ?_⟩, fun r => ⟨CarriedRecord.atFault_iff, fun hf hsound => ?_, r.clamps_eq⟩,
    fun f k s => ⟨fun count items h => ?_, fun count items h => ⟨fun hbad => ?_, fun before r after h1 h32 hl hsplit hbefore hr => ?_,
      fun h1 h32 hl hsound => ?_⟩, fun h => ?_⟩⟩
  · simp only [carriedRecords_getElem? items hi, carriedRecord, field_drop, wordAt_drop, Nat.add_zero]
  · simp only [carriedRanges_getElem? items hi, carriedRange, field_drop, wordAt_drop, Nat.add_zero]
  · have hn : ¬r.Faulty := fun hfault => by simp [CarriedRecord.atFault_iff.2 ⟨hf, .inr hfault⟩] at hsound
    rw [CarriedRecord.taken_of_sound hn]
    simp only [clamp, Nat.zero_max]
  · obtain ⟨hbad, hfault, hloads⟩ := h.loadPools
    refine ⟨hbad, hfault, fun h1 h8 hl hsound => ⟨_, _, hloads h1 h8 hl hsound, ?_, rfl, fun before r after hsplit hafter => ?_,
      fun p hp => Bank.get?_loadAll_other hsound hp _⟩⟩
    · have hshadow : { s.banks.shadow with records := ((carriedRecords count items).foldl Bank.load s.banks.shadow).records } =
          (carriedRecords count items).foldl Bank.load s.banks.shadow :=
        congrArg (fun x => { ((carriedRecords count items).foldl Bank.load s.banks.shadow) with ranges := x })
          (Bank.ranges_loadAll (carriedRecords count items) s.banks.shadow).symm
      simp only [hshadow]
      rfl
    · simp only [hsplit] at hsound ⊢
      exact Bank.get?_loadAll_last hsound hafter _
  · exact h.exec_answered (by simp [MgmtRequest.command]) (State.loadGroups_of_fault (groupFault_of_bad hbad))
  · refine h.exec_answered (by simp [MgmtRequest.command]) (State.loadGroups_of_fault ?_)
    rw [groupFault_of_whole h1 h32 hl, hsplit,
      findIdx?_append_cons (fun x hx => by simpa using hbefore x hx) (by simpa using hr), Option.map_some]
  · have hnone : groupFault count items = none := by
      rw [groupFault_of_whole h1 h32 hl, List.findIdx?_eq_none_iff.2 (fun x hx => by simpa using hsound x hx), Option.map_none]
    refine ⟨fun hfull => h.exec_answered (by simp [MgmtRequest.command]) ?_, fun hroom => ?_⟩
    · change (s.managed f).loadGroups k count items = _
      simp only [State.loadGroups, hnone]
      exact if_pos hfull
    · have hact : (s.managed f).loadGroups k count items =
          ((s.managed f).setBanks
            { s.banks with
              shadow := { s.banks.shadow with ranges := s.banks.shadow.ranges ++ carriedRanges count items } }).answerOk k .loadGroups
            (.rangeCount (s.banks.shadow.ranges.length + count)) := by
        simp only [State.loadGroups, hnone]
        exact if_neg (Nat.not_lt.2 hroom)
      refine (h.exec_act (by simp [MgmtRequest.command])).trans (congrArg Outcome.next (hact.trans ?_))
      exact h.answer_unraised
        (u := (s.managed f).setBanks
          { s.banks with
            shadow := { s.banks.shadow with ranges := s.banks.shadow.ranges ++ carriedRanges count items } }) rfl rfl rfl _
  · refine (h.exec_act (by simp [MgmtRequest.command])).trans (congrArg Outcome.next ?_)
    exact h.answer_unraised (u := (s.managed f).setBanks { s.banks with shadow := Bank.blank }) rfl rfl rfl _

end Machine
end Sys2Proof
end

section
/-! PROOFS. What a request that raises events or lets accounts respond leaves of the Service Port, and the response of one account
(R23, R31, R32, R184; log 16). -/

namespace Sys2Proof.Machine

open Host

variable {s t u : State} {f : Frame} {k : Key} {r : MgmtRequest}

/-! ### Notices held back behind the reply (R184; log 16) -/

/-- While a request is carried out the Service Port stays as it was, and notices alone join those held back. -/
def HeldBack (s t : State) : Prop :=
  ∀ l, s.deferred = some l →
    t.svc = s.svc ∧ ∃ notices, (∀ x ∈ notices, UpEntry.isNotice x = true) ∧ t.deferred = some (l ++ notices)

theorem HeldBack.of_kept (hs : t.svc = s.svc) (hd : t.deferred = s.deferred) : HeldBack s t := fun l h =>
  ⟨hs, [], by simp, by rw [hd, h, List.append_nil]⟩

theorem HeldBack.refl (s : State) : HeldBack s s := .of_kept rfl rfl

theorem HeldBack.trans (h1 : HeldBack s t) (h2 : HeldBack t u) : HeldBack s u := fun l h => by
  obtain ⟨hst, n1, hn1, hd1⟩ := h1 l h
  obtain ⟨htu, n2, hn2, hd2⟩ := h2 _ hd1
  exact ⟨htu.trans hst, n1 ++ n2, fun x hx => (List.mem_append.1 hx).elim (hn1 x) (hn2 x), by rw [hd2, List.append_assoc]⟩

theorem HeldBack.foldl {α : Type} {g : State → α → State} (l : List α) (h : ∀ s, ∀ a ∈ l, HeldBack s (g s a)) (s : State) :
    HeldBack s (l.foldl g s) := by
  induction l generalizing s with
  | nil => exact .refl s
  | cons a l ih => exact (h s a List.mem_cons_self).trans (ih (fun s b hb => h s b (List.mem_cons_of_mem _ hb)) _)

theorem State.raise_heldBack (s : State) (e : Event) : HeldBack s (s.raise e) := fun l h => by
  obtain ⟨notices, hn, heq⟩ := s.raise_held e h
  exact ⟨by rw [heq], notices, hn, by rw [heq]⟩

theorem State.accountAsks_heldBack (s : State) (p : Nat) : HeldBack s (s.accountAsks p) := .of_kept (by simp) (by simp)

theorem State.reevaluate_heldBack (s : State) (p : Nat) : HeldBack s (s.reevaluate p) := by
  simp only [State.reevaluate]
  split
  · split
    · exact .refl s
    · refine HeldBack.trans ?_ (State.raise_heldBack _ _)
      exact .of_kept rfl rfl
  · split
    · refine HeldBack.trans ?_ (State.accountAsks_heldBack _ _)
      exact .of_kept rfl rfl
    · exact .refl s

theorem State.respond_heldBack (before s : State) (p : Nat) : HeldBack s (State.respond before p s) := by
  simp only [State.respond]
  split
  · exact (s.reevaluate_heldBack p).trans (State.accountAsks_heldBack _ _)
  · exact s.reevaluate_heldBack p

theorem State.toFarm_heldBack (s : State) (a : Addrs) (k : Key) (b : FarmBody) : HeldBack s (s.toFarm a k b) :=
  .of_kept (by simp) (by simp)

theorem State.dismiss_heldBack (s : State) (b : FarmBody) (e : WaitEntry) : HeldBack s (s.dismiss b e) :=
  (HeldBack.of_kept (by simp) (by simp)).trans (State.toFarm_heldBack _ _ _ _)

theorem State.dismissAll_heldBack (s : State) (b : FarmBody) (es : List WaitEntry) : HeldBack s (s.dismissAll b es) :=
  .foldl es (fun s e _ => s.dismiss_heldBack b e) s

theorem State.applyToPool_heldBack (before s : State) (p : Nat) : HeldBack s (State.applyToPool before p s) := by
  have hlimited := (State.respond_heldBack before s p).trans
    (State.dismissAll_heldBack (State.respond before p s) .withdrawn
      (((State.respond before p s).poolQueue p).drop ((State.respond before p s).record p).queueLimit))
  simp only [State.applyToPool]
  split
  · exact hlimited
  · refine hlimited.trans ?_
    simp only [State.denyEnded]
    split
    · exact State.dismissAll_heldBack _ _ _
    · exact .refl _

theorem State.applySwitch_heldBack (s : State) : HeldBack s s.applySwitch := by
  have hexchanged : HeldBack s (s.setBanks s.banks.switched).clearReassign := .of_kept (by simp) (by simp)
  exact (hexchanged.trans (.foldl _ (fun t p _ => State.applyToPool_heldBack s t p) _)).trans (State.raise_heldBack _ _)

/-- The answer to a request whose work was held back. -/
theorem Manages.answered (h : Manages s f k r) (hu : HeldBack (s.managed f) u) (hp : u.mgmt.params = s.mgmt.params) (q : MgmtReply) :
    Answered s (u.answerMgmt k q) f k q ∧
      u.answerMgmt k q =
        { u with svc := (u.answerMgmt k q).svc, reserved := s.reserved, deferred := s.deferred } := by
  obtain ⟨_, ⟨hreserved, hdeferred⟩, _⟩ := h
  rw [hreserved, hdeferred]
  exact State.answerMgmt_answered s u f k q (hu [] rfl).1 hp

/-- The reply of a request that sent entries before it and raised nothing. -/
theorem Manages.answer_sent (h : Manages s f k r) {sent : List UpEntry} (hsvc : u.svc = s.svc.took f sent)
    (hp : u.mgmt.params.seatType = s.mgmt.params.seatType) (hd : u.deferred = some []) (q : MgmtReply) :
    u.answerMgmt k q =
      { u with
        svc := s.svc.took f (sent ++ [replyTo f s.mgmt.params.seatType k q]), reserved := s.reserved, deferred := s.deferred } := by
  obtain ⟨_, ⟨hreserved, hdeferred⟩, _⟩ := h
  rw [State.answerMgmt_clean k q hd, hreserved, hdeferred]
  cases u
  simp_all [State.pushUp, ServicePort.took, replyTo, State.ownEth, addrsOf, State.setSvc, State.setReserved, State.setDeferred]

/-! ### The response of an account (R23, R31, R32) -/

/-- The response moves the overcommit flag of its pool alone. -/
theorem State.acct_respond (before s : State) (p q : Nat) :
    (State.respond before p s).acct q =
      if p = q then { s.acct p with overcommit := decide (s.effectiveCeiling p < (s.acct p).h) } else s.acct q := by
  rw [← State.acct_reevaluate]
  simp only [State.respond]
  split
  · exact State.acct_congr (by simp) q
  · rfl

@[simp] theorem State.entries_respond (before s : State) (p : Nat) : (State.respond before p s).queues.entries = s.queues.entries := by
  simp only [State.respond]
  split <;> simp

theorem State.ordered_mem_accountAsks {p q : Nat} (h : q ∈ s.queues.marks) : q ∈ (s.accountAsks p).queues.marks :=
  (s.mem_accountAsks p q).2 (.inl h)

theorem State.mem_respond (before : State) {p q : Nat} (h : q ∈ s.queues.marks) : q ∈ (State.respond before p s).queues.marks := by
  simp only [State.respond]
  split
  · exact State.ordered_mem_accountAsks (State.mem_reevaluate h)
  · exact State.mem_reevaluate h

/-- A ceiling that has risen since `before` asks for a pass on its pool, if that is delegated (R32). -/
theorem State.mem_respond_of_rise {before : State} {p : Nat} (hd : (s.acct p).state ≠ .absent)
    (h : before.ceiling p < (State.respond before p s).ceiling p ∨
      before.effectiveCeiling p < (State.respond before p s).effectiveCeiling p) :
    p ∈ (State.respond before p s).queues.marks := by
  have hbanks : ∀ v : State, v.banks = s.banks → v.link = s.link → (∀ q, v.acct q = (s.reevaluate p).acct q) →
      v.ceiling p = (s.reevaluate p).ceiling p ∧ v.effectiveCeiling p = (s.reevaluate p).effectiveCeiling p :=
    fun v hb hl ha => ⟨State.ceiling_congr (by simp [hb]) p (by rw [ha]), State.effectiveCeiling_congr (by simp [hb]) (by simp [hl]) p
      (by rw [ha]) (by rw [ha])⟩
  obtain ⟨hc, he⟩ := hbanks (State.respond before p s) (by simp) (by simp)
    (fun q => by rw [State.acct_respond, State.acct_reevaluate])
  rw [hc, he] at h
  simp only [State.respond, if_pos h]
  refine (State.mem_accountAsks _ _ _).2 (.inr ⟨rfl, ?_⟩)
  simpa [State.delegated, State.acct_reevaluate] using hd

theorem State.eventPending_reevaluate_mono {p : Nat} {e : Event} (h : s.eventPending e = true) :
    (s.reevaluate p).eventPending e = true := by
  have hmod : ∀ g : Account → Account, (s.modAcct p g).eventPending e = true := fun _ => h
  simp only [State.reevaluate]
  split
  · split
    · exact h
    · rw [State.eventPending_raise, hmod, Bool.or_true]
  · split
    · simpa [State.eventPending] using h
    · exact h

theorem State.eventPending_respond_mono (before : State) {p : Nat} {e : Event} (h : s.eventPending e = true) :
    (State.respond before p s).eventPending e = true := by
  have hr := State.eventPending_reevaluate_mono (p := p) h
  simp only [State.respond]
  split
  · simpa [State.eventPending] using hr
  · exact hr

/-- A flag set from clear raises POOL_OVERCOMMIT (R31). -/
theorem State.eventPending_reevaluate {p : Nat} (h : (s.acct p).overcommit = false) (hlt : s.effectiveCeiling p < (s.acct p).h) :
    (s.reevaluate p).eventPending .poolOvercommit = true := by
  rw [State.reevaluate, if_pos hlt, if_neg (by simp [h])]
  simp

theorem State.eventPending_respond {before : State} {p : Nat} (h : (s.acct p).overcommit = false)
    (hlt : s.effectiveCeiling p < (s.acct p).h) : (State.respond before p s).eventPending .poolOvercommit = true := by
  have hr := State.eventPending_reevaluate h hlt
  simp only [State.respond]
  split
  · simpa [State.eventPending] using hr
  · exact hr

end Sys2Proof.Machine
end

section
/-! PROOFS. SWITCH: the four tests, the pools that change, and the three ends (R125 to R127, R129). -/

namespace Sys2Proof.Machine

open Host

variable {s : State} {f : Frame} {k : Key}

/-! ### The second test: a ninth record of one feature (R125) -/

/-- How many records of a table carry a feature code. -/
def featureCount (records : Table PoolRecord) (feature : Nat) : Nat := (records.filter (fun e => decide (e.2.feature = feature))).length

/-- Where more than `n` elements pass a test, one of them stands behind exactly `n`. -/
theorem exists_behind_filter {α : Type} (test : α → Bool) (n : Nat) (l : List α) (h : n < (l.filter test).length) :
    ∃ before a after, l = before ++ a :: after ∧ test a = true ∧ (before.filter test).length = n := by
  induction l generalizing n with
  | nil => simp at h
  | cons a l ih =>
    by_cases ha : test a = true
    · cases n with
      | zero => exact ⟨[], a, l, rfl, ha, rfl⟩
      | succ n =>
        obtain ⟨before, b, after, rfl, hb, hn⟩ := ih n (by simpa [List.filter_cons, ha] using h)
        exact ⟨a :: before, b, after, rfl, hb, by simp [ha, hn]⟩
    · obtain ⟨before, b, after, rfl, hb, hn⟩ := ih n (by simpa [List.filter_cons, ha] using h)
      exact ⟨a :: before, b, after, rfl, hb, by simp [ha, hn]⟩

/-- No record of a run stands behind eight of its feature, those in `seen` coming before the run. -/
def NoNinth (seen : List Nat) (records : Table PoolRecord) : Prop :=
  ∀ before q x after, records = before ++ (q, x) :: after →
    (seen.filter (fun f => decide (f = x.feature))).length + featureCount before x.feature < 8

theorem featureCount_shift (seen : List Nat) (e : Nat × PoolRecord) (before : Table PoolRecord) (feature : Nat) :
    ((e.2.feature :: seen).filter (fun f => decide (f = feature))).length + featureCount before feature =
      (seen.filter (fun f => decide (f = feature))).length + featureCount (e :: before) feature := by
  by_cases hx : e.2.feature = feature
  · simp only [featureCount, List.filter_cons, hx, decide_true, if_true, List.length_cons]
    omega
  · simp [featureCount, hx]

theorem noNinth_cons {seen : List Nat} {e : Nat × PoolRecord} {records : Table PoolRecord} :
    NoNinth seen (e :: records) ↔
      (seen.filter (fun f => decide (f = e.2.feature))).length < 8 ∧ NoNinth (e.2.feature :: seen) records := by
  refine ⟨fun h => ⟨?_, fun before q x after hsplit => ?_⟩, fun ⟨h0, h⟩ before q x after hsplit => ?_⟩
  · simpa [featureCount] using h [] e.1 e.2 records rfl
  · rw [featureCount_shift]
    exact h (e :: before) q x after (by rw [hsplit, List.cons_append])
  · cases before with
    | nil =>
      obtain ⟨rfl, -⟩ := List.cons.inj hsplit
      simpa [featureCount] using h0
    | cons b before =>
      obtain ⟨rfl, hrest⟩ := List.cons.inj hsplit
      rw [← featureCount_shift]
      exact h before q x after hrest

theorem ninthPool_of_split {seen : List Nat} {before after : Table PoolRecord} {p : Nat} {r : PoolRecord} (hb : NoNinth seen before)
    (hr : 8 ≤ (seen.filter (fun f => decide (f = r.feature))).length + featureCount before r.feature) :
    ninthPool seen (before ++ (p, r) :: after) = some p := by
  induction before generalizing seen with
  | nil => exact if_pos (by simpa [featureCount, Config.poolsPerFeature] using hr)
  | cons e before ih =>
    obtain ⟨h0, hb⟩ := noNinth_cons.1 hb
    have hlt : ¬Config.poolsPerFeature ≤ (seen.filter (fun f => decide (f = e.2.feature))).length := Nat.not_le.2 h0
    rw [List.cons_append, ninthPool, if_neg hlt]
    exact ih hb (by rwa [featureCount_shift])

theorem ninthPool_split {seen : List Nat} {records : Table PoolRecord} {p : Nat} (h : ninthPool seen records = some p) :
    ∃ before r after, records = before ++ (p, r) :: after ∧ NoNinth seen before ∧
      8 ≤ (seen.filter (fun f => decide (f = r.feature))).length + featureCount before r.feature := by
  induction records generalizing seen with
  | nil => simp [ninthPool] at h
  | cons e records ih =>
    obtain ⟨q, r⟩ := e
    rw [ninthPool] at h
    split at h
    · next hle =>
      cases h
      exact ⟨[], r, records, rfl, by simp [NoNinth], by simpa [featureCount, Config.poolsPerFeature] using hle⟩
    · next hlt =>
      obtain ⟨before, x, after, rfl, hb, hx⟩ := ih h
      exact ⟨(q, r) :: before, x, after, rfl, noNinth_cons.2 ⟨Nat.not_le.1 hlt, hb⟩, by rwa [← featureCount_shift]⟩

theorem ninthPool_eq_some_iff {records : Table PoolRecord} {p : Nat} : ninthPool [] records = some p ↔ NinthAt records p := by
  constructor
  · intro h
    obtain ⟨before, r, after, rfl, hb, hr⟩ := ninthPool_split h
    have hno : ∀ before' q x after', before = before' ++ (q, x) :: after' → featureCount before' x.feature < 8 :=
      fun before' q x after' hs => by simpa [featureCount] using hb before' q x after' hs
    refine ⟨before, r, after, rfl, ?_, hno⟩
    refine Classical.byContradiction fun hne => ?_
    have hlt : 8 < featureCount before r.feature := by
      have : 8 ≤ featureCount before r.feature := by simpa using hr
      exact Nat.lt_of_le_of_ne this (Ne.symm hne)
    obtain ⟨before', ⟨q, x⟩, after', hs, hx, hn⟩ := exists_behind_filter _ 8 before hlt
    have hf : x.feature = r.feature := by simpa using hx
    have := hno before' q x after' hs
    rw [hf, featureCount, hn] at this
    omega
  · rintro ⟨before, r, after, rfl, hr, hb⟩
    exact ninthPool_of_split (fun before' q x after' hs => by simpa [featureCount] using hb before' q x after' hs) (by simpa [featureCount] using Nat.le_of_eq hr.symm)

/-! ### The third test: ranges that share a node (R125) -/

theorem NodeRange.overlaps_iff {a b : NodeRange} : a.overlaps b = true ↔ ∃ node, a.Has node ∧ b.Has node := by
  rw [NodeRange.overlaps, decide_eq_true_iff]
  constructor
  · rintro ⟨ha, hb, hab, hba⟩
    rcases Nat.le_total a.low.toNat b.low.toNat with h | h
    · exact ⟨b.low, ⟨h, hba⟩, ⟨Nat.le_refl _, hb⟩⟩
    · exact ⟨a.low, ⟨Nat.le_refl _, ha⟩, ⟨h, hab⟩⟩
  · rintro ⟨node, ⟨ha1, ha2⟩, ⟨hb1, hb2⟩⟩
    omega

/-- No range of a run overlaps one that comes before it, in `seen` or in the run. -/
def NoOverlap (seen ranges : List NodeRange) : Prop :=
  ∀ before y after, ranges = before ++ y :: after → ∀ x, x ∈ seen ∨ x ∈ before → ¬x.overlaps y = true

theorem noOverlap_cons {seen : List NodeRange} {r : NodeRange} {ranges : List NodeRange} :
    NoOverlap seen (r :: ranges) ↔ (∀ x ∈ seen, ¬x.overlaps r = true) ∧ NoOverlap (r :: seen) ranges := by
  refine ⟨fun h => ⟨fun x hx => h [] r ranges rfl x (.inl hx), fun before y after hsplit x hx => ?_⟩,
    fun ⟨h0, h⟩ before y after hsplit x hx => ?_⟩
  · refine h (r :: before) y after (by rw [hsplit, List.cons_append]) x ?_
    simpa [or_assoc, or_left_comm] using hx
  · cases before with
    | nil =>
      obtain ⟨rfl, -⟩ := List.cons.inj hsplit
      exact h0 x (by simpa using hx)
    | cons b before =>
      obtain ⟨rfl, hrest⟩ := List.cons.inj hsplit
      exact h before y after hrest x (by simpa [or_assoc, or_left_comm] using hx)

theorem firstOverlap_of_split {n : Nat} {seen before after : List NodeRange} {r x : NodeRange} (hb : NoOverlap seen before)
    (hx : x ∈ seen ∨ x ∈ before) (hxr : x.overlaps r = true) :
    firstOverlap n seen (before ++ r :: after) = some (n + before.length) := by
  induction before generalizing n seen with
  | nil => exact if_pos (List.any_eq_true.2 ⟨x, by simpa using hx, hxr⟩)
  | cons b before ih =>
    obtain ⟨h0, hb⟩ := noOverlap_cons.1 hb
    have hany : ¬seen.any (fun y => y.overlaps b) = true := fun h => by
      obtain ⟨y, hy, hyb⟩ := List.any_eq_true.1 h
      exact h0 y hy hyb
    rw [List.cons_append, firstOverlap, if_neg hany, ih hb (by simpa [or_assoc, or_left_comm] using hx), List.length_cons,
      Nat.add_right_comm, Nat.add_assoc]

theorem firstOverlap_split {n m : Nat} {seen ranges : List NodeRange} (h : firstOverlap n seen ranges = some m) :
    ∃ before r after, ranges = before ++ r :: after ∧ m = n + before.length ∧ NoOverlap seen before ∧
      ∃ x, (x ∈ seen ∨ x ∈ before) ∧ x.overlaps r = true := by
  induction ranges generalizing n seen with
  | nil => simp [firstOverlap] at h
  | cons r ranges ih =>
    rw [firstOverlap] at h
    split at h
    · next hany =>
      cases h
      obtain ⟨x, hx, hxr⟩ := List.any_eq_true.1 hany
      exact ⟨[], r, ranges, rfl, rfl, by simp [NoOverlap], x, .inl hx, hxr⟩
    · next hany =>
      obtain ⟨before, y, after, rfl, rfl, hb, x, hx, hxy⟩ := ih h
      refine ⟨r :: before, y, after, rfl, by rw [List.length_cons]; omega, noOverlap_cons.2 ⟨fun z hz hzr => ?_, hb⟩, x, ?_, hxy⟩
      · exact hany (List.any_eq_true.2 ⟨z, hz, hzr⟩)
      · simpa [or_assoc, or_left_comm] using hx

theorem firstOverlap_eq_some_iff {ranges : List NodeRange} {n : Nat} : firstOverlap 1 [] ranges = some n ↔ OverlapAt ranges n := by
  constructor
  · intro h
    obtain ⟨before, r, after, rfl, rfl, hb, x, hx, hxr⟩ := firstOverlap_split h
    refine ⟨before, r, after, rfl, Nat.add_comm _ _, ⟨x, by simpa using hx, NodeRange.overlaps_iff.1 hxr⟩,
      fun before' y after' hs z hz node hn => ?_⟩
    exact hb before' y after' hs z (.inr hz) (NodeRange.overlaps_iff.2 ⟨node, hn⟩)
  · rintro ⟨before, r, after, rfl, rfl, ⟨x, hx, node, hn⟩, hb⟩
    rw [Nat.add_comm]
    refine firstOverlap_of_split (fun before' y after' hs z hz hzy => ?_) (.inr hx) (NodeRange.overlaps_iff.2 ⟨node, hn⟩)
    obtain ⟨m, hm⟩ := NodeRange.overlaps_iff.1 hzy
    exact hb before' y after' hs z (by simpa using hz) m hm

/-! ### The pools that change, and the fourth test (R125) -/

theorem State.featureChanges_iff (p : Nat) :
    s.FeatureChanges p ↔ (s.banks.active.getD Bank.blank).featureOf p ≠ s.banks.shadow.featureOf p := by
  rw [State.FeatureChanges, Bank.featureOf, Bank.featureOf]
  cases s.banks.active <;> rfl

theorem Bank.featureOf_unlisted {b : Bank} {p : Nat} (h : ∀ e ∈ b.records, e.1 ≠ p) : b.featureOf p = 0 := by
  rw [Bank.featureOf]
  cases hg : Table.get? b.records p with
  | none => rfl
  | some r => exact absurd rfl (h _ (Table.get?_mem hg))

theorem State.mem_changedPools (p : Nat) : p ∈ s.changedPools ↔ s.FeatureChanges p := by
  rw [State.featureChanges_iff]
  simp only [State.changedPools, List.mem_filter, decide_eq_true_iff, and_iff_right_iff_imp]
  intro h
  refine (mem_foldl_insertNat id _ [] p).2 (.inr ?_)
  refine Classical.byContradiction fun hn => ?_
  have hun : ∀ e ∈ (s.banks.active.getD Bank.blank).records ++ s.banks.shadow.records, e.1 ≠ p := fun e he hp =>
    hn ⟨p, List.mem_map.2 ⟨e, he, hp⟩, rfl⟩
  exact h ((Bank.featureOf_unlisted fun e he => hun e (List.mem_append_left _ he)).trans
    (Bank.featureOf_unlisted fun e he => hun e (List.mem_append_right _ he)).symm)

theorem State.changedPools_rising (s : State) : s.changedPools.Pairwise (· < ·) :=
  (rising_foldl_insertNat id _ List.Pairwise.nil).filter _

/-- The first number of a rising list that passes a test is the least that does. -/
theorem find?_rising_iff {l : List Nat} (h : l.Pairwise (· < ·)) {test : Nat → Bool} {p : Nat} :
    l.find? test = some p ↔ p ∈ l ∧ test p = true ∧ ∀ q, q < p → q ∈ l → ¬test q = true := by
  induction l with
  | nil => simp
  | cons a l ih =>
    obtain ⟨ha, hl⟩ := List.pairwise_cons.1 h
    rw [List.find?_cons]
    by_cases hta : test a = true
    · simp only [hta, Option.some.injEq, List.mem_cons]
      refine ⟨?_, fun ⟨hp, _, hmin⟩ => ?_⟩
      · rintro rfl
        refine ⟨.inl rfl, hta, fun q hq hm => ?_⟩
        rcases hm with rfl | hm
        · exact absurd hq (Nat.lt_irrefl _)
        · exact absurd (ha q hm) (Nat.lt_asymm hq)
      · rcases hp with hp | hp
        · exact hp.symm
        · exact absurd hta (hmin a (ha p hp) (.inl rfl))
    · simp only [Bool.not_eq_true] at hta
      simp only [hta, ih hl, List.mem_cons]
      refine ⟨fun ⟨hp, htp, hmin⟩ => ⟨.inr hp, htp, fun q hq hm => ?_⟩, fun ⟨hp, htp, hmin⟩ => ⟨?_, htp, fun q hq hm => hmin q hq (.inr hm)⟩⟩
      · rcases hm with rfl | hm
        · simp [hta]
        · exact hmin q hq hm
      · rcases hp with rfl | hp
        · simp [hta] at htp
        · exact hp

theorem Account.untouched_iff (a : Account) : a.untouched = true ↔ a.state = .absent ∧ a.holdCount = 0 ∧ a.queueLength = 0 :=
  decide_eq_true_iff

theorem State.reassigned_eq_some_iff {p : Nat} :
    s.changedPools.find? (fun q => !(s.acct q).untouched) = some p ↔ s.ReassignedAt p := by
  rw [find?_rising_iff s.changedPools_rising]
  simp only [State.mem_changedPools, State.ReassignedAt, ← Account.untouched_iff, Bool.not_eq_true', Bool.not_eq_true, Bool.not_eq_false]

/-- The four tests in their order (R125). -/
theorem State.switchFailure_cases (s : State) (expected : Nat) :
    (s.banks.shadow.records.length ≠ expected →
        s.switchFailure expected = some { test := .recordCount, item := s.banks.shadow.records.length }) ∧
      (s.banks.shadow.records.length = expected →
        (∀ p, NinthAt s.banks.shadow.records p → s.switchFailure expected = some { test := .matchSetSize, item := p }) ∧
          ((∀ p, ¬NinthAt s.banks.shadow.records p) →
            (∀ n, OverlapAt s.banks.shadow.ranges n →
              s.switchFailure expected = some { test := .rangeOverlap, item := n }) ∧
              ((∀ n, ¬OverlapAt s.banks.shadow.ranges n) →
                (∀ p, s.ReassignedAt p → s.switchFailure expected = some { test := .reassignment, item := p }) ∧
                  ((∀ p, ¬s.ReassignedAt p) → s.switchFailure expected = none)))) := by
  refine ⟨fun h => if_pos h, fun h => ⟨fun p hp => ?_, fun hp => ⟨fun n hn => ?_, fun hn => ⟨fun q hq => ?_, fun hq => ?_⟩⟩⟩⟩
  all_goals rw [State.switchFailure, if_neg (Classical.not_not.2 h)]
  · rw [ninthPool_eq_some_iff.2 hp]
  · rw [Option.eq_none_iff_forall_ne_some.2 fun p h => hp p (ninthPool_eq_some_iff.1 h), firstOverlap_eq_some_iff.2 hn]
  · rw [Option.eq_none_iff_forall_ne_some.2 fun p h => hp p (ninthPool_eq_some_iff.1 h),
      Option.eq_none_iff_forall_ne_some.2 fun n h => hn n (firstOverlap_eq_some_iff.1 h), State.reassigned_eq_some_iff.2 hq]
  · rw [Option.eq_none_iff_forall_ne_some.2 fun p h => hp p (ninthPool_eq_some_iff.1 h),
      Option.eq_none_iff_forall_ne_some.2 fun n h => hn n (firstOverlap_eq_some_iff.1 h),
      Option.eq_none_iff_forall_ne_some.2 fun q h => hq q (State.reassigned_eq_some_iff.1 h)]

/-! ### The three ends (R126, R127, R129) -/

theorem State.switchFailure_congr {t : State} (hb : t.banks = s.banks) (ha : t.accounts = s.accounts) (expected : Nat) :
    t.switchFailure expected = s.switchFailure expected := by
  simp only [State.switchFailure, State.changedPools, State.acct, hb, ha]

theorem State.acct_clearReassign (h : AccountsListed s) (p : Nat) : s.clearReassign.acct p = { s.acct p with reassign := false } :=
  State.acct_restatAll h rfl p

theorem State.acct_markReassign (ps : List Nat) (s : State) (p : Nat) :
    (s.markReassign ps).acct p = if p ∈ ps then { s.acct p with reassign := true } else s.acct p := by
  induction ps generalizing s with
  | nil => simp [State.markReassign]
  | cons q ps ih =>
    have hcons : s.markReassign (q :: ps) = (s.modAcct q (fun a => { a with reassign := true })).markReassign ps := rfl
    rw [hcons, ih, State.acct_modAcct]
    by_cases hq : q = p
    · subst hq; by_cases hm : q ∈ ps <;> simp [hm]
    · by_cases hm : p ∈ ps <;> simp [hm, hq, Ne.symm hq]

theorem State.acct_makePending (h : AccountsListed s) (expected p : Nat) :
    (s.makePending expected).acct p = { s.acct p with reassign := decide (p ∈ s.changedPools) } := by
  have hset : (s.makePending expected).acct p = (s.clearReassign.markReassign s.changedPools).acct p := rfl
  rw [hset, State.acct_markReassign, State.acct_clearReassign h]
  split <;> rename_i hm <;> simp [hm]

theorem State.markReassign_only (ps : List Nat) (s : State) :
    s.markReassign ps = { s with accounts := (s.markReassign ps).accounts } := by
  induction ps generalizing s with
  | nil => rfl
  | cons q ps ih => exact ih (s.modAcct q (fun a => { a with reassign := true }))

theorem State.makePending_only (s : State) (expected : Nat) :
    s.makePending expected =
      { s with
        banks := { s.banks with pendingSwitch := some { expected, held := none } }, accounts := (s.makePending expected).accounts } := by
  rw [State.makePending, State.markReassign_only]
  rfl

theorem State.applySwitch_empty (ha : s.accounts = []) : s.applySwitch = (s.setBanks s.banks.switched).raise .bankSwitched := by
  have hclear : (s.setBanks s.banks.switched).clearReassign = s.setBanks s.banks.switched := by
    cases s
    cases ha
    rfl
  have hnone : (s.setBanks s.banks.switched).livePools = [] := by simp [State.livePools, ha]
  simp only [State.applySwitch, hclear, hnone, List.foldl_nil]

@[simp] theorem State.banks_applySwitch (s : State) : s.applySwitch.banks = s.banks.switched := by simp [State.applySwitch]

/-- Settles O52: the tests by their characterisations, and the act of each end. -/
theorem switchIsRefusedAppliedOrPending : Obligations.SwitchIsRefusedAppliedOrPending := by
  unfold Obligations.SwitchIsRefusedAppliedOrPending
  intro f k expected s h hl
  have hfail : (s.managed f).switchFailure expected = s.switchFailure expected := State.switchFailure_congr rfl rfl expected
  obtain ⟨hcount, htests⟩ := s.switchFailure_cases expected
  refine ⟨hcount, htests, s.changedPools_rising, s.mem_changedPools, fun failure hf => ?_, fun hnone ha => ?_, fun active hnone ha => ?_⟩
  · refine h.exec_answered (by simp [MgmtRequest.command]) ?_
    change (s.managed f).takeSwitch k expected = _
    simp only [State.takeSwitch, hfail, hf]
  · have hact : (s.managed f).takeSwitch k expected =
        ((s.managed f).applySwitch.setMode .serving).answerOk k .switch .switchApplied := by
      have ham : (s.managed f).banks.active = none := ha
      simp only [State.takeSwitch, hfail, hnone, ham]
    have hheld : HeldBack (s.managed f) ((s.managed f).applySwitch.setMode .serving) :=
      (State.applySwitch_heldBack _).trans (.of_kept rfl rfl)
    obtain ⟨hans, honly⟩ := h.answered (q := { kind := .switch, status := .ok, body := .switchApplied }) hheld (by simp)
    refine ⟨_, (h.exec_act (by simp [MgmtRequest.command])).trans (congrArg Outcome.next hact), hans, ?_⟩
    simp only [State.answerOk]
    refine ⟨by simp, by simp [Banks.switched], ?_, by simp, by simp, by simp, by simp, fun hacc _ => ?_⟩
    · have hp : (s.managed f).applySwitch.eventPending .bankSwitched = true := by simp [State.applySwitch]
      simpa [State.eventPending] using hp
    · rw [State.applySwitch_empty (s := s.managed f) hacc]
      simp [hacc]
  · have ham : (s.managed f).banks.active = some active := ha
    have hchanged : (s.managed f).changedPools = s.changedPools := rfl
    have hact : (s.managed f).takeSwitch k expected =
        ((s.managed f).makePending expected).answerOk k .switch (.switchPending s.changedPools.length) := by
      simp only [State.takeSwitch, hfail, hnone, ham, hchanged]
    have honly := (s.managed f).makePending_only expected
    have hacct := State.acct_makePending (s := s.managed f) hl expected
    refine ⟨_, (h.exec_act (by simp [MgmtRequest.command])).trans (congrArg Outcome.next hact), ?_, fun p => ?_⟩
    · rw [State.answerOk, h.answer_unraised (u := (s.managed f).makePending expected) (by rw [honly]; rfl) (by rw [honly]; rfl)
        (by rw [honly]; rfl)]
      generalize ((s.managed f).makePending expected) = u at honly
      generalize u.accounts = accounts at honly
      rw [honly]
      rfl
    · rw [State.answerOk, State.acct_congr (s := (s.managed f).makePending expected) (by simp), hacct p]
      rfl

end Sys2Proof.Machine
end

section
/-! PROOFS. DELEGATE, CENSUS and EVICT (R76, R77, R100 to R106). -/

namespace Sys2Proof.Machine

open Host

variable {s : State} {f : Frame} {k : Key}

/-! ### Settling (R100) -/

theorem Account.settled_of_present {a : Account} (h : a.state ≠ .absent) :
    a.settled =
      { a with
        state := if a.state = .soleChanged then .sole else a.state, reported := a.h, gap := false, peak := a.h - a.d } := by
  rw [Account.settled]
  split <;> rename_i hs <;> simp_all [Account.overdraftInUse]

theorem Account.settled_of_absent {a : Account} (h : a.state = .absent) : a.settled = a := by rw [Account.settled, h]

theorem Account.settled_settled (a : Account) : a.settled.settled = a.settled := by
  obtain ⟨state⟩ := a
  cases state <;> rfl

theorem State.acct_settlePools (ps : List Nat) (s : State) (p : Nat) :
    (s.settlePools ps).acct p = if p ∈ ps then (s.acct p).settled else s.acct p := by
  induction ps generalizing s with
  | nil => simp [State.settlePools]
  | cons q ps ih =>
    have hcons : s.settlePools (q :: ps) = (s.modAcct q Account.settled).settlePools ps := rfl
    rw [hcons, ih, State.acct_modAcct]
    by_cases hq : q = p
    · subst hq; by_cases hm : q ∈ ps <;> simp [hm, Account.settled_settled]
    · by_cases hm : p ∈ ps <;> simp [hm, hq, Ne.symm hq]

theorem State.settlePools_only (ps : List Nat) (s : State) : s.settlePools ps = { s with accounts := (s.settlePools ps).accounts } := by
  induction ps generalizing s with
  | nil => rfl
  | cons q ps ih => exact ih (s.modAcct q Account.settled)

/-! ### DELEGATE (R101 to R104) -/

theorem modeOf_eq {mode : Nat} (h : mode = 1 ∨ mode = 2) : modeOf mode = some (if mode = 1 then .shared else .sole) := by
  rcases h with rfl | rfl <;> rfl

theorem modeOf_eq_none {mode : Nat} (h : mode ≠ 1 ∧ mode ≠ 2) : modeOf mode = none := by simp [modeOf, h]

/-- An account under a DELEGATE (R100, R102, R103). -/
theorem Account.delegated_eq {a : Account} {m : DelegationState} (d : Nat) (hm : m = .shared ∨ m = .sole) :
    a.delegated d m = { a with state := m, d, reported := a.h, gap := false, peak := a.h - d } := by
  rcases hm with rfl | rfl <;> rfl

section

variable {p d : Nat} {m : DelegationState} (hm : m = .shared ∨ m = .sole)

include hm

/-- The account of a pool that has been given D and a mode, settled, and let respond (R102 to R104). -/
theorem State.acct_delegatePool (s : State) (p d q : Nat) :
    (s.delegatePool p d m).acct q =
      if p = q then
        { s.acct p with
          state := m, d, reported := (s.acct p).h, gap := false, peak := (s.acct p).h - d,
          overcommit := decide ((s.delegatePool p d m).effectiveCeiling p < (s.acct p).h) }
      else s.acct q := by
  have hmod : (s.modAcct p (fun a => a.delegated d m)).acct p =
      { s.acct p with state := m, d, reported := (s.acct p).h, gap := false, peak := (s.acct p).h - d } := by
    rw [State.acct_modAcct, if_pos rfl, Account.delegated_eq d hm]
  have heff : (s.delegatePool p d m).effectiveCeiling p = (s.modAcct p (fun a => a.delegated d m)).effectiveCeiling p :=
    State.effectiveCeiling_congr (by simp [State.delegatePool]) (by simp [State.delegatePool]) p
      (by rw [State.delegatePool, State.acct_respond, if_pos rfl]) (by rw [State.delegatePool, State.acct_respond, if_pos rfl])
  rw [heff, State.delegatePool, State.acct_respond]
  by_cases hq : p = q
  · rw [if_pos hq, if_pos hq, hmod]
  · rw [if_neg hq, if_neg hq, State.acct_modAcct, if_neg hq]

/-- The flag set from clear raises, and a ceiling that rises asks for a pass (R31, R32). -/
theorem State.delegatePool_responds (s : State) (p d : Nat) :
    ((s.acct p).overcommit = false → (s.delegatePool p d m).effectiveCeiling p < (s.acct p).h →
        (s.delegatePool p d m).eventPending .poolOvercommit = true) ∧
      (s.ceiling p < (s.delegatePool p d m).ceiling p ∨ s.effectiveCeiling p < (s.delegatePool p d m).effectiveCeiling p →
        p ∈ (s.delegatePool p d m).queues.marks) := by
  have hmod : (s.modAcct p (fun a => a.delegated d m)).acct p =
      { s.acct p with state := m, d, reported := (s.acct p).h, gap := false, peak := (s.acct p).h - d } := by
    rw [State.acct_modAcct, if_pos rfl, Account.delegated_eq d hm]
  have heff : (s.delegatePool p d m).effectiveCeiling p = (s.modAcct p (fun a => a.delegated d m)).effectiveCeiling p :=
    State.effectiveCeiling_congr (by simp [State.delegatePool]) (by simp [State.delegatePool]) p
      (by rw [State.delegatePool, State.acct_respond, if_pos rfl]) (by rw [State.delegatePool, State.acct_respond, if_pos rfl])
  refine ⟨fun ho hlt => ?_, fun hrise => ?_⟩
  · rw [heff] at hlt
    exact State.eventPending_respond (by rw [hmod]; exact ho) (by rw [hmod]; exact hlt)
  · refine State.mem_respond_of_rise ?_ hrise
    rw [hmod]
    rcases hm with rfl | rfl <;> simp

end

theorem State.delegatePool_heldBack (s : State) (p d : Nat) (m : DelegationState) : HeldBack s (s.delegatePool p d m) := by
  refine HeldBack.trans ?_ (State.respond_heldBack s (s.modAcct p (fun a => a.delegated d m)) p)
  exact .of_kept rfl rfl

section

variable {p d mode : Nat}

theorem State.delegate_of_bad (h : (mode ≠ 1 ∧ mode ≠ 2) ∨ 1024 ≤ p) : s.delegate k p d mode = s.answerBare k .delegate .badRequest := by
  by_cases hm : mode ≠ 1 ∧ mode ≠ 2
  · simp only [State.delegate, modeOf_eq_none hm]
  · have hp : Config.pools ≤ p := h.resolve_left hm
    have hknown : mode = 1 ∨ mode = 2 := by omega
    simp only [State.delegate, modeOf_eq hknown, if_pos hp]

variable (hm : mode = 1 ∨ mode = 2) (hp : p < 1024)

include hm hp

theorem State.delegate_eq :
    s.delegate k p d mode =
      if s.working = false then s.answerBare k .delegate .badState
      else if (s.record? p).isNone then s.answerBare k .delegate .notFound
      else if (s.acct p).reassign then s.answerBare k .delegate .conflict
      else
        (s.delegatePool p d (if mode = 1 then .shared else .sole)).answerOk k .delegate
          ((s.delegatePool p d (if mode = 1 then .shared else .sole)).delegatedBody p) := by
  have hlt : ¬Config.pools ≤ p := Nat.not_le.2 hp
  simp only [State.delegate, modeOf_eq hm, if_neg hlt]

end

/-! ### CENSUS (R105, R106) -/

theorem mem_censusRun {first count p : Nat} : p ∈ censusRun first count ↔ first ≤ p ∧ p < first + min count (1024 - first) := by
  simp only [censusRun, Config.pools, List.mem_map, List.mem_range]
  constructor
  · rintro ⟨i, hi, rfl⟩; omega
  · exact fun ⟨h1, h2⟩ => ⟨p - first, by omega, by omega⟩

/-- The accounts after a CENSUS (R106). -/
theorem State.acct_census (s : State) (first count p : Nat) :
    (if s.settles then s.settlePools (censusRun first (clamp 1 32 count)) else s).acct p =
      if s.settles = true ∧ first ≤ p ∧ p < first + min (min 32 (max 1 count)) (1024 - first) ∧ (s.acct p).state ≠ .absent then
        { s.acct p with
          state := if (s.acct p).state = .soleChanged then .sole else (s.acct p).state, reported := (s.acct p).h, gap := false,
          peak := (s.acct p).h - (s.acct p).d }
      else s.acct p := by
  cases hs : s.settles with
  | false => simp
  | true =>
    have hmem : p ∈ censusRun first (clamp 1 32 count) ↔ first ≤ p ∧ p < first + min (min 32 (max 1 count)) (1024 - first) :=
      mem_censusRun
    simp only [if_true, State.acct_settlePools, hmem, true_and, ← and_assoc]
    by_cases hp : first ≤ p ∧ p < first + min (min 32 (max 1 count)) (1024 - first)
    · by_cases ha : (s.acct p).state = .absent
      · simp only [hp, ha, and_self, if_true, Account.settled_of_absent ha, ne_eq, not_true_eq_false, and_false, if_false]
      · simp only [hp, and_self, if_true, Account.settled_of_present ha, ne_eq, ha, not_false_eq_true]
    · simp only [hp, if_false, false_and]

/-- Settles O53: the tests in their order; DELEGATE by what `delegatePool` leaves, CENSUS by what settling leaves. -/
theorem delegateAndCensusSettle : Obligations.DelegateAndCensusSettle := by
  unfold Obligations.DelegateAndCensusSettle
  refine fun f k s => ⟨fun p d mode h => ⟨fun hbad => ?_, fun hm hp h1 h2 => ?_, fun hm hp hw => ?_⟩,
    fun first count h => ⟨fun hbad => ?_, fun hlt hu => ?_, fun hlt hu => ?_⟩⟩
  · exact h.exec_answered (by simp [MgmtRequest.command]) (State.delegate_of_bad hbad)
  · refine h.exec_answered (by simp [MgmtRequest.command]) ((State.delegate_eq hm hp).trans (if_pos ?_))
    simp [State.working, h1, h2]
  · have hworking : ¬(s.managed f).working = false := by simpa [State.working, Decidable.or_iff_not_imp_left] using hw
    have hact := State.delegate_eq (s := s.managed f) (k := k) (d := d) hm hp
    rw [if_neg hworking] at hact
    refine ⟨fun hr => ?_, fun hr hre => ?_, fun hr hre => ?_⟩
    · refine h.exec_answered (by simp [MgmtRequest.command]) (hact.trans (if_pos ?_))
      exact Option.isNone_iff_eq_none.2 hr
    · refine h.exec_answered (by simp [MgmtRequest.command]) (hact.trans ((if_neg ?_).trans (if_pos hre)))
      exact fun hn => hr (Option.isNone_iff_eq_none.1 hn)
    · have hrecord : ¬((s.managed f).record? p).isNone = true := fun hn => hr (Option.isNone_iff_eq_none.1 hn)
      have hflag : ¬((s.managed f).acct p).reassign = true := by rw [show (s.managed f).acct p = s.acct p from rfl, hre]; simp
      rw [if_neg hrecord, if_neg hflag] at hact
      have hmode : (if mode = 1 then DelegationState.shared else .sole) = .shared ∨
          (if mode = 1 then DelegationState.shared else .sole) = .sole := by split <;> simp
      generalize (if mode = 1 then DelegationState.shared else DelegationState.sole) = m at hact hmode ⊢
      obtain ⟨hpending, hmarks⟩ := State.delegatePool_responds hmode (s.managed f) p d
      have hacct := State.acct_delegatePool hmode (s.managed f) p d
      have hheld := (s.managed f).delegatePool_heldBack p d m
      have hbanks : ((s.managed f).delegatePool p d m).banks = s.banks := by simp [State.delegatePool]
      have hlink : ((s.managed f).delegatePool p d m).link = s.link := by simp [State.delegatePool]
      have hbody : ((s.managed f).delegatePool p d m).delegatedBody p =
          .delegated d (s.acct p).h (s.acct p).holdCount (s.acct p).queueLength := by
        simp only [State.delegatedBody, hacct p, if_true]
        rfl
      rw [hbody] at hact
      obtain ⟨hans, honly⟩ := h.answered (q := { kind := .delegate, status := .ok, body := _ }) hheld (by simp [State.delegatePool])
      refine ⟨_, (h.exec_act (by simp [MgmtRequest.command])).trans (congrArg Outcome.next hact), hans, ?_⟩
      have hsame : ∀ q, (((s.managed f).delegatePool p d m).answerOk k .delegate
          (.delegated d (s.acct p).h (s.acct p).holdCount (s.acct p).queueLength)).acct q =
            ((s.managed f).delegatePool p d m).acct q := fun q => by
        rw [State.answerOk]; exact State.acct_congr (by simp) q
      have heff : (((s.managed f).delegatePool p d m).answerOk k .delegate
          (.delegated d (s.acct p).h (s.acct p).holdCount (s.acct p).queueLength)).effectiveCeiling p =
            ((s.managed f).delegatePool p d m).effectiveCeiling p :=
        State.effectiveCeiling_congr (by simp [State.answerOk]) (by simp [State.answerOk]) p (by rw [hsame]) (by rw [hsame])
      have hceil : (((s.managed f).delegatePool p d m).answerOk k .delegate
          (.delegated d (s.acct p).h (s.acct p).holdCount (s.acct p).queueLength)).ceiling p =
            ((s.managed f).delegatePool p d m).ceiling p := State.ceiling_congr (by simp [State.answerOk]) p (by rw [hsame])
      rw [hsame, heff, hceil]
      refine ⟨(hacct p).trans (if_pos rfl), fun q hq => (hsame q).trans ((hacct q).trans (if_neg (Ne.symm hq))), fun ho hlt => ?_,
        fun hrise => ?_, ?_⟩
      · simpa [State.answerOk, State.eventPending] using hpending ho hlt
      · simpa [State.answerOk] using hmarks hrise
      · simp [State.answerOk, State.delegatePool]
  · exact h.exec_answered (by simp [MgmtRequest.command]) (if_pos hbad)
  · exact h.exec_answered (by simp [MgmtRequest.command]) ((if_neg (Nat.not_le.2 hlt)).trans (if_pos hu))
  · have hact : (s.managed f).census k first count =
        (if (s.managed f).settles then (s.managed f).settlePools (censusRun first (clamp 1 32 count)) else s.managed f).answerMgmt k
          { kind := .census, status := if clamp 1 32 count = count then .ok else .okClamped,
            body := .census ((censusRun first (clamp 1 32 count)).map s.summary) s.settles } :=
      (if_neg (Nat.not_le.2 hlt)).trans (if_neg hu)
    have hacct := (s.managed f).acct_census first count
    have honly : (if (s.managed f).settles then (s.managed f).settlePools (censusRun first (clamp 1 32 count)) else s.managed f) =
        { s.managed f with
          accounts :=
            (if (s.managed f).settles then (s.managed f).settlePools (censusRun first (clamp 1 32 count))
              else s.managed f).accounts } := by
      split
      · exact State.settlePools_only _ _
      · rfl
    generalize (if (s.managed f).settles then (s.managed f).settlePools (censusRun first (clamp 1 32 count)) else s.managed f) = u
      at hact hacct honly
    have hans := h.answer_unraised (u := u) (by rw [honly]; rfl) (by rw [honly]; rfl) (by rw [honly]; rfl)
      { kind := .census, status := if clamp 1 32 count = count then .ok else .okClamped,
        body := .census ((censusRun first (clamp 1 32 count)).map s.summary) s.settles }
    refine ⟨_, _, _, (h.exec_act (by simp [MgmtRequest.command])).trans (congrArg Outcome.next (hact.trans hans)), rfl, rfl, ?_,
      fun p => hacct p⟩
    have hstatus : (if clamp 1 32 count = count then MgmtStatus.ok else .okClamped) =
        if 1 ≤ count ∧ count ≤ 32 then .ok else .okClamped := by
      by_cases hc : 1 ≤ count ∧ count ≤ 32
      · rw [if_pos hc, if_pos (by rw [clamp]; omega)]
      · rw [if_neg hc, if_neg (by rw [clamp]; omega)]
    have hrun : (censusRun first (clamp 1 32 count)).map s.summary =
        (List.range (min (min 32 (max 1 count)) (1024 - first))).map (fun i => s.summary (first + i)) := by
      rw [censusRun, List.map_map]
      rfl
    rw [hstatus, hrun]
    generalize u.accounts = accounts at honly
    rw [honly]
    rfl

end Sys2Proof.Machine
end

section
/-! PROOFS. EVICT, and what a removal leaves of the Service Port while a request is carried out (R67, R76, R77, R109). -/

namespace Sys2Proof.Machine

open Host

variable {s : State} {f : Frame} {k : Key}

/-! ### The report of a removal and the notices held back (R33, R109) -/

/-- A credit in a pool whose overcommit flag is exact holds nothing back (R31). -/
theorem State.deferred_credited (p tokens : Nat) (hx : (s.acct p).overcommit = decide (s.effectiveCeiling p < (s.acct p).h)) :
    ((s.modAcct p (fun a => a.credited tokens)).reevaluate p).deferred = s.deferred := by
  simp only [State.reevaluate]
  rw [State.effectiveCeiling_moved (s := s) (by simp) (by simp) p (by simp [Account.credited]) (by simp [Account.credited])]
  by_cases hlt : s.effectiveCeiling p < (s.acct p).h - tokens
  · have hover : s.effectiveCeiling p < (s.acct p).h := by omega
    simp [Account.credited, hlt, hx, hover]
  · simp only [State.acct_modAcct, if_true, Account.credited, hlt, if_false]
    split <;> simp

/-- The Service Port after a removal is that after the report that its pool's state asks for. -/
theorem State.removeHold_reported (slot : Nat) (hold : Hold) (change : ChangeKind) {v w : State}
    (hv : v = ((s.freeSlot slot).modAcct hold.pool (fun a => a.credited hold.tokens)).reevaluate hold.pool)
    (hw : w = if (s.acct hold.pool).state = .shared then
        v.reportRelease hold.pool change hold (s.handleAt slot) (-(Int.ofNat hold.tokens)) else v) :
    (s.removeHold slot hold change).svc = w.svc ∧ (s.removeHold slot hold change).deferred = w.deferred := by
  have hcredit : (s.freeSlot slot).credit hold.pool change hold (s.handleAt slot) =
      if 0 < hold.tokens then w.accountAsks hold.pool else w := by
    have hacct : (s.freeSlot slot).acct hold.pool = s.acct hold.pool := State.acct_congr (by simp) _
    rw [State.credit, hacct, ← hv, ← hw]
  simp only [State.removeHold, State.slotFreed, hcredit]
  (repeat' split) <;> simp

theorem State.setGap_heldBack (s : State) (p : Nat) : HeldBack s (s.setGap p) := by
  simp only [State.setGap]
  split
  · exact .refl s
  · refine HeldBack.trans ?_ (State.raise_heldBack _ _)
    exact .of_kept rfl rfl

/-- The three ends of a removal at the Service Port: its report, a gap, or nothing. -/
theorem State.removeHold_port (slot : Nat) (hold : Hold) (change : ChangeKind)
    (hx : (s.acct hold.pool).overcommit = decide (s.effectiveCeiling hold.pool < (s.acct hold.pool).h)) :
    ((s.acct hold.pool).state ≠ .shared ∨ s.seatRoom = true →
        (s.removeHold slot hold change).svc = { s.svc with upstream := (s.removeHold slot hold change).svc.upstream } ∧
          (s.removeHold slot hold change).deferred = s.deferred) ∧
      ((s.acct hold.pool).state = .shared → s.seatRoom = false → HeldBack s (s.removeHold slot hold change)) := by
  have hf : ∀ q, (s.freeSlot slot).acct q = s.acct q := fun q => State.acct_congr (by simp) q
  have he : (s.freeSlot slot).effectiveCeiling hold.pool = s.effectiveCeiling hold.pool :=
    State.effectiveCeiling_congr (by simp) (by simp) _ (by rw [hf]) (by rw [hf])
  obtain ⟨hsvc, -⟩ := State.credited_quiet (s.freeSlot slot) hold.pool hold.tokens (by rw [hf, he, hx])
  have hdeferred := State.deferred_credited (s := s.freeSlot slot) hold.pool hold.tokens (by rw [hf, he, hx])
  have hreserved : (((s.freeSlot slot).modAcct hold.pool (fun a => a.credited hold.tokens)).reevaluate hold.pool).reserved =
      s.reserved := by simp
  generalize hv : ((s.freeSlot slot).modAcct hold.pool (fun a => a.credited hold.tokens)).reevaluate hold.pool = v
    at hsvc hdeferred hreserved
  have hsvc : v.svc = s.svc := hsvc.trans (by simp)
  have hdeferred : v.deferred = s.deferred := hdeferred.trans (by simp)
  have hroom : v.seatRoom = s.seatRoom := State.seatRoom_congr (by rw [hsvc]) hreserved
  obtain ⟨hport, hheld⟩ := s.removeHold_reported slot hold change hv.symm rfl
  rw [hport, hheld]
  refine ⟨fun h => ?_, fun hs hr => ?_⟩
  · by_cases hs : (s.acct hold.pool).state = .shared
    · have hr : v.seatRoom = true := hroom.trans (h.resolve_left (Classical.not_not.2 hs))
      rw [if_pos hs, State.reportRelease, if_pos hr]
      simp [State.queueReport, State.pushUp, hsvc, hdeferred]
    · rw [if_neg hs]
      exact ⟨by rw [hsvc], hdeferred⟩
  · have hgap : v.reportRelease hold.pool change hold (s.handleAt slot) (-(Int.ofNat hold.tokens)) = v.setGap hold.pool :=
      if_neg (by simp [hroom, hr])
    rw [if_pos hs, hgap] at hport hheld
    refine HeldBack.trans (.of_kept hsvc hdeferred) (HeldBack.trans (v.setGap_heldBack hold.pool) (.of_kept hport hheld))

/-- The room that seat traffic finds once a request has been taken, a place being kept for the reply (R184; log 16). -/
theorem State.seatRoom_managed (s : State) (f : Frame) :
    (s.managed f).seatRoom = decide (s.seatCount < 992 ∧ s.svc.upstream.length + 1 < 1024) := by
  have hup : (s.managed f).svc.upstream = s.svc.upstream := by simp [ServicePort.took]
  rw [State.seatRoom, State.seatCount, hup]
  rfl

/-! ### EVICT (R76, R77) -/

theorem State.evict_of_refused {handle : Handle} (h : s.mode = .entering ∨ s.mode = .reconciling ∨ s.mode = .faultHold) :
    s.evict k handle = s.answerBare k .evict .badState := if_pos (by simpa [State.reconciling, or_assoc] using h)

theorem State.evict_of_working {handle : Handle} (h : s.mode = .serving ∨ s.mode = .draining ∨ s.mode = .unconfigured) :
    s.evict k handle =
      match s.namedHold handle with
      | none => s.answerBare k .evict .notFound
      | some h =>
        (s.removeHold handle.slot h .evict).answerOk k .evict (.evicted h.pool h.node h.process h.tokens h.state h.useCount) :=
  if_neg (by rcases h with h | h | h <;> simp [State.reconciling, h])

/-- Settles O55: the refusals, and the removal before the reply, by its account and by the Service Port. -/
theorem evictRemovesTheHold : Obligations.EvictRemovesTheHold := by
  unfold Obligations.EvictRemovesTheHold
  intro f k handle s h hx
  refine ⟨fun hm => h.exec_answered (by simp [MgmtRequest.command]) (State.evict_of_refused hm), fun hm hn => ?_, fun hold hm hn => ?_⟩
  · refine h.exec_answered (by simp [MgmtRequest.command]) ((State.evict_of_working (s := s.managed f) hm).trans ?_)
    rw [show (s.managed f).namedHold handle = none from hn]
    rfl
  · have hact : (s.managed f).evict k handle =
        ((s.managed f).removeHold handle.slot hold .evict).answerOk k .evict
          (.evicted hold.pool hold.node hold.process hold.tokens hold.state hold.useCount) := by
      rw [State.evict_of_working (s := s.managed f) hm, show (s.managed f).namedHold handle = some hold from hn]
    have hremoved := State.removeHold_removed (s := s.managed f) handle.slot hold .evict (hx hold.pool)
    have hreports := State.removeHold_reports (s := s.managed f) handle.slot hold .evict (hx hold.pool)
    have hport := State.removeHold_port (s := s.managed f) handle.slot hold .evict (hx hold.pool)
    obtain ⟨hroomed, hgapped⟩ := hport
    obtain ⟨hreported, hgap, hsilent⟩ := hreports
    have hkept : ((s.managed f).removeHold handle.slot hold .evict).mgmt.params = s.mgmt.params := by simp
    have hframe : ((s.managed f).removeHold handle.slot hold .evict).farm = s.farm ∧
        ((s.managed f).removeHold handle.slot hold .evict).banks = s.banks ∧
        ((s.managed f).removeHold handle.slot hold .evict).time = s.time ∧
        ((s.managed f).removeHold handle.slot hold .evict).link = s.link ∧
        ((s.managed f).removeHold handle.slot hold .evict).mode = s.mode := by simp
    have hroom := s.seatRoom_managed f
    refine ⟨_, (h.exec_act (by simp [MgmtRequest.command])).trans (congrArg Outcome.next hact), ?_⟩
    generalize (s.managed f).removeHold handle.slot hold .evict = u at *
    have hsame : ∀ q p, (u.answerMgmt k q).acct p = u.acct p := fun q p => State.acct_congr (by simp) p
    refine ⟨hremoved.congr (by simp [State.answerOk]) (by simp [State.answerOk]) (by simp [State.answerOk]) (by simp [State.answerOk]),
      fun hs => ?_, fun hs h1 h2 => ?_, fun hs hfull => ?_, by simpa [State.answerOk] using hframe⟩
    · obtain ⟨hsvc, hd⟩ := hroomed (.inl hs)
      have htook : u.svc = s.svc.took f [] := by rw [hsvc, hsilent hs]; rfl
      rw [State.answerOk, h.answer_sent htook (by rw [hkept]) (hd.trans rfl)]
      rfl
    · have hr : (s.managed f).seatRoom = true := hroom.trans (by simp [h1, h2])
      obtain ⟨hsvc, hd⟩ := hroomed (.inr hr)
      obtain ⟨hup, hrep, hclear⟩ := hreported hs hr
      have htook : u.svc = s.svc.took f [releaseReport (ethTo f s) s handle.slot hold .evict] := by
        rw [hsvc, hup]
        simp [ServicePort.took]
        rfl
      rw [State.answerOk, hsame, h.answer_sent htook (by rw [hkept]) (hd.trans rfl)]
      exact ⟨rfl, hclear, hrep⟩
    · have hr : (s.managed f).seatRoom = false := hroom.trans (by simpa [Decidable.or_iff_not_imp_left] using hfull)
      obtain ⟨-, hset, -⟩ := hgap hs hr
      rw [State.answerOk, hsame]
      exact ⟨hset, (h.answered (hgapped hs hr) hkept _).1⟩

end Sys2Proof.Machine
end

section
/-! PROOFS. RESTART, power-on and line resets (R79, R183, R193, R194). -/

namespace Sys2Proof.Machine

open Host

variable {s : State} {f : Frame} {k : Key}

theorem exec_restart_of_headRequest {scope : Nat} (h : s.headRequest = some (f, k, .restart scope)) :
    exec .restart s = .next ((s.tookRequest f).restart k scope) := by
  change execRestart s = _
  simp only [execRestart, h, State.takeMessage_service]

/-- The generations after a RESTART DYNAMIC: those of the slots that held a hold are one on (R79). -/
theorem HoldTable.generation_raised {t : HoldTable} (h : Table.Rising t.slots) (slot : Nat) :
    Table.getD t.raised.gens 0 slot =
      if Table.get? t.slots slot = none then Table.getD t.gens 0 slot else (Table.getD t.gens 0 slot + 1) % 32768 := by
  have hfold : ∀ (l : Table Hold) (g : Table Nat), Table.Rising l →
      Table.getD (l.foldl (fun g e => Table.putD g 0 e.1 ((Table.getD g 0 e.1 + 1) % Config.generations)) g) 0 slot =
        if Table.get? l slot = none then Table.getD g 0 slot else (Table.getD g 0 slot + 1) % 32768 := fun l => by
    induction l with
    | nil => intro g _; simp [Table.get?]
    | cons e l ih =>
      intro g hl
      obtain ⟨he, hl⟩ := List.pairwise_cons.1 hl
      rw [List.foldl_cons, ih _ hl, Table.getD_putD]
      by_cases hs : e.1 = slot
      · have hnone : Table.get? l slot = none := Option.eq_none_iff_forall_ne_some.2 fun x hx =>
          absurd (he _ (Table.get?_mem hx)) (by simp [hs])
        simp [hnone, hs, Table.get?, Config.generations]
      · simp [hs, Table.get?]
  exact hfold t.slots t.gens h

section

variable (s : State) (slot : Option UpEntry)

/-- RESTARTED alone is pending once a RESTART DYNAMIC has raised it (R193). -/
theorem State.eventPending_dynamic (e : Event) : ((s.dynamicCleared slot).raise .restarted).eventPending e = decide (e = .restarted) := by
  rw [State.eventPending_raise]
  have hclear : (s.dynamicCleared slot).eventPending e = false := by simp [State.eventPending, State.dynamicCleared]
  rw [hclear, Bool.or_false]

/-- The notice of RESTARTED, which stands alone in the Upstream Queue (R189, R193). -/
theorem State.upstream_dynamic (h : Quiet s) :
    ((s.dynamicCleared slot).raise .restarted).svc =
      { s.svc with
        intake := [], bridge := none, restartSlot := slot, stats := PortStats.zero,
        upstream :=
          if s.mgmt.notify.getLsbD 14 = true then
            [UpEntry.event s.ownEth ((s.dynamicCleared slot).raise .restarted).mgmt.events .restarted s.time.now]
          else [] } := by
  obtain ⟨hreserved, hdeferred⟩ := h
  have hclear : (s.dynamicCleared slot).eventPending .restarted = false := by simp [State.eventPending, State.dynamicCleared]
  by_cases hn : s.mgmt.notify.getLsbD 14 = true
  · have hraise : (s.dynamicCleared slot).raise .restarted = ((s.dynamicCleared slot).flagEvent .restarted).notice .restarted := by
      rw [State.raise, if_neg (by simp [hclear])]
      exact if_pos hn
    have hd : ((s.dynamicCleared slot).flagEvent .restarted).deferred = none := hdeferred
    have hroom : ((s.dynamicCleared slot).flagEvent .restarted).mgmtRoom = true := by
      simp [State.mgmtRoom, State.flagEvent, State.dynamicCleared, hreserved, Config.upstream]
    rw [hraise, if_pos hn]
    simp only [State.notice, hd, State.offerUp, hroom, if_true]
    rfl
  · have hraise : (s.dynamicCleared slot).raise .restarted = (s.dynamicCleared slot).flagEvent .restarted := by
      rw [State.raise, if_neg (by simp [hclear])]
      exact if_neg hn
    rw [hraise, if_neg hn]
    rfl

end

/-- Settles O60: each scope by the state it leaves, and the resets by the state of a power-on. -/
theorem restartsAndResets : Obligations.RestartsAndResets := by
  unfold Obligations.RestartsAndResets
  refine ⟨fun f k scope s h => ⟨_, exec_restart_of_headRequest h, fun hs => ?_, fun hs => ?_, fun h1 h2 => ?_⟩,
    fun s => ⟨⟨_, rfl, rfl, rfl⟩, rfl, fun hr => ?_, fun hr => ?_⟩⟩
  · rw [State.restart, if_pos hs]
    exact ⟨rfl, rfl, rfl, rfl, rfl⟩
  · rw [State.restart, if_neg (by omega), if_pos hs]
    generalize hslot : some ((s.tookRequest f).restartReply k .ok (.scope 2)) = slot
    have honly := ((s.tookRequest f).dynamicCleared slot).raise_only .restarted
    have hpending := (s.tookRequest f).eventPending_dynamic slot
    have hup : Quiet s → _ := fun hq => (s.tookRequest f).upstream_dynamic slot hq
    generalize ((s.tookRequest f).dynamicCleared slot).raise .restarted = t at honly hpending hup ⊢
    have hsvc := congrArg State.svc honly
    have hmgmt := congrArg State.mgmt honly
    have hholds : t.holds = s.holds.raised := congrArg State.holds honly
    have haccounts : t.accounts = [] := congrArg State.accounts honly
    refine ⟨(congrArg ServicePort.restartSlot hsvc).trans hslot.symm, ?_, (congrArg State.banks honly :), fun p => ?_, by rw [hholds]; rfl,
      fun hl n => ?_, (congrArg (fun x => x.queues.entries) honly :), (congrArg (fun x => x.queues.marks) honly :), (congrArg State.fwd honly :),
      (congrArg State.time honly :), (congrArg State.link honly :), (congrArg State.recon honly :), (congrArg Management.params hmgmt :),
      (congrArg Management.notify hmgmt :), hpending, (congrArg Management.stats hmgmt :), (congrArg Management.cause hmgmt :),
      (congrArg State.farm honly :), ?_, fun hq => ?_, (congrArg State.clk honly :), (congrArg State.pending honly :), (congrArg State.resetLow honly :)⟩
    · refine (congrArg State.mode honly).trans ?_
      change (if s.banks.active.isSome then EngineState.serving else .unconfigured) = _
      cases s.banks.active <;> rfl
    · rw [State.acct, haccounts]; rfl
    · rw [State.generation, hholds]
      exact HoldTable.generation_raised hl.1 n
    · generalize t.svc = w at hsvc ⊢
      rw [hsvc]
      rfl
    · rw [hup hq]
      exact ⟨rfl, rfl⟩
  · rw [State.restart, if_neg h1, if_neg h2]
    exact ⟨rfl, rfl⟩
  · change execLineReset false s = _
    simp [execLineReset, hr]
  · refine ⟨_, (?_ : exec (.lineReset false) s = .next ((s.restarted .lineReset none none).setResetLow false)), rfl, rfl⟩
    change execLineReset false s = _
    simp [execLineReset, hr]

end Sys2Proof.Machine
end

section
/-! PROOFS. Engine time: forward steps, rebases, the way out of UNSET, and SET_TIME (R72, R93, R119, R132, R135 to R138, R160). -/

namespace Sys2Proof

theorem Table.get?_map {α : Type} (t : Table α) (g : α → α) (key : Nat) :
    Table.get? (t.map (fun e => (e.1, g e.2))) key = (Table.get? t key).map g := by
  induction t with
  | nil => rfl
  | cons e t ih =>
    obtain ⟨k, v⟩ := e
    rw [List.map_cons, Table.get?, Table.get?, ih]
    split <;> rfl

namespace Machine

open Host

variable {s t : State} {f : Frame} {k : Key}

/-! ### A forward step (R93, R136) -/

theorem State.boundariesOwed_now (s : State) : s.boundariesOwed s.time.now = s.time.epochOwed := if_pos rfl

theorem State.daysOwed_now (s : State) : s.daysOwed s.time.now = s.time.dayOwed := if_pos (.inr rfl)

/-- A step to a time not below engine time, that time itself being a step of nothing. -/
theorem State.stepTo_eq {new : Nat} (h : s.time.now ≤ new) :
    s.stepTo new =
      { s with
        queues :=
          { s.queues with
            entries :=
              s.queues.entries.map (fun e => { e with stepPassed := e.stepPassed || decide (s.time.now < new ∧ e.deadline ≤ new) }) },
        time := { now := new, source := s.time.source, epochOwed := s.boundariesOwed new, dayOwed := s.daysOwed new } } := by
  rw [State.stepTo]
  rcases Nat.lt_or_eq_of_le h with hlt | heq
  · simp only [hlt, true_and]
    rfl
  · subst heq
    rw [if_neg (Nat.lt_irrefl _), s.boundariesOwed_now, s.daysOwed_now]
    simp only [Nat.lt_irrefl, false_and, decide_false, Bool.or_false, List.map_id']

/-! ### A rebase (R72, R93, R119, R132, R160) -/

theorem imageAtEntry_word (image : List Word) {time : Nat} (ht : time ≤ 2 ^ 48 - 1) (hl : 3 ≤ image.length) :
    (imageAtEntry time image).length = image.length ∧ imageWord (imageAtEntry time image) 1 = time / 2 ^ 32 ∧
      imageWord (imageAtEntry time image) 2 = time % 2 ^ 32 ∧ ∀ o, o ≠ 1 → o ≠ 2 → (imageAtEntry time image)[o]? = image[o]? := by
  match image, hl with
  | a :: b :: c :: rest, _ =>
    refine ⟨by simp [imageAtEntry, timeWords], ?_, ?_, fun o h1 h2 => ?_⟩
    · simp only [imageAtEntry, timeWords, imageWord, List.take_succ_cons, List.take_zero, List.cons_append, List.nil_append,
        List.getElem?_cons_succ, List.getElem?_cons_zero, Option.getD_some, BitVec.toNat_ofNat]
      omega
    · simp only [imageAtEntry, timeWords, imageWord, List.take_succ_cons, List.take_zero, List.cons_append, List.nil_append,
        List.getElem?_cons_succ, List.getElem?_cons_zero, Option.getD_some, BitVec.toNat_ofNat]
    · match o, h1, h2 with
      | 0, _, _ => rfl
      | 1, h1, _ => exact absurd rfl h1
      | 2, _, h2 => exact absurd rfl h2
      | o + 3, _, _ => rfl

theorem capTime_le (time : Nat) : capTime time ≤ 2 ^ 48 - 1 := Nat.min_le_right _ _

theorem State.rebaseTo_rebased (s : State) (new : Nat) : RebasedBy s (s.rebaseTo new) (new - s.time.now) := by
  have hrecon : (s.rebaseTo new).recon = s.recon.rebased (new - s.time.now) := rfl
  refine ⟨fun slot => Table.get?_map _ _ _, rfl, rfl, fun hnone => ?_, fun entry he => ?_⟩
  · rw [hrecon, Reconciliation.rebased, hnone]
  · have hmoved : (s.rebaseTo new).recon =
        { s.recon with
          entryTime := some (capTime (entry + (new - s.time.now))),
          image := s.recon.image.map (imageAtEntry (capTime (entry + (new - s.time.now)))) } := by
      rw [hrecon, Reconciliation.rebased, he]
    rw [hmoved]
    refine ⟨rfl, fun hnone => by simp [hnone], fun image hi hl => ?_⟩
    obtain ⟨hlen, h1, h2, hrest⟩ := imageAtEntry_word image (capTime_le (entry + (new - s.time.now))) hl
    exact ⟨_, by simp [hi], hlen, h1, h2, hrest⟩

theorem RebasedBy.congr {u : State} {d : Nat} (h : RebasedBy s t d) (hh : u.holds = t.holds) (hf : u.fwd = t.fwd)
    (hq : u.queues = t.queues) (hr : u.recon = t.recon) : RebasedBy s u d := by
  simpa only [RebasedBy, hh, hf, hq, hr] using h

/-- Engine time after a rebase moves as after a step (R132). -/
theorem State.time_rebaseTo (s : State) (new : Nat) :
    (s.rebaseTo new).time =
      { now := new, source := s.time.source, epochOwed := s.boundariesOwed new, dayOwed := s.daysOwed new } := rfl

/-! ### The way out of UNSET (R132, R135, R138) -/

theorem State.time_leaveUnset (s : State) (source : TimeSource) :
    (s.leaveUnset source).time =
      { s.time with source, dayOwed := s.time.dayOwed ++ [{ old := none, new := s.time.now / 86400000 }] } := by
  rw [State.leaveUnset, (State.raise_kept _ _).2.2.2.2.2.2.2.2.2.1]
  rfl

theorem State.leaveUnset_heldBack (s : State) (source : TimeSource) : HeldBack s (s.leaveUnset source) := by
  refine HeldBack.trans ?_ (State.raise_heldBack _ _)
  exact .of_kept rfl rfl

theorem State.setTimeSource_heldBack (s : State) : HeldBack s s.setTimeSource := by
  rw [State.setTimeSource]
  split
  · split
    · exact (s.leaveUnset_heldBack _).trans (State.raise_heldBack _ _)
    · exact s.leaveUnset_heldBack _
  · exact .refl s

theorem State.time_setTimeSource (s : State) :
    s.setTimeSource.time =
      { s.time with
        source := if s.time.source ≠ .unset then s.time.source else if s.link.state = .lost then .holdover else .tracking,
        dayOwed :=
          if s.time.source = .unset then s.time.dayOwed ++ [{ old := none, new := s.time.now / 86400000 }] else s.time.dayOwed } := by
  rw [State.setTimeSource]
  by_cases hs : s.time.source = .unset
  · by_cases hl : s.link.state = .lost
    · simp [hs, hl, State.time_leaveUnset]
    · simp [hs, hl, State.time_leaveUnset]
  · simp [hs]

theorem State.eventPending_setTimeSource (hs : s.time.source = .unset) :
    s.setTimeSource.eventPending .timeSet = true ∧ (s.link.state = .lost → s.setTimeSource.eventPending .holdover = true) := by
  have hset : ∀ x, (s.leaveUnset x).eventPending .timeSet = true := fun x => by simp [State.leaveUnset]
  rw [State.setTimeSource, if_pos hs]
  by_cases hl : s.link.state = .lost
  · rw [if_pos hl]
    exact ⟨by rw [State.eventPending_raise, hset, Bool.or_true], fun _ => by simp⟩
  · rw [if_neg hl]
    exact ⟨hset _, fun h => absurd h hl⟩

/-- What SET_TIME leaves once engine time has been moved, whichever way it was (R135). -/
theorem Manages.setTime_moved {mode value : Nat} (h : Manages s f k (.setTime mode value)) {v : State}
    (ht : v.time = { now := value, source := s.time.source, epochOwed := s.boundariesOwed value, dayOwed := s.daysOwed value })
    (hl : v.link = s.link) (hm : v.mgmt = s.mgmt) (hheld : HeldBack (s.managed f) v) :
    let t := v.setTimeSource.answerOk k .setTime (.time value)
    Answered s t f k { kind := .setTime, status := .ok, body := .time value } ∧
      t.time =
        { now := value,
          source := if s.time.source ≠ .unset then s.time.source else if s.link.state = .lost then .holdover else .tracking,
          epochOwed := s.boundariesOwed value,
          dayOwed :=
            if s.time.source = .unset then s.time.dayOwed ++ [{ old := none, new := value / 86400000 }] else s.daysOwed value } ∧
      (s.time.source = .unset → t.eventPending .timeSet = true) ∧
      (s.time.source = .unset → s.link.state = .lost → t.eventPending .holdover = true) ∧
      t.holds = v.holds ∧ t.fwd = v.fwd ∧ t.recon = v.recon ∧ t.queues = v.queues ∧ t.accounts = v.accounts ∧ t.banks = v.banks ∧
      t.link = v.link ∧ t.mode = v.mode ∧ t.farm = v.farm := by
  intro t
  have hpending : ∀ e, t.eventPending e = v.setTimeSource.eventPending e := fun e => by simp [t, State.answerOk, State.eventPending]
  refine ⟨(h.answered (hheld.trans v.setTimeSource_heldBack) (by simp [hm]) _).1, ?_, fun hs => ?_, fun hs hlost => ?_, ?_⟩
  · have htime : t.time = v.setTimeSource.time := by simp [t, State.answerOk]
    rw [htime, State.time_setTimeSource, ht, hl]
    by_cases hs : s.time.source = .unset <;> simp [hs, State.daysOwed]
  · rw [hpending]
    exact (State.eventPending_setTimeSource (by rw [ht, hs])).1
  · rw [hpending]
    exact (State.eventPending_setTimeSource (by rw [ht, hs])).2 (by rw [hl, hlost])
  · simp [t, State.answerOk]

theorem State.takeSetTime_of_bad {mode value : Nat} (h : value < s.time.now ∨ (mode ≠ 1 ∧ mode ≠ 2)) :
    s.takeSetTime k mode value = s.answerBare k .setTime .badRequest := by
  by_cases hv : value < s.time.now
  · exact if_pos hv
  · obtain ⟨h1, h2⟩ := h.resolve_left hv
    rw [State.takeSetTime, if_neg hv, if_neg h1, if_neg h2]

/-- Settles O57: the refusals, and a step or a rebase followed by the way out of UNSET. -/
theorem setTimeStepsOrRebases : Obligations.SetTimeStepsOrRebases := by
  unfold Obligations.SetTimeStepsOrRebases
  intro f k mode value s h
  refine ⟨fun hbad => h.exec_answered (by simp [MgmtRequest.command]) (State.takeSetTime_of_bad hbad), fun hle hm => ?_⟩
  rcases hm with rfl | rfl
  · have hact : (s.managed f).takeSetTime k 1 value = ((s.managed f).stepTo value).setTimeSource.answerOk k .setTime (.time value) :=
      (if_neg (Nat.not_lt.2 hle)).trans (if_pos rfl)
    have hstep := State.stepTo_eq (s := s.managed f) hle
    obtain ⟨hans, htime, hset, hhold, hholds, hfwd, hrecon, hqueues, hrest⟩ := h.setTime_moved (v := (s.managed f).stepTo value)
      (by rw [hstep]; rfl) (by rw [hstep]; rfl) (by rw [hstep]; rfl) (.of_kept (by rw [hstep]) (by rw [hstep]))
    refine ⟨_, (h.exec_act (by simp [MgmtRequest.command])).trans (congrArg Outcome.next hact), hans, htime, hset, hhold,
      fun _ => ⟨?_, ?_, ?_, ?_⟩, fun h2 => absurd h2 (by decide), ?_⟩
    · rw [hholds, hstep]; rfl
    · rw [hfwd, hstep]; rfl
    · rw [hrecon, hstep]; rfl
    · rw [hqueues, hstep]; rfl
    · simpa using hrest
  · have hact : (s.managed f).takeSetTime k 2 value = ((s.managed f).rebaseTo value).setTimeSource.answerOk k .setTime (.time value) :=
      (if_neg (Nat.not_lt.2 hle)).trans ((if_neg (by decide)).trans (if_pos rfl))
    obtain ⟨hans, htime, hset, hhold, hholds, hfwd, hrecon, hqueues, hrest⟩ := h.setTime_moved (v := (s.managed f).rebaseTo value)
      rfl (by simp) (by simp) (.of_kept (by simp) (by simp))
    exact ⟨_, (h.exec_act (by simp [MgmtRequest.command])).trans (congrArg Outcome.next hact), hans, htime, hset, hhold,
      fun h1 => absurd h1 (by decide), fun _ => ((s.managed f).rebaseTo_rebased value).congr hholds hfwd hqueues hrecon,
      by simpa using hrest⟩

end Machine
end Sys2Proof
end

section
/-! PROOFS. RECONCILE and IMAGE_WRITE (R155, R157 to R159, R162). -/

namespace Sys2Proof.Machine

open Host

variable {s : State} {f : Frame} {k : Key}

/-! ### The writable words (R158, R159, R162) -/

theorem writableWord_iff (o : Nat) :
    writableWord o = true ↔ o = 5 ∨ o = 6 ∨ o = 7 ∨ o = 8 ∨ ∃ i, o = 16 + 8 * i + 2 ∨ o = 16 + 8 * i + 3 := by
  rw [writableWord, decide_eq_true_iff]
  constructor
  · rintro (h | ⟨h, hm⟩)
    · omega
    · exact .inr (.inr (.inr (.inr ⟨(o - 16) / 8, by omega⟩)))
  · rintro (h | h | h | h | ⟨i, h⟩) <;> omega

theorem readOnlyIn_eq_some_iff {offset count o : Nat} :
    readOnlyIn offset count = some o ↔
      (offset ≤ o ∧ o < offset + count) ∧ writableWord o = false ∧ ∀ q, offset ≤ q → q < o → writableWord q = true := by
  have hrising : ((List.range count).map (fun i => offset + i)).Pairwise (· < ·) :=
    List.pairwise_map.2 (List.pairwise_lt_range.imp fun h => Nat.add_lt_add_left h _)
  have hmem : ∀ q, q ∈ (List.range count).map (fun i => offset + i) ↔ offset ≤ q ∧ q < offset + count := fun q => by
    simp only [List.mem_map, List.mem_range]
    exact ⟨by rintro ⟨i, hi, rfl⟩; omega, fun ⟨h1, h2⟩ => ⟨q - offset, by omega, by omega⟩⟩
  rw [readOnlyIn, find?_rising_iff hrising]
  simp only [hmem, Bool.not_eq_true', Bool.not_eq_false]
  exact ⟨fun ⟨hr, hw, hmin⟩ => ⟨hr, hw, fun q h1 h2 => hmin q h2 ⟨h1, Nat.lt_trans h2 hr.2⟩⟩,
    fun ⟨hr, hw, hmin⟩ => ⟨hr, hw, fun q h2 h1 => hmin q h1.1 h2⟩⟩

theorem readOnlyIn_eq_none {offset count : Nat} (h : ∀ o, offset ≤ o → o < offset + count → writableWord o = true) :
    readOnlyIn offset count = none :=
  Option.eq_none_iff_forall_ne_some.2 fun o ho => by
    obtain ⟨⟨h1, h2⟩, hw, -⟩ := readOnlyIn_eq_some_iff.1 ho
    simp [h o h1 h2] at hw

/-- Words written inside an image (R162). -/
theorem overwrite_getElem? {image words : List Word} {offset : Nat} (h : offset + words.length ≤ image.length) :
    (overwrite image offset words).length = image.length ∧
      (∀ i, i < words.length → (overwrite image offset words)[offset + i]? = words[i]?) ∧
      ∀ o, o < offset ∨ offset + words.length ≤ o → (overwrite image offset words)[o]? = image[o]? := by
  have htake : (image.take offset).length = offset := by simp; omega
  refine ⟨by simp [overwrite]; omega, fun i hi => ?_, fun o ho => ?_⟩
  · rw [overwrite, List.append_assoc, List.getElem?_append_right (by rw [htake]; omega), htake,
      List.getElem?_append_left (by omega), Nat.add_sub_cancel_left]
  · rcases ho with ho | ho
    · rw [overwrite, List.append_assoc, List.getElem?_append_left (by rw [htake]; omega), List.getElem?_take_of_lt ho]
    · rw [overwrite, List.getElem?_append_right (by rw [List.length_append, htake]; omega), List.length_append, htake,
        List.getElem?_drop, Nat.add_sub_cancel' ho]

theorem length_carriedWords (count : Nat) (items : List Byte) : (carriedWords count items).length = count := by simp [carriedWords]

theorem carriedWords_getElem? {count i : Nat} (items : List Byte) (h : i < count) :
    (carriedWords count items)[i]? = some (wordAt items (i * 4)) := by
  rw [carriedWords, List.getElem?_map, List.getElem?_range h, Option.map_some]

section

variable {offset count : Nat} {items : List Byte}

theorem State.imageWrite_of_bad (hm : s.mode = .reconciling)
    (h : count = 0 ∨ 64 < count ∨ items.length < 4 * count ∨ s.imageWords.length < offset + count) :
    s.imageWrite k offset count items = s.answerBare k .imageWrite .badRequest := by
  rw [State.imageWrite, if_neg (by simp [hm]), if_pos h]

theorem State.imageWrite_of_sound (hm : s.mode = .reconciling)
    (h : ¬(count = 0 ∨ 64 < count ∨ items.length < 4 * count ∨ s.imageWords.length < offset + count)) :
    s.imageWrite k offset count items =
      match readOnlyIn offset count with
      | some o => s.answerMgmt k { kind := .imageWrite, status := .readOnly, body := .readOnlyAt o }
      | none =>
        (s.setRecon { s.recon with image := some (overwrite s.imageWords offset (carriedWords count items)) }).answerOk k .imageWrite
          (.written offset count) :=
  (if_neg (by simp [hm])).trans (if_neg h)

end

/-- An offer to the Upstream Queue leaves all but the Service Port (R178). -/
theorem State.offerUp_only (e : UpEntry) : s.offerUp e = { s with svc := (s.offerUp e).svc } := by
  rw [State.offerUp]
  split <;> rfl

/-! ### RECONCILE (R155, R157) -/

theorem State.reconcile_of_refused (h : s.mode = .unconfigured ∨ s.mode = .faultHold) :
    s.reconcile k = s.answerBare k .reconcile .badState := by
  rcases h with h | h <;> simp only [State.reconcile, h]

theorem State.reconcile_of_reconciling (h : s.mode = .entering ∨ s.mode = .reconciling) : s.reconcile k = s.latchReconcile k := by
  rcases h with h | h <;> simp only [State.reconcile, h]

theorem State.reconcile_of_working (h : s.mode = .serving ∨ s.mode = .draining) : s.reconcile k = s.acceptReconcile k := by
  rcases h with h | h <;> simp only [State.reconcile, h]

/-- What an accepted RECONCILE leaves before the test for the move. -/
def State.entered (s : State) (f : Frame) (k : Key) : State :=
  { s with
    mode := .entering,
    recon :=
      { s.recon with
        originKey := some k, entryTime := some s.time.now, entryDraining := decide (s.mode = .draining), reentry := false },
    svc :=
      s.svc.took f [replyTo f s.mgmt.params.seatType k { kind := .reconcile, status := .ok, body := .reports s.reportCount }] }

theorem Manages.reconcile_accepted (h : Manages s f k .reconcile) (hm : s.mode = .serving ∨ s.mode = .draining) :
    (s.managed f).reconcile k = (s.entered f k).testReconciling := by
  have hcount : (s.managed f).reportCount = s.reportCount := by
    have hup : (s.managed f).svc.upstream = s.svc.upstream := by simp [ServicePort.took]
    rw [State.reportCount, hup, State.reportCount]
  have hans := h.answer_unraised (u := (s.managed f).beginEntering k) rfl rfl rfl
    { kind := .reconcile, status := .ok, body := .reports s.reportCount }
  have hentered : ((s.managed f).beginEntering k).answerOk k .reconcile (.reports s.reportCount) = s.entered f k := by
    rw [State.answerOk, hans]
    simp only [State.entered, State.beginEntering, State.setMode, State.setRecon, State.managed_kept]
  rw [State.reconcile_of_working (s := s.managed f) hm, State.acceptReconcile, hcount, hentered]

theorem State.reportCount_entered (s : State) (f : Frame) (k : Key) : (s.entered f k).reportCount = s.reportCount := by
  simp [State.reportCount, State.entered, ServicePort.took, replyTo, UpEntry.isReport]

theorem State.upstream_entered (s : State) (f : Frame) (k : Key) :
    (s.entered f k).svc.upstream.length = s.svc.upstream.length + 1 := by simp [State.entered, ServicePort.took]

theorem State.testReconciling_of_reports (h : 0 < s.reportCount) : s.testReconciling = s := if_neg fun hn => by omega

/-- Settles O58: the writable words, RECONCILE in each state, and IMAGE_WRITE by its tests. -/
theorem reconcileBeginsAndSlotsAreWritten : Obligations.ReconcileBeginsAndSlotsAreWritten := by
  unfold Obligations.ReconcileBeginsAndSlotsAreWritten
  refine ⟨writableWord_iff, fun f k s => ⟨fun h => ⟨fun hm => ?_, fun hm => ⟨fun hl => ?_, fun hl => ?_⟩, fun hm => ?_⟩,
    fun offset count items h => ⟨fun hm => ?_, fun image hm hi => ⟨fun hbad => ?_, fun h1 h64 hlen hin => ?_⟩⟩⟩⟩
  · exact h.exec_answered (by simp [MgmtRequest.command]) (State.reconcile_of_refused (s := s.managed f) hm)
  · exact h.exec_answered (by simp [MgmtRequest.command]) ((State.reconcile_of_reconciling (s := s.managed f) hm).trans (if_pos hl))
  · have hact := (State.reconcile_of_reconciling (s := s.managed f) (k := k) hm).trans
      (if_neg (by rw [show (s.managed f).recon = s.recon from rfl, hl]; decide))
    refine (h.exec_act (by simp [MgmtRequest.command])).trans (congrArg Outcome.next (hact.trans ?_))
    exact h.answer_unraised (u := (s.managed f).setRecon { s.recon with latch := true, latchedKey := some k }) rfl rfl rfl _
  · refine ⟨_, _, (h.exec_act (by simp [MgmtRequest.command])).trans (congrArg Outcome.next (h.reconcile_accepted hm)), rfl, ?_⟩
    have hcount := s.reportCount_entered f k
    rcases Nat.eq_zero_or_pos s.reportCount with hzero | hpos
    · rw [State.testReconciling_of_entering rfl (hcount.trans hzero), State.becomeReconciling_eq]
      have hbuilt : (s.entered f k).builtImage.length = 16 + 8 * s.delegatedPools.length := (s.entered f k).length_builtImage
      have hread : ∀ hl : AccountsListed s, BuiltImage s s.time.now (decide (s.mode = .draining)) (s.entered f k).builtImage := fun hl =>
        (State.builtImage_built (s := s.entered f k) (entry := s.time.now) hl rfl).congr rfl rfl rfl
      generalize (s.entered f k).builtImage = image at hbuilt hread ⊢
      have hpools : (s.entered f k).delegatedPools = s.delegatedPools := rfl
      rw [State.offerUp_only, hbuilt, hpools]
      refine ⟨rfl, rfl, rfl, rfl, fun hpos => absurd hzero (Nat.pos_iff_ne_zero.1 hpos),
        fun _ => ⟨rfl, image, rfl, hbuilt, hread, fun hroom => ?_⟩, rfl⟩
      have hr : (((s.entered f k).setRecon { (s.entered f k).recon with image := some image }).setMode .reconciling).mgmtRoom = true := by
        have hlen := s.upstream_entered f k
        have hreserved : (s.entered f k).reserved = 0 := h.2.1.1
        simp only [State.mgmtRoom, State.setMode_svc, State.setRecon_svc, State.setMode_reserved, State.setRecon_reserved, hlen,
          hreserved, Config.upstream, decide_eq_true_eq]
        omega
      rw [State.offerUp, if_pos hr]
      simp [State.pushUp, ServicePort.took, State.entered, State.ownEth, ethTo, addrsOf, hbuilt]
    · rw [State.testReconciling_of_reports (by rw [hcount]; exact hpos)]
      exact ⟨rfl, rfl, rfl, rfl, fun _ => ⟨rfl, rfl, rfl⟩, fun hz => absurd hz (Nat.pos_iff_ne_zero.1 hpos), rfl⟩
  · exact h.exec_answered (by simp [MgmtRequest.command]) (if_pos hm)
  · have hwords : (s.managed f).imageWords = image := State.imageWords_of_some hi
    exact h.exec_answered (by simp [MgmtRequest.command]) (State.imageWrite_of_bad (s := s.managed f) hm (by rwa [hwords]))
  · have hwords : (s.managed f).imageWords = image := State.imageWords_of_some hi
    have hact := State.imageWrite_of_sound (s := s.managed f) (k := k) (offset := offset) (count := count) (items := items) hm
      (by rw [hwords]; omega)
    refine ⟨fun o ho1 ho2 hw hmin => h.exec_answered (by simp [MgmtRequest.command]) (hact.trans ?_), fun hw => ?_⟩
    · rw [readOnlyIn_eq_some_iff.2 ⟨⟨ho1, ho2⟩, hw, hmin⟩]
    · rw [readOnlyIn_eq_none hw, hwords] at hact
      obtain ⟨hlength, hinside, houtside⟩ := overwrite_getElem? (image := image) (words := carriedWords count items) (offset := offset)
        (by rwa [length_carriedWords])
      rw [length_carriedWords] at hinside houtside
      refine ⟨overwrite image offset (carriedWords count items), hlength, fun i hlt => ?_, houtside,
        (h.exec_act (by simp [MgmtRequest.command])).trans (congrArg Outcome.next (hact.trans ?_))⟩
      · rw [hinside i hlt, carriedWords_getElem? items hlt]
      · exact h.answer_unraised
          (u := (s.managed f).setRecon { s.recon with image := some (overwrite image offset (carriedWords count items)) }) rfl rfl rfl _

end Sys2Proof.Machine
end

section
/-! PROOFS. The handing on of waiting entries: what a list of them that is forwarded, or answered and removed, leaves (R43, R96, R114,
R116). -/

namespace Sys2Proof.Machine

open Host

variable {s t : State}

theorem counted_zero (n : Nat) : counted n 0 = n := by
  simp only [counted]; omega

theorem counted_bump (n k : Nat) : counted (bump n) k = counted n (k + 1) := by
  simp only [counted, bump]
  split <;> omega

/-! ### Entries out of the store -/

/-- What an entry's leaving does to the store and to the accounts is what `unlink` does. -/
def Unlinks (f : State → WaitEntry → State) : Prop :=
  ∀ s e, (f s e).queues = (s.unlink e).queues ∧ ∀ p, (f s e).acct p = (s.unlink e).acct p

/-- A list of entries out of the store by key, and the queue lengths that fall with it (R82). -/
theorem Unlinks.foldl {f : State → WaitEntry → State} (hf : Unlinks f) (es : List WaitEntry) (s : State) :
    (es.foldl f s).queues =
        { s.queues with entries := es.foldl (fun l e => l.eraseP (fun x => x.key = e.key)) s.queues.entries } ∧
      ∀ p, (es.foldl f s).acct p =
        { s.acct p with queueLength := (s.acct p).queueLength - es.countP (fun e => e.pool = p) } := by
  induction es generalizing s with
  | nil => exact ⟨rfl, fun _ => rfl⟩
  | cons e es ih =>
    obtain ⟨hq, ha⟩ := ih (f s e)
    obtain ⟨hqe, hae⟩ := hf s e
    refine ⟨?_, fun p => ?_⟩
    · rw [List.foldl_cons, hq, hqe]
      rfl
    · rw [List.foldl_cons, ha, hae, State.acct_unlink, List.countP_cons]
      by_cases hp : e.pool = p
      · simp [hp, Nat.sub_add_eq, Nat.sub_right_comm]
      · simp [hp, Ne.symm hp]

theorem unlinks_dismiss (b : FarmBody) : Unlinks (fun t e => t.dismiss b e) := fun s e =>
  ⟨by simp [State.dismiss], fun p => State.acct_congr (by simp [State.dismiss]) p⟩

/-- Where every entry of a list's pools leaves, the queues of those pools are empty and the others as they were. -/
theorem KeysUnique.erased (h : KeysUnique s) {es : List WaitEntry} {P : WaitEntry → Prop} [DecidablePred P]
    (hes : ∀ e, e ∈ es ↔ e ∈ s.queues.entries ∧ P e) :
    es.foldl (fun l e => l.eraseP (fun x => x.key = e.key)) s.queues.entries = s.queues.entries.filter (fun e => ¬P e) := by
  rw [foldl_eraseP_eq_filter _ h.entries_nodup]
  refine List.filter_congr fun x hx => ?_
  rw [decide_eq_decide]
  refine ⟨fun hne hp => hne x ((hes x).2 ⟨hx, hp⟩) rfl, fun hp e he hk => ?_⟩
  obtain ⟨hm, hpe⟩ := (hes e).1 he
  exact hp (eq_of_nodup_map h.entries_nodup hx hm hk ▸ hpe)

/-! ### Entries answered and removed -/

/-- A reply offered to a client stands at the tail of the Farm Reply Queue, or is dropped and counted (R45, R177). -/
theorem State.toFarm_offered (s : State) (a : Addrs) (k : Key) (b : FarmBody) : Answers s (s.toFarm a k b) a k b := by
  simp only [State.toFarm, State.offerFarm, State.setMgmt_farm]
  by_cases h : s.farm.replies.length < Config.farmReplies
  · simp [Answers, State.answerEth, h]
  · simp [Answers, h]

theorem Answers.congr {v w : State} {a : Addrs} {k : Key} {b : FarmBody} (h : Answers s t a k b) (hf : v.farm = s.farm)
    (hp : v.mgmt.params.seatType = s.mgmt.params.seatType) (ht : w.farm = t.farm) : Answers v w a k b := by
  rwa [Answers, hf, hp, ht]

theorem AnswersAll.congr {v w : State} {answers : List (WaitEntry × FarmBody)} (h : AnswersAll s t answers) (hf : v.farm = s.farm)
    (hp : v.mgmt.params.seatType = s.mgmt.params.seatType) (ht : w.farm = t.farm) : AnswersAll v w answers := by
  rwa [AnswersAll, hf, hp, ht]

/-- An entry that leaves is answered. -/
theorem State.dismiss_answers (s : State) (b : FarmBody) (e : WaitEntry) : Answers s (s.dismiss b e) e.addrs e.key b :=
  ((s.unlink e).toFarm_offered e.addrs e.key b).congr (by simp) (by simp) rfl

theorem State.dismissAll_answers (b : FarmBody) (es : List WaitEntry) (s : State) :
    AnswersAll s (s.dismissAll b es) (es.map (fun e => (e, b))) := by
  induction es generalizing s with
  | nil => exact answersAll_nil rfl rfl
  | cons e es ih => exact .cons (s.dismiss_answers b e) (by simp) (ih (s.dismiss b e))

/-- Entries that leave with an answer that is counted nowhere. -/
theorem State.dismissAll_uncounted {b : FarmBody} (hb : ∀ c : EngineStats, c.countReply b = c) (es : List WaitEntry) (s : State) :
    (s.dismissAll b es).mgmt = s.mgmt := by
  induction es generalizing s with
  | nil => rfl
  | cons e es ih =>
    refine (ih (s.dismiss b e)).trans ?_
    rw [State.dismiss, State.toFarm_only, hb]
    simp

/-! ### Entries forwarded -/

/-- An entry leaves the store as a forward (R96). -/
def State.passOn (e : WaitEntry) (s : State) : State := (s.unlink e).forwardEntry e

theorem unlinks_passOn : Unlinks (fun t e => t.passOn e) := fun s e =>
  ⟨by simp [State.passOn], fun p => State.acct_congr (by simp [State.passOn]) p⟩

/-- The forward of an entry: its rebuilt CHECKOUT behind the Upstream Queue, its Forwarding Table entry, and the count (R96, R116). -/
theorem State.passOn_eq (s : State) (e : WaitEntry) :
    s.passOn e =
      { s.unlink e with
        svc := { s.svc with upstream := s.svc.upstream ++ [s.handedOn s.ownEth e] },
        fwd := { s.fwd with entries := s.fwd.entries ++ [s.handedForward e] },
        mgmt := { s.mgmt with stats := { s.mgmt.stats with forwards := bump s.mgmt.stats.forwards } } } := rfl

theorem State.handedOn_congr (hb : t.banks = s.banks) (ht : t.time = s.time) : t.handedOn = s.handedOn := by
  funext eth e
  simp [State.handedOn, State.record, State.record?, hb, ht]

theorem State.handedForward_congr (hb : t.banks = s.banks) (ht : t.time = s.time) (hp : t.mgmt.params = s.mgmt.params) :
    t.handedForward = s.handedForward := by
  funext e
  simp [State.handedForward, State.record, State.record?, hb, ht, hp]

/-- What the forwards of a list of entries add, in the order of the list (R43, R96, R116). -/
theorem State.passOnAll_adds (es : List WaitEntry) (s : State) :
    (es.foldl (fun t e => t.passOn e) s).svc = { s.svc with upstream := s.svc.upstream ++ es.map (s.handedOn s.ownEth) } ∧
      (es.foldl (fun t e => t.passOn e) s).fwd = { s.fwd with entries := s.fwd.entries ++ es.map s.handedForward } ∧
      (es.foldl (fun t e => t.passOn e) s).mgmt =
        { s.mgmt with stats := { s.mgmt.stats with forwards := counted s.mgmt.stats.forwards es.length } } := by
  induction es generalizing s with
  | nil => simp [counted_zero]
  | cons e es ih =>
    obtain ⟨hsvc, hfwd, hmgmt⟩ := ih (s.passOn e)
    have hfrom : (s.passOn e).handedOn (s.passOn e).ownEth = s.handedOn s.ownEth :=
      congrFun (State.handedOn_congr (s := s) (t := s.passOn e) rfl rfl) s.ownEth
    have hforward : (s.passOn e).handedForward = s.handedForward := State.handedForward_congr (s := s) (t := s.passOn e) rfl rfl rfl
    rw [hfrom] at hsvc
    rw [hforward] at hfwd
    refine ⟨?_, ?_, ?_⟩
    · rw [List.foldl_cons, hsvc, State.passOn_eq]
      simp
    · rw [List.foldl_cons, hfwd, State.passOn_eq]
      simp
    · rw [List.foldl_cons, hmgmt, State.passOn_eq]
      simp [counted_bump]

theorem State.passOnAll_kept (es : List WaitEntry) (s : State) :
    (es.foldl (fun t e => t.passOn e) s).mode = s.mode ∧ (es.foldl (fun t e => t.passOn e) s).banks = s.banks ∧
      (es.foldl (fun t e => t.passOn e) s).holds = s.holds ∧ (es.foldl (fun t e => t.passOn e) s).time = s.time ∧
      (es.foldl (fun t e => t.passOn e) s).link = s.link ∧ (es.foldl (fun t e => t.passOn e) s).recon = s.recon ∧
      (es.foldl (fun t e => t.passOn e) s).farm = s.farm ∧ (es.foldl (fun t e => t.passOn e) s).reserved = s.reserved ∧
      (es.foldl (fun t e => t.passOn e) s).deferred = s.deferred ∧ (es.foldl (fun t e => t.passOn e) s).pending = s.pending := by
  induction es generalizing s with
  | nil => simp
  | cons e es ih =>
    rw [List.foldl_cons]
    simpa [State.passOn] using ih (s.passOn e)

/-! ### Entries handed on as far as they find room (R43, R114) -/

/-- An entry leaves the store as a forward where it finds room, and answered with `b` where it does not. -/
def State.handOn (b : FarmBody) (e : WaitEntry) (s : State) : State :=
  if s.link.state ≠ .lost ∧ s.forwardRoom = true then s.passOn e else s.dismiss b e

@[simp] theorem State.forwardRoom_unlink (s : State) (e : WaitEntry) : (s.unlink e).forwardRoom = s.forwardRoom := rfl

theorem State.revokeEntry_eq (s : State) (e : WaitEntry) :
    s.revokeEntry e = s.handOn (.retry .noRoom s.mgmt.params.retryHint) e := by
  simp only [State.revokeEntry, State.handOn, State.forwardRoom_unlink]
  rfl

theorem State.drainEntry_eq (s : State) (e : WaitEntry) :
    s.drainEntry e = s.handOn (if s.link.state = .lost then .unreachable else .retry .noRoom s.mgmt.params.retryHint) e := by
  by_cases hl : s.link.state = .lost
  · simp [State.drainEntry, State.handOn, hl]
  · simp only [State.drainEntry, State.handOn, State.forwardRoom_unlink, hl, if_false, ne_eq, not_false_eq_true, true_and]
    rfl

/-- How many entries find room: none while the link is LOST (R43, R46, R178). -/
def State.forwardPlaces (s : State) : Nat :=
  if s.link.state = .lost then 0
  else min (256 - s.fwd.entries.length) (min (992 - s.seatCount) (1024 - (s.svc.upstream.length + s.reserved)))

theorem State.forwardPlaces_eq_zero_iff : s.forwardPlaces = 0 ↔ ¬(s.link.state ≠ .lost ∧ s.forwardRoom = true) := by
  by_cases hl : s.link.state = .lost
  · simp [State.forwardPlaces, hl]
  · have hroom : s.forwardRoom = true ↔
        s.fwd.entries.length < 256 ∧ s.seatCount < 992 ∧ s.svc.upstream.length + s.reserved < 1024 := by
      simp only [State.forwardRoom, State.seatRoom, Bool.and_eq_true, decide_eq_true_eq]
      rfl
    simp only [State.forwardPlaces, hl, if_false, hroom, ne_eq, not_false_eq_true, true_and]
    omega

theorem State.forwardPlaces_passOn (s : State) (e : WaitEntry) : (s.passOn e).forwardPlaces = s.forwardPlaces - 1 := by
  have hseat : (s.passOn e).seatCount = s.seatCount + 1 := by simp [State.passOn_eq, State.seatCount, State.handedOn, List.filter_cons, UpEntry.seatTraffic]
  have hup : (s.passOn e).svc.upstream.length = s.svc.upstream.length + 1 := by simp [State.passOn_eq]
  have hfwd : (s.passOn e).fwd.entries.length = s.fwd.entries.length + 1 := by simp [State.passOn_eq]
  have hlink : (s.passOn e).link = s.link := rfl
  have hreserved : (s.passOn e).reserved = s.reserved := rfl
  simp only [State.forwardPlaces, hseat, hup, hfwd, hlink, hreserved]
  split
  · rfl
  · omega

theorem State.forwardPlaces_dismiss (s : State) (b : FarmBody) (e : WaitEntry) : (s.dismiss b e).forwardPlaces = s.forwardPlaces := by
  simp [State.forwardPlaces, State.seatCount]

/-- The first entries, as many as find room, are forwarded, and the others answered. -/
theorem State.handOnAll_eq (b : FarmBody) (es : List WaitEntry) (s : State) :
    es.foldl (fun t e => t.handOn b e) s =
      ((es.take s.forwardPlaces).foldl (fun t e => t.passOn e) s).dismissAll b (es.drop s.forwardPlaces) := by
  induction es generalizing s with
  | nil => simp [State.dismissAll]
  | cons e es ih =>
    rw [List.foldl_cons, ih]
    rcases Nat.eq_zero_or_pos s.forwardPlaces with hz | hpos
    · rw [State.handOn, if_neg (State.forwardPlaces_eq_zero_iff.1 hz), State.forwardPlaces_dismiss, hz]
      rfl
    · have hroom := Classical.not_not.1 (mt State.forwardPlaces_eq_zero_iff.2 (Nat.pos_iff_ne_zero.1 hpos))
      rw [State.handOn, if_pos hroom, State.forwardPlaces_passOn]
      obtain ⟨n, hn⟩ : ∃ n, s.forwardPlaces = n + 1 := ⟨_, (Nat.succ_pred_eq_of_pos hpos).symm⟩
      simp [hn]

theorem unlinks_handOn (b : FarmBody) : Unlinks (fun t e => t.handOn b e) := fun s e => by
  simp only [State.handOn]
  split
  · exact unlinks_passOn s e
  · exact unlinks_dismiss b s e

/-- What entries handed on leave: rebuilt CHECKOUTs and forwards for the first of them, answers for the others. -/
theorem State.handOnAll_adds {b : FarmBody} (hb : ∀ c : EngineStats, c.countReply b = c) {es : List WaitEntry} {n : Nat}
    (hn : n = min es.length s.forwardPlaces) (ht : t = es.foldl (fun t e => t.handOn b e) s) :
    t.svc = { s.svc with upstream := s.svc.upstream ++ (es.take n).map (s.handedOn s.ownEth) } ∧
      t.fwd = { s.fwd with entries := s.fwd.entries ++ (es.take n).map s.handedForward } ∧
      t.mgmt = { s.mgmt with stats := { s.mgmt.stats with forwards := counted s.mgmt.stats.forwards n } } ∧
      AnswersAll s t ((es.drop n).map (fun e => (e, b))) := by
  have htake : es.take s.forwardPlaces = es.take n := by rw [hn, Nat.min_comm]; exact List.take_eq_take_min
  have hdrop : es.drop s.forwardPlaces = es.drop n := by
    rcases Nat.le_total es.length s.forwardPlaces with h | h
    · rw [hn, Nat.min_eq_left h, List.drop_of_length_le h, List.drop_length]
    · rw [hn, Nat.min_eq_right h]
  have hlength : (es.take n).length = n := by rw [List.length_take, hn]; omega
  obtain ⟨hsvc, hfwd, hmgmt⟩ := State.passOnAll_adds (es.take n) s
  obtain ⟨-, -, -, -, -, -, hfarm, -⟩ := State.passOnAll_kept (es.take n) s
  rw [State.handOnAll_eq, htake, hdrop] at ht
  generalize (es.take n).foldl (fun t e => t.passOn e) s = u at hsvc hfwd hmgmt hfarm ht
  rw [hlength] at hmgmt
  subst ht
  exact ⟨by simpa using hsvc, by simpa using hfwd, (State.dismissAll_uncounted hb _ _).trans hmgmt,
    (State.dismissAll_answers b _ u).congr hfarm.symm (by rw [hmgmt]) rfl⟩

theorem State.handOnAll_kept (b : FarmBody) (es : List WaitEntry) (s : State) {t : State}
    (ht : t = es.foldl (fun t e => t.handOn b e) s) :
    t.mode = s.mode ∧ t.banks = s.banks ∧ t.holds = s.holds ∧ t.time = s.time ∧ t.link = s.link ∧ t.recon = s.recon ∧
      t.farm.intake = s.farm.intake ∧ t.reserved = s.reserved ∧ t.deferred = s.deferred := by
  rw [State.handOnAll_eq] at ht
  have h := State.passOnAll_kept (es.take s.forwardPlaces) s
  subst ht
  simp only [State.dismissAll_kept, State.dismissAll_parts]
  simp [h]

/-! ### Every waiting entry (R43, R95) -/

theorem State.entriesByPool_perm (h : KeysUnique s) : s.entriesByPool.Perm s.queues.entries := by
  obtain ⟨hkeys, hmem⟩ := waiting_entriesByPool (G := { keys := True, slots := True, frozen := False }) (fun _ => h) trivial
  refine (List.perm_ext_iff_of_nodup (hkeys.imp fun hne heq => hne (congrArg WaitEntry.key heq)) (nodup_of_nodup_map h.entries_nodup)).2
    fun e => ⟨hmem e, fun he => ?_⟩
  exact List.mem_flatMap.2 ⟨e.pool, (s.mem_waitingPools e.pool).2 ⟨e, he, rfl⟩, List.mem_filter.2 ⟨he, by simp⟩⟩

/-- Where every entry leaves, the store is empty and every queue length 0. -/
theorem Unlinks.emptied {f : State → WaitEntry → State} (hf : Unlinks f) (h : QueuesCounted s) (ht : t = s.entriesByPool.foldl f s) :
    t.queues = { s.queues with entries := [] } ∧ ∀ p, t.acct p = { s.acct p with queueLength := 0 } := by
  obtain ⟨hkeys, -, hcount⟩ := h
  have hperm := State.entriesByPool_perm hkeys
  obtain ⟨hq, ha⟩ := hf.foldl s.entriesByPool s
  subst ht
  refine ⟨?_, fun p => ?_⟩
  · rw [hq, hkeys.erased (P := fun _ => True) (fun e => by rw [hperm.mem_iff, and_true])]
    simp
  · rw [ha, hcount, hperm.countP_eq, List.countP_eq_length_filter, State.poolQueue, Nat.sub_self]

end Sys2Proof.Machine
end

section
/-! PROOFS. DRAIN and UNDRAIN (R42, R43, R44). -/

namespace Sys2Proof.Machine

open Host

variable {s t : State} {f : Frame} {k : Key}

/-- The answer of an entry that a drain does not hand on (R43). -/
def State.drainAnswer (s : State) : FarmBody :=
  if s.link.state = .lost then .unreachable else .retry .noRoom s.mgmt.params.retryHint

theorem State.drainAnswer_uncounted (s : State) (c : EngineStats) : c.countReply s.drainAnswer = c := by
  simp only [State.drainAnswer]
  split <;> rfl

theorem State.drainEntries_eq (es : List WaitEntry) (s : State) :
    es.foldl (fun t e => t.drainEntry e) s = es.foldl (fun t e => t.handOn s.drainAnswer e) s := by
  induction es generalizing s with
  | nil => rfl
  | cons e es ih =>
    have hanswer : (s.drainEntry e).drainAnswer = s.drainAnswer := by simp [State.drainAnswer]
    rw [List.foldl_cons, List.foldl_cons, ih, hanswer, s.drainEntry_eq e]
    rfl

/-- The entry into DRAINING hands every waiting entry on (R43). -/
theorem State.enterDraining_eq (s : State) :
    s.enterDraining = s.entriesByPool.foldl (fun t e => t.handOn s.drainAnswer e) (s.setMode .draining) :=
  State.drainEntries_eq s.entriesByPool (s.setMode .draining)

theorem State.drain_of_serving (h : s.mode = .serving) :
    s.drain k = s.enterDraining.answerOk k .drain (.drained s.drainForwards (s.queues.entries.length - s.drainForwards)) := by
  simp only [State.drain, h]

theorem State.drain_of_refused (h1 : s.mode ≠ .serving) (h2 : s.mode ≠ .draining) : s.drain k = s.answerBare k .drain .badState := by
  rw [State.drain]
  cases hm : s.mode <;> simp_all

theorem State.undrain_of_working (h : s.mode = .serving ∨ s.mode = .draining) :
    s.undrain k = (s.setMode .serving).answerOk k .undrain .empty := by
  rcases h with h | h
  · have hs : s.setMode .serving = s := by cases s; simp_all [State.setMode]
    rw [hs]
    simp only [State.undrain, h]
  · simp only [State.undrain, h]

theorem State.undrain_of_refused (h1 : s.mode ≠ .serving) (h2 : s.mode ≠ .draining) :
    s.undrain k = s.answerBare k .undrain .badState := by
  rw [State.undrain]
  cases hm : s.mode <;> simp_all

theorem State.seatCount_managed (s : State) (f : Frame) : (s.managed f).seatCount = s.seatCount := by
  simp [State.seatCount, ServicePort.took]

/-- What a DRAIN in SERVING leaves before its reply (R43, R96, R116). -/
theorem State.enterDraining_managed (hcount : QueuesCounted s) {n : Nat} (ht : t = (s.managed f).enterDraining)
    (hn : n = if s.link.state = .lost then 0
      else min s.entriesByPool.length
        (min (256 - s.fwd.entries.length) (min (992 - s.seatCount) (1023 - s.svc.upstream.length)))) :
    t.svc = s.svc.took f ((s.entriesByPool.take n).map (s.handedOn (ethTo f s))) ∧
      t.fwd = { s.fwd with entries := s.fwd.entries ++ (s.entriesByPool.take n).map s.handedForward } ∧
      t.mgmt = { s.mgmt with stats := { s.mgmt.stats with forwards := counted s.mgmt.stats.forwards n } } ∧
      AnswersAll s t ((s.entriesByPool.drop n).map (fun e => (e, s.drainAnswer))) ∧
      t.queues = { s.queues with entries := [] } ∧ ∀ p, t.acct p = { s.acct p with queueLength := 0 } := by
  have hplaces : n = min s.entriesByPool.length ((s.managed f).setMode .draining).forwardPlaces := by
    have hseat : ((s.managed f).setMode .draining).seatCount = s.seatCount := s.seatCount_managed f
    have hup : ((s.managed f).setMode .draining).svc.upstream.length = s.svc.upstream.length := by simp [ServicePort.took]
    rw [hn, State.forwardPlaces, hseat, hup]
    change _ = min _ (if s.link.state = .lost then 0 else min (256 - s.fwd.entries.length)
      (min (992 - s.seatCount) (1024 - (s.svc.upstream.length + 1))))
    split <;> omega
  have hfold := ht.trans (s.managed f).enterDraining_eq
  obtain ⟨hsvc, hfwd, hmgmt, hanswers⟩ := State.handOnAll_adds (s.managed f).drainAnswer_uncounted hplaces hfold
  obtain ⟨hqueues, haccts⟩ := (unlinks_handOn _).emptied (s := (s.managed f).setMode .draining) hcount hfold
  have hfrom : ((s.managed f).setMode .draining).handedOn ((s.managed f).setMode .draining).ownEth = s.handedOn (ethTo f s) := rfl
  rw [hfrom] at hsvc
  exact ⟨by simpa [ServicePort.took] using hsvc, hfwd, hmgmt, hanswers.congr rfl rfl rfl, hqueues, haccts⟩

/-- Settles O56: the entries are handed on as far as they find room, before the reply, which counts them. -/
theorem drainHandsTheQueuesOn : Obligations.DrainHandsTheQueuesOn := by
  unfold Obligations.DrainHandsTheQueuesOn
  refine fun f k s => ⟨fun h => ⟨fun hm => ?_, fun h1 h2 => ?_, fun pools es n hm hcount hpools hes hn => ?_⟩,
    fun h => ⟨fun hm => ?_, fun h1 h2 => ?_⟩⟩
  · exact h.exec_answered (by simp [MgmtRequest.command]) (by simp only [MgmtRequest.act, State.drain, State.managed_kept, hm]; rfl)
  · exact h.exec_answered (by simp [MgmtRequest.command]) (State.drain_of_refused (s := s.managed f) h1 h2)
  · subst hes
    rw [hpools.entries] at hn ⊢
    obtain ⟨hsvc, hfwd, hmgmt, hanswers, hqueues, haccts⟩ := State.enterDraining_managed (f := f) hcount rfl hn
    obtain ⟨hmode, hbanks, hholds, htime, hlink, -, hintake, -, hdeferred⟩ :=
      State.handOnAll_kept _ _ _ (s.managed f).enterDraining_eq
    have hforwards : (s.managed f).drainForwards = n := by
      have hle : n ≤ s.entriesByPool.length := by rw [hn]; split <;> omega
      rw [State.drainForwards, hfwd]
      simp [hle]
    have hlength : s.entriesByPool.length = (s.managed f).queues.entries.length := (State.entriesByPool_perm hcount.1).length_eq
    have hact := (State.drain_of_serving (s := s.managed f) (k := k) hm).trans
      (h.answer_sent (u := (s.managed f).enterDraining) hsvc (by rw [hmgmt]) hdeferred
        { kind := .drain, status := .ok,
          body := .drained (s.managed f).drainForwards ((s.managed f).queues.entries.length - (s.managed f).drainForwards) })
    rw [hforwards, ← hlength] at hact
    refine ⟨_, (h.exec_act (by simp [MgmtRequest.command])).trans (congrArg Outcome.next hact), hmode, hqueues, haccts, rfl, hfwd,
      by rw [hmgmt], hanswers.congr rfl rfl rfl, hintake, hholds, hbanks, htime, hlink⟩
  · refine (h.exec_act (by simp [MgmtRequest.command])).trans (congrArg Outcome.next ?_)
    refine (State.undrain_of_working (s := s.managed f) hm).trans ?_
    rw [State.answerOk, h.answer_unraised (u := (s.managed f).setMode .serving) rfl rfl rfl]
    rfl
  · exact h.exec_answered (by simp [MgmtRequest.command]) (State.undrain_of_refused (s := s.managed f) h1 h2)

end Sys2Proof.Machine
end

section
/-! PROOFS. REVOKE (R67, R111 to R114). -/

namespace Sys2Proof.Machine

open Host

variable {s t : State} {f : Frame} {k : Key} {p n : Nat}

/-! ### Holds taken away (R67, R114) -/

theorem State.takeAway_holds (slot : Nat) :
    (s.takeAway slot).holds =
      { slots := Table.remove s.holds.slots slot, gens := Table.putD s.holds.gens 0 slot ((s.generation slot + 1) % 32768) } := by
  simp [State.takeAway, State.freeSlot, Config.generations]

theorem State.takeAway_entries (slot : Nat) : (s.takeAway slot).queues.entries = s.queues.entries := by
  simp only [State.takeAway, State.slotFreed]
  split <;> simp

theorem State.takeAways_entries (es : List (Nat × Hold)) (s : State) :
    (es.foldl (fun t e => t.takeAway e.1) s).queues.entries = s.queues.entries := by
  induction es generalizing s with
  | nil => rfl
  | cons e es ih => rw [List.foldl_cons, ih, State.takeAway_entries]

/-- Holds of distinct slots taken away: their slots are free, and their generations one on (R67, R79). -/
theorem State.takeAways_holds (es : List (Nat × Hold)) (hdistinct : es.Pairwise (fun a b => a.1 ≠ b.1)) (s : State)
    (ht : t = es.foldl (fun t e => t.takeAway e.1) s) :
    t.holds.slots = s.holds.slots.filter (fun x => es.all (fun e => x.1 ≠ e.1)) ∧
      ∀ slot, t.generation slot =
        if es.any (fun e => e.1 = slot) = true then (s.generation slot + 1) % 32768 else s.generation slot := by
  induction es generalizing s with
  | nil => subst ht; exact ⟨(List.filter_eq_self.2 fun _ _ => rfl).symm, fun _ => rfl⟩
  | cons e es ih =>
    obtain ⟨hne, hdistinct⟩ := List.pairwise_cons.1 hdistinct
    obtain ⟨hslots, hgen⟩ := ih hdistinct (s.takeAway e.1) ht
    have hfreed : ∀ slot, (s.takeAway e.1).generation slot =
        if e.1 = slot then (s.generation e.1 + 1) % 32768 else s.generation slot := fun slot => by
      rw [State.generation, State.takeAway_holds, Table.getD_putD]
      rfl
    refine ⟨?_, fun slot => ?_⟩
    · rw [hslots, State.takeAway_holds, Table.remove, List.filter_filter]
      refine List.filter_congr fun x _ => ?_
      simp [Bool.and_comm]
    · rw [hgen, hfreed]
      by_cases hs : e.1 = slot
      · subst hs
        have hnone : es.any (fun x => x.1 = e.1) = false := by simpa using fun a b hab => (hne (a, b) hab).symm
        simp [hnone]
      · rw [if_neg hs, List.any_cons, decide_eq_false hs, Bool.false_or]

/-- A REVOKE's pool has no hold left, and the others have theirs. -/
theorem State.takeAways_pool (hlisted : SlotsListed s) (p : Nat) :
    s.holds.slots.filter (fun x => (s.holdsOf p).all (fun e => x.1 ≠ e.1)) = s.holds.slots.filter (fun e => e.2.pool ≠ p) := by
  refine List.filter_congr fun x hx => ?_
  rw [Bool.eq_iff_iff]
  simp only [List.all_eq_true, decide_eq_true_eq]
  refine ⟨fun hall hp => hall x (List.mem_filter.2 ⟨hx, by simpa using hp⟩) rfl, fun hp e he heq => ?_⟩
  obtain ⟨hm, hpe⟩ := List.mem_filter.1 he
  have hsame : some x.2 = some e.2 := (Table.get?_of_mem hlisted.1 hx).symm.trans (heq ▸ Table.get?_of_mem hlisted.1 hm)
  exact hp (Option.some.inj hsame ▸ of_decide_eq_true hpe)

/-! ### The TRANSFER frames (R112, R113) -/

theorem State.foldl_pushUp {α : Type} (g : α → UpEntry) (l : List α) (s : State) :
    l.foldl (fun t i => t.pushUp (g i)) s = s.setSvc { s.svc with upstream := s.svc.upstream ++ l.map g } := by
  induction l generalizing s with
  | nil => simp [State.setSvc]
  | cons i l ih => rw [List.foldl_cons, ih]; simp [State.pushUp, State.setSvc]

theorem State.sendTransfers_eq (k : Key) (p n : Nat) (s : State) :
    s.sendTransfers k p n =
      s.setSvc
        { s.svc with
          upstream := s.svc.upstream ++ (List.range n).map (fun i => UpEntry.transfer s.ownEth k (s.transferFrame p n i)) } :=
  State.foldl_pushUp (fun i => UpEntry.transfer s.ownEth k (s.transferFrame p n i)) _ s

/-! ### What is left behind the reply (R67, R96, R114, R116) -/

theorem State.revokeEntries_eq (es : List WaitEntry) (s : State) :
    es.foldl (fun t e => t.revokeEntry e) s = es.foldl (fun t e => t.handOn (.retry .noRoom s.mgmt.params.retryHint) e) s := by
  induction es generalizing s with
  | nil => rfl
  | cons e es ih =>
    have hparams : (s.revokeEntry e).mgmt.params = s.mgmt.params := by simp
    rw [List.foldl_cons, List.foldl_cons, ih, hparams, s.revokeEntry_eq e]

/-- A pool with its holds taken away, its entries handed on and its account cleared (R114). -/
theorem State.stripPool_strips (hlisted : SlotsListed s) (hkeys : KeysUnique s) (ht : t = s.stripPool p)
    (hn : n = min (s.poolQueue p).length s.forwardPlaces) :
    t.svc = { s.svc with upstream := s.svc.upstream ++ ((s.poolQueue p).take n).map (s.handedOn s.ownEth) } ∧
      t.fwd = { s.fwd with entries := s.fwd.entries ++ ((s.poolQueue p).take n).map s.handedForward } ∧
      t.mgmt = { s.mgmt with stats := { s.mgmt.stats with forwards := counted s.mgmt.stats.forwards n } } ∧
      AnswersAll s t (((s.poolQueue p).drop n).map (fun e => (e, FarmBody.retry .noRoom s.mgmt.params.retryHint))) ∧
      t.acct p = Account.cleared ∧ OtherAccounts s t p ∧ t.holds.slots = s.holds.slots.filter (fun e => e.2.pool ≠ p) ∧
      (∀ slot, t.generation slot =
        if (s.holdsOf p).any (fun e => e.1 = slot) = true then (s.generation slot + 1) % 32768 else s.generation slot) ∧
      t.queues.entries = s.queues.entries.filter (fun e => e.pool ≠ p) ∧ t.farm.intake = s.farm.intake ∧
      t.reserved = s.reserved ∧ t.deferred = s.deferred ∧ t.banks = s.banks ∧ t.mode = s.mode ∧ t.time = s.time := by
  have hdistinct : (s.holdsOf p).Pairwise (fun a b => a.1 ≠ b.1) := (hlisted.1.filter _).imp Nat.ne_of_lt
  obtain ⟨hslots, hgen⟩ := State.takeAways_holds (s.holdsOf p) hdistinct s rfl
  have hentries := State.takeAways_entries (s.holdsOf p) s
  obtain ⟨-, -, -, hmode, hbanks, haccounts, hfwd, htime, hlink, -, hfarm, hsvc, hmgmt, hreserved, hdeferred⟩ :=
    s.takeAwayAll_kept (s.holdsOf p)
  rw [State.takeAways_pool hlisted] at hslots
  simp only [State.stripPool, State.revokeEntries_eq] at ht
  generalize (s.holdsOf p).foldl (fun t e => t.takeAway e.1) s = r
    at hslots hgen hentries hmode hbanks haccounts hfwd htime hlink hfarm hsvc hmgmt hreserved hdeferred ht
  have hqueue : r.poolQueue p = s.poolQueue p := by rw [State.poolQueue, hentries]; rfl
  have hplaces : r.forwardPlaces = s.forwardPlaces := by
    rw [State.forwardPlaces, State.forwardPlaces, State.seatCount, State.seatCount, hsvc, hfwd, hlink, hreserved]
  rw [hqueue, hmgmt] at ht
  obtain ⟨v, hv⟩ : ∃ v, v = (s.poolQueue p).foldl (fun t e => t.handOn (.retry .noRoom s.mgmt.params.retryHint) e) r := ⟨_, rfl⟩
  obtain ⟨hvsvc, hvfwd, hvmgmt, hvanswers⟩ := State.handOnAll_adds (b := .retry .noRoom s.mgmt.params.retryHint) (fun _ => rfl)
    (hn.trans (by rw [hplaces])) hv
  obtain ⟨hvmode, hvbanks, hvholds, hvtime, -, -, hvintake, hvreserved, hvdeferred⟩ := State.handOnAll_kept _ _ r hv
  obtain ⟨hvqueues, hvacct⟩ := (unlinks_handOn (.retry .noRoom s.mgmt.params.retryHint)).foldl (s.poolQueue p) r
  rw [← hv] at ht hvqueues hvacct
  have herased := hkeys.erased (es := s.poolQueue p) (P := fun e => e.pool = p) (fun e => by simp [State.poolQueue])
  have hown : r.ownEth = s.ownEth := by rw [State.ownEth, hsvc, hmgmt]; rfl
  rw [hown, State.handedOn_congr hbanks htime, hsvc] at hvsvc
  rw [State.handedForward_congr hbanks htime (by rw [hmgmt]), hfwd] at hvfwd
  subst ht
  refine ⟨hvsvc, hvfwd, hvmgmt.trans (by rw [hmgmt]), hvanswers.congr hfarm.symm (by rw [hmgmt]) rfl, by simp, fun q hq => ?_,
    (congrArg HoldTable.slots hvholds :).trans hslots, fun slot => ?_, ?_, hvintake.trans (by rw [hfarm]), hvreserved.trans hreserved,
    hvdeferred.trans hdeferred, hvbanks.trans hbanks, hvmode.trans hmode, hvtime.trans htime⟩
  · have hcount : (s.poolQueue p).countP (fun e => e.pool = q) = 0 := by
      rw [List.countP_eq_zero]
      intro e he
      simpa [of_decide_eq_true (List.mem_filter.1 he).2] using Ne.symm hq
    rw [State.acct_setAcct, if_neg (Ne.symm hq), hvacct, hcount, Nat.sub_zero, State.acct_congr haccounts]
  · rw [← hgen]
    exact congrArg (fun h => Table.getD h.gens 0 slot) hvholds
  · change v.queues.entries = _
    rw [hvqueues, hentries, herased]

/-! ### REVOKE -/

theorem State.revoke_of_number (h : 1024 ≤ p) : s.revoke k p = s.answerBare k .revoke .badRequest := if_pos h

theorem State.revoke_of_mode (h : p < 1024) (hm : s.working = false) : s.revoke k p = s.answerBare k .revoke .badState :=
  (if_neg (Nat.not_le.2 h)).trans (if_pos hm)

theorem State.revoke_of_absent (h : p < 1024) (hm : s.working = true) (hd : s.delegated p = false) :
    s.revoke k p = s.answerOk k .revoke (.revoked .absent 0 0 0 0 0) :=
  (if_neg (Nat.not_le.2 h)).trans ((if_neg (by simp [hm])).trans (if_pos hd))

theorem State.revoke_of_delegated (h : p < 1024) (hm : s.working = true) (hd : s.delegated p = true) :
    s.revoke k p =
      if s.transferRoom (framesFor (s.holdsOf p).length) = false then
        s.answerMgmt k { kind := .revoke, status := .noRoom, body := .frames (framesFor (s.holdsOf p).length) }
      else
        ((s.sendTransfers k p (framesFor (s.holdsOf p).length)).answerOk k .revoke
          (s.revokedBody p (framesFor (s.holdsOf p).length))).stripPool p :=
  (if_neg (Nat.not_le.2 h)).trans ((if_neg (by simp [hm])).trans (if_neg (by simp [hd])))

theorem State.working_iff : s.working = true ↔ s.mode = .serving ∨ s.mode = .draining := by simp [State.working]

theorem State.delegated_iff : s.delegated p = true ↔ (s.acct p).state ≠ .absent := by simp [State.delegated]

theorem State.transferRoom_managed (s : State) (f : Frame) (n : Nat) :
    (s.managed f).transferRoom n = decide (s.seatCount + n ≤ 992 ∧ s.svc.upstream.length + n + 1 ≤ 1024) := by
  have hup : (s.managed f).svc.upstream = s.svc.upstream := by simp [ServicePort.took]
  rw [State.transferRoom, State.seatCount, hup]
  rfl

/-- The TRANSFER frames of a REVOKE that has found room for them (R113). -/
def State.transfersTo (s : State) (eth : EthHeader) (k : Key) (p n : Nat) : List UpEntry :=
  (List.range n).map
    (fun i =>
      UpEntry.transfer eth k
        { pool := p, number := i + 1, count := n, holds := (((s.holdsOf p).drop (i * 40)).take 40).map s.transferHold })

/-- The state of a REVOKE when its frames and its reply have been sent, before the pool is stripped. -/
def State.transferred (s : State) (f : Frame) (k : Key) (p n : Nat) : State :=
  { s with
    svc :=
      s.svc.took f
        (s.transfersTo (ethTo f s) k p n ++
          [replyTo f s.mgmt.params.seatType k { kind := .revoke, status := .ok, body := s.revokedBody p n }]) }

theorem Manages.transferred_eq (h : Manages s f k (.revoke p)) (n : Nat) :
    ((s.managed f).sendTransfers k p n).answerOk k .revoke ((s.managed f).revokedBody p n) = s.transferred f k p n := by
  have hsent : (s.managed f).sendTransfers k p n = (s.managed f).setSvc (s.svc.took f (s.transfersTo (ethTo f s) k p n)) := by
    rw [State.sendTransfers_eq, show (s.managed f).svc = s.svc.took f [] from rfl, ServicePort.took, List.append_nil]
    rfl
  have hbody : (s.managed f).revokedBody p n = s.revokedBody p n := rfl
  rw [hsent, hbody, State.answerOk,
    h.answer_sent (u := (s.managed f).setSvc (s.svc.took f (s.transfersTo (ethTo f s) k p n))) rfl rfl rfl
      { kind := .revoke, status := .ok, body := s.revokedBody p n }]
  rfl

theorem State.forwardPlaces_transferred (hq : Quiet s) :
    (s.transferred f k p n).forwardPlaces =
      if s.link.state = .lost then 0
      else min (256 - s.fwd.entries.length) (min (992 - (s.seatCount + n)) (1024 - (s.svc.upstream.length + n + 1))) := by
  have hseat : (s.transferred f k p n).seatCount = s.seatCount + n := by
    have hall : (s.transfersTo (ethTo f s) k p n).filter UpEntry.seatTraffic = s.transfersTo (ethTo f s) k p n := by
      rw [List.filter_eq_self]
      intro x hx
      obtain ⟨i, -, rfl⟩ := List.mem_map.1 hx
      rfl
    rw [State.seatCount, State.transferred, ServicePort.took, List.filter_append, List.filter_append, hall]
    simp [State.transfersTo, replyTo, UpEntry.seatTraffic, State.seatCount]
  have hup : (s.transferred f k p n).svc.upstream.length = s.svc.upstream.length + n + 1 := by
    simp [State.transferred, ServicePort.took, State.transfersTo, Nat.add_assoc]
  have hreserved : (s.transferred f k p n).reserved = 0 := hq.1
  rw [State.forwardPlaces, hseat, hup, hreserved]
  rfl

/-- Settles O54: the refusals by the tests in their order, and else the frames, the reply, and the pool stripped. -/
theorem revokeHandsThePoolBack : Obligations.RevokeHandsThePoolBack := by
  unfold Obligations.RevokeHandsThePoolBack
  intro f k p n m s h hn hm
  have hframes : framesFor ((s.managed f).holdsOf p).length = n := hn.symm
  refine ⟨fun hp => ?_, fun hp h1 h2 => ?_, fun hp hw ha => ?_, fun hp hw ha hfull => ?_, fun hp hw ha hseat hup hlisted hqueues => ?_⟩
  · exact h.exec_answered (by simp [MgmtRequest.command]) (State.revoke_of_number (s := s.managed f) hp)
  · exact h.exec_answered (by simp [MgmtRequest.command])
      (State.revoke_of_mode (s := s.managed f) hp (Bool.eq_false_iff.2 fun hw => (State.working_iff.1 hw).elim h1 h2))
  · exact h.exec_answered (by simp [MgmtRequest.command])
      (State.revoke_of_absent (s := s.managed f) hp (State.working_iff.2 hw)
        (Bool.eq_false_iff.2 fun hd => State.delegated_iff.1 hd ha))
  · have hact := State.revoke_of_delegated (s := s.managed f) (k := k) hp (State.working_iff.2 hw) (State.delegated_iff.2 ha)
    rw [hframes, if_pos (by rw [State.transferRoom_managed, decide_eq_false (by omega)])] at hact
    exact h.exec_answered (by simp [MgmtRequest.command]) hact
  · have hact := State.revoke_of_delegated (s := s.managed f) (k := k) hp (State.working_iff.2 hw) (State.delegated_iff.2 ha)
    rw [hframes, if_neg (by rw [State.transferRoom_managed, decide_eq_true ⟨hseat, hup⟩]; decide)] at hact
    rw [h.transferred_eq] at hact
    obtain ⟨hsvc, hfwd, hmgmt, hanswers, hacct, hothers, hslots, hgen, hentries, hintake, hreserved, hdeferred, hbanks, hmode, htime⟩ :=
      State.stripPool_strips (s := s.transferred f k p n) (n := m) hlisted hqueues.1 rfl
        (by
          rw [State.forwardPlaces_transferred h.2.1, hm]
          split
          · exact (Nat.min_zero _).symm
          · rfl)
    refine ⟨_, (h.exec_act (by simp [MgmtRequest.command])).trans (congrArg Outcome.next hact), hsvc.trans ?_, hfwd,
      by rw [hmgmt]; rfl, hanswers.congr rfl rfl rfl, hacct, hothers, hslots, hgen, hentries, hintake,
      ⟨hreserved.trans h.2.1.1, hdeferred.trans h.2.1.2⟩, hbanks, hmode, htime⟩
    simp only [State.transferred, ServicePort.took, List.append_assoc]
    rfl

end Sys2Proof.Machine
end

section
/-! PROOFS. The deadlines taken next, and what each does to its hold, entry or forward (R68 to R75, R92, R93, R118, R119). -/

namespace Sys2Proof

/-! ### The least element of a list, the first of equals -/

theorem firstBy_eq_some_iff {α : Type} {key : α → Nat} {l : List α} {a : α} :
    firstBy key l = some a ↔
      ∃ before after, l = before ++ a :: after ∧ (∀ x ∈ before, key a < key x) ∧ ∀ x ∈ after, key a ≤ key x := by
  induction l generalizing a with
  | nil => simp [firstBy]
  | cons c l ih =>
    constructor
    · intro h
      rw [firstBy] at h
      split at h
      · next hnone =>
        cases h
        refine ⟨[], l, rfl, by simp, fun x hx => ?_⟩
        cases l with
        | nil => simp at hx
        | cons y l =>
          exfalso
          rw [firstBy] at hnone
          split at hnone
          · cases hnone
          · split at hnone <;> cases hnone
      · next b hb =>
        obtain ⟨before, after, rfl, hbefore, hafter⟩ := ih.1 hb
        split at h
        · next hle =>
          cases h
          refine ⟨[], _, rfl, by simp, fun x hx => ?_⟩
          rcases List.mem_append.1 hx with hx | hx
          · exact Nat.le_trans hle (Nat.le_of_lt (hbefore x hx))
          · rcases List.mem_cons.1 hx with rfl | hx
            · exact hle
            · exact Nat.le_trans hle (hafter x hx)
        · next hnot =>
          cases h
          refine ⟨c :: before, after, rfl, fun x hx => ?_, hafter⟩
          rcases List.mem_cons.1 hx with rfl | hx
          · exact Nat.not_le.1 hnot
          · exact hbefore x hx
    · rintro ⟨before, after, heq, hbefore, hafter⟩
      rw [firstBy]
      cases before with
      | nil =>
        obtain ⟨rfl, rfl⟩ := List.cons.inj heq
        cases hf : firstBy key l with
        | none => rfl
        | some b =>
          obtain ⟨front, back, rfl, -, -⟩ := ih.1 hf
          exact if_pos (hafter b (by simp))
      | cons x before =>
        obtain ⟨rfl, rfl⟩ := List.cons.inj heq
        rw [ih.2 ⟨before, after, rfl, fun y hy => hbefore y (List.mem_cons_of_mem _ hy), hafter⟩]
        exact if_neg (Nat.not_le.2 (hbefore c List.mem_cons_self))

/-- The least of the elements that pass a test, by their places in the whole list. -/
theorem firstBy_filter_eq_some_iff {α : Type} {key : α → Nat} {q : α → Bool} {l : List α} {a : α} :
    firstBy key (l.filter q) = some a ↔
      ∃ before after, l = before ++ a :: after ∧ q a = true ∧ (∀ x ∈ before, q x = true → key a < key x) ∧
        ∀ x ∈ after, q x = true → key a ≤ key x := by
  rw [firstBy_eq_some_iff]
  constructor
  · rintro ⟨B, A, heq, hB, hA⟩
    obtain ⟨l1, l2, rfl, rfl, htail⟩ := List.filter_eq_append_iff.1 heq
    obtain ⟨l3, after, rfl, hnot, ha, rfl⟩ := List.filter_eq_cons_iff.1 htail
    refine ⟨l1 ++ l3, after, by simp, ha, fun x hx hq => ?_, fun x hx hq => hA x (List.mem_filter.2 ⟨hx, hq⟩)⟩
    rcases List.mem_append.1 hx with hx | hx
    · exact hB x (List.mem_filter.2 ⟨hx, hq⟩)
    · exact absurd hq (hnot x hx)
  · rintro ⟨before, after, rfl, ha, hbefore, hafter⟩
    refine ⟨before.filter q, after.filter q, by simp [ha], fun x hx => ?_, fun x hx => ?_⟩
    · obtain ⟨hm, hq⟩ := List.mem_filter.1 hx
      exact hbefore x hm hq
    · obtain ⟨hm, hq⟩ := List.mem_filter.1 hx
      exact hafter x hm hq

/-- Where the test is that the key has been reached, what fails it comes later. -/
theorem firstBy_reached_eq_some_iff {α : Type} {key : α → Nat} {now : Nat} {l : List α} {a : α} :
    firstBy key (l.filter (fun x => decide (key x ≤ now))) = some a ↔
      ∃ before after, l = before ++ a :: after ∧ key a ≤ now ∧ (∀ x ∈ before, key a < key x) ∧ ∀ x ∈ after, key a ≤ key x := by
  rw [firstBy_filter_eq_some_iff]
  simp only [decide_eq_true_eq]
  refine exists_congr fun before => exists_congr fun after => and_congr_right fun _ => and_congr_right fun ha => ?_
  refine and_congr (forall₂_congr fun x _ => ⟨fun h => ?_, fun h _ => h⟩) (forall₂_congr fun x _ => ⟨fun h => ?_, fun h _ => h⟩)
  · refine Classical.byContradiction fun hn => ?_
    exact hn (h (by omega))
  · refine Classical.byContradiction fun hn => ?_
    exact hn (h (by omega))

namespace Machine

open Host

variable {s : State}

/-! ### Wait deadlines and forward deadlines (R92, R118) -/

theorem lateWith_eq (late : List Key) (k : Key) :
    (late.length < 64 → lateWith late k = late ++ [k]) ∧ (late.length = 64 → lateWith late k = late.tail ++ [k]) := by
  refine ⟨fun h => ?_, fun h => ?_⟩
  · have hz : late.length + 1 - Config.lateKeys = 0 := by simp only [Config.lateKeys]; omega
    rw [lateWith, hz, List.drop_zero]
  · cases late with
    | nil => simp at h
    | cons x late =>
      have hone : (x :: late).length + 1 - Config.lateKeys = 1 := by rw [h]; rfl
      rw [lateWith, hone]
      rfl

/-- An entry out of the store, its client answered, and its pool's pass asked for where it was the head. -/
theorem State.expire_eq (e : WaitEntry) :
    (s.unlinkAsking e).toFarm e.addrs e.key .waitExpired =
      { s with
        farm := ((s.unlinkAsking e).toFarm e.addrs e.key .waitExpired).farm, queues := (s.unlinkAsking e).queues,
        accounts := (s.unlinkAsking e).accounts } := by
  refine (State.toFarm_uncounted (s := s.unlinkAsking e) (b := .waitExpired) fun _ => rfl).trans ?_
  simp only [State.unlinkAsking]
  split <;> rfl

theorem State.retry_offered {v : State} (hf : v.farm = s.farm) (hp : v.mgmt.params = s.mgmt.params) (a : Addrs) (k : Key)
    (r : RetryReason) : Answers s (v.retry a k r) a k (.retry r s.mgmt.params.retryHint) := by
  rw [State.retry, hp]
  exact (v.toFarm_offered a k _).congr hf.symm (by rw [hp]) rfl

theorem State.timeOut_eq (s : State) (e : Forward) :
    s.timeOut e =
      { s with
        farm := (s.timeOut e).farm,
        fwd := { entries := s.fwd.entries.eraseP (fun x => x.key = e.key), late := lateWith s.fwd.late e.key },
        mgmt := { s.mgmt with stats := { s.mgmt.stats with forwardTimeouts := bump s.mgmt.stats.forwardTimeouts } } } :=
  State.toFarm_uncounted (fun _ => rfl)

/-- Settles O44: the least deadline by the two filters, and what its end does. -/
theorem waitAndForwardDeadlinesAreTaken : Obligations.WaitAndForwardDeadlinesAreTaken := by
  unfold Obligations.WaitAndForwardDeadlinesAreTaken
  refine ⟨fun e s => firstBy_reached_eq_some_iff, fun e s => firstBy_reached_eq_some_iff, fun e s h => ?_, fun e s h => ?_⟩
  · have hnext : exec .waitDeadlineExpiry s = .next ((s.unlinkAsking e).toFarm e.addrs e.key .waitExpired) := by
      change execWaitDeadlineExpiry s = _
      simp only [execWaitDeadlineExpiry, h]
    have heq := State.expire_eq (s := s) e
    have hacct : ∀ p, ((s.unlinkAsking e).toFarm e.addrs e.key .waitExpired).acct p =
        if p = e.pool then { s.acct p with queueLength := (s.acct p).queueLength - 1 } else s.acct p := fun p => by
      rw [State.acct_congr (s := s.unlinkAsking e) (by simp), State.acct_unlinkAsking, State.acct_unlink]
    refine ⟨_, hnext, ((s.unlinkAsking e).toFarm_offered e.addrs e.key .waitExpired).congr (by simp) (by simp) rfl,
      by simp [State.entries_unlinkAsking], (hacct _).trans (if_pos rfl), fun q hq => (hacct q).trans (if_neg hq), fun hs => ?_,
      fun hs => ?_, ?_, by simp⟩
    · rw [State.unlinkAsking_of_head hs]
      simp [State.askPass, mem_insertNat]
    · rw [State.unlinkAsking_of_behind hs]
      simp [State.unlink]
    · simpa using heq
  · have hnext : exec .forwardDeadlineExpiry s = .next (s.timeOut e) := by
      change execForwardDeadlineExpiry s = _
      simp only [execForwardDeadlineExpiry, h]
    obtain ⟨hroom, hfull⟩ := lateWith_eq s.fwd.late e.key
    have heq := s.timeOut_eq e
    refine ⟨_, hnext, ?_, by rw [heq], fun hl => ?_, fun hl => ?_, by rw [heq], heq.trans ?_, by simp [State.timeOut, State.retry]⟩
    · exact State.retry_offered rfl rfl e.addrs e.key .serviceSlow
    · rw [heq]; exact hroom hl
    · rw [heq]; exact hfull hl
    · rw [heq]

/-! ### Hold deadlines (R68 to R70, R72, R74) -/

theorem State.takesDeadline_iff (s : State) (c : HoldState) :
    s.takesDeadline c = true ↔
      s.mode = .serving ∨ s.mode = .draining ∨ ((s.mode = .entering ∨ s.mode = .reconciling) ∧ c = .active) := by
  rw [State.takesDeadline]
  cases s.mode <;> simp

theorem State.deadlineReached_iff (hlisted : SlotsListed s) (n : Nat) (x : Hold) :
    s.DeadlineReached n x ↔
      (n, x) ∈ s.holds.slots ∧ (decide (x.deadline ≤ s.time.now) && s.takesDeadline x.state) = true := by
  rw [State.DeadlineReached, Bool.and_eq_true, decide_eq_true_eq, State.takesDeadline_iff]
  exact and_congr_left fun _ => (Table.mem_iff_get? hlisted.1).symm

/-- The deadline taken next is the least, and the lowest slot's of equal ones. -/
theorem State.nextDeadline_eq_some_iff (hlisted : SlotsListed s) (slot : Nat) (h : Hold) :
    s.nextDeadline = some (slot, h) ↔
      s.DeadlineReached slot h ∧
        ∀ n x, s.DeadlineReached n x → h.deadline < x.deadline ∨ (h.deadline = x.deadline ∧ slot ≤ n) := by
  simp only [State.deadlineReached_iff hlisted]
  rw [State.nextDeadline, firstBy_filter_eq_some_iff]
  constructor
  · rintro ⟨before, after, heq, htaken, hbefore, hafter⟩
    have hrising := hlisted.1
    rw [Table.Rising, heq, List.pairwise_append, List.pairwise_cons] at hrising
    obtain ⟨-, ⟨habove, -⟩, -⟩ := hrising
    refine ⟨⟨by rw [heq]; simp, htaken⟩, fun n x ⟨hm, hx⟩ => ?_⟩
    rw [heq, List.mem_append, List.mem_cons] at hm
    rcases hm with hm | hm | hm
    · exact .inl (hbefore _ hm hx)
    · cases hm
      exact .inr ⟨rfl, Nat.le_refl _⟩
    · exact (Nat.lt_or_eq_of_le (hafter _ hm hx)).imp_right fun hd => ⟨hd, Nat.le_of_lt (habove _ hm)⟩
  · rintro ⟨⟨hm, htaken⟩, hleast⟩
    obtain ⟨before, after, heq⟩ := List.append_of_mem hm
    have hrising := hlisted.1
    rw [Table.Rising, heq, List.pairwise_append] at hrising
    obtain ⟨-, -, hbelow⟩ := hrising
    refine ⟨before, after, heq, htaken, fun x hx hq => ?_, fun x hx hq => ?_⟩
    · refine (hleast x.1 x.2 ⟨by rw [heq]; simp [hx], hq⟩).resolve_right fun ⟨_, hle⟩ => ?_
      exact Nat.not_le.2 (hbelow x hx (slot, h) List.mem_cons_self) hle
    · exact (hleast x.1 x.2 ⟨by rw [heq]; simp [hx], hq⟩).elim Nat.le_of_lt fun hd => Nat.le_of_eq hd.1

/-- A reclaim is a removal that is counted (R61, R69). -/
theorem State.reclaim_removed (slot : Nat) (h : Hold)
    (hx : (s.acct h.pool).overcommit = decide (s.effectiveCeiling h.pool < (s.acct h.pool).h)) :
    Removed s (s.reclaim slot h) slot h ∧ ReportsRemoval s (s.reclaim slot h) slot h .reclaim ∧
      (s.reclaim slot h).mgmt.stats.reclaims = bump s.mgmt.stats.reclaims := by
  refine ⟨?_, ?_, by simp [State.reclaim]⟩
  · simpa [Removed, State.reclaim, OtherSlots, OtherAccounts, State.acct, State.generation] using
      State.removeHold_removed s slot h .reclaim hx
  · simpa [ReportsRemoval, State.reclaim, State.acct, State.eventPending] using State.removeHold_reports s slot h .reclaim hx

/-- Settles O43: the least deadline, and by the hold's state its renewal's expiry, its reclaim or its end. -/
theorem holdDeadlinesAreTaken : Obligations.HoldDeadlinesAreTaken := by
  unfold Obligations.HoldDeadlinesAreTaken
  refine ⟨fun slot h s hlisted => State.nextDeadline_eq_some_iff hlisted slot h, fun slot h s hnext hx =>
    ⟨fun ha hgrace => ?_, fun c change hc => ?_⟩⟩
  · have hexec : exec .renewDeadlineExpiry s = .next (s.expireRenewal slot h) := by
      change execRenewDeadlineExpiry s = _
      simp only [execRenewDeadlineExpiry, hnext, ha, if_true]
    have hstale : s.expireRenewal slot h = s.putHold slot (h.staled (s.record h.pool).grace) :=
      if_neg fun ⟨hz, hr⟩ => hgrace.elim (absurd hz) fun hm => by simp [State.reconciling, hm] at hr
    obtain ⟨hput, hothers, -⟩ := otherSlots_put (s := s) (t := s.putHold slot (h.staled (s.record h.pool).grace)) rfl
    exact ⟨_, hexec.trans (congrArg Outcome.next hstale), hput, hothers, rfl⟩
  · rcases hc with ⟨ha, hg, he, hr, rfl, rfl⟩ | ⟨hs, rfl, rfl⟩ | ⟨hl, rfl, rfl⟩
    · have hexec : exec .renewDeadlineExpiry s = .next (s.expireRenewal slot h) := by
        change execRenewDeadlineExpiry s = _
        simp only [execRenewDeadlineExpiry, hnext, ha, if_true]
      have hreclaim : s.expireRenewal slot h = s.reclaim slot h := if_pos ⟨hg, by simp [State.reconciling, he, hr]⟩
      obtain ⟨hremoved, hreports, hcount⟩ := State.reclaim_removed (s := s) slot h (hx _)
      exact ⟨_, hexec.trans (congrArg Outcome.next hreclaim), hremoved, hreports, hcount, by simp⟩
    · have hexec : exec .graceEndReclaim s = .next (s.reclaim slot h) := by
        change execGraceEndReclaim s = _
        simp only [execGraceEndReclaim, hnext, hs, if_true]
      obtain ⟨hremoved, hreports, hcount⟩ := State.reclaim_removed (s := s) slot h (hx _)
      exact ⟨_, hexec, hremoved, hreports, hcount, by simp⟩
    · have hexec : exec .lingerEnd s = .next (s.removeHold slot h .lingerEnd) := by
        change execLingerEnd s = _
        simp only [execLingerEnd, hnext, hl, if_true]
      exact ⟨_, hexec, State.removeHold_removed s slot h .lingerEnd (hx _), State.removeHold_reports s slot h .lingerEnd (hx _),
        by simp, by simp⟩

end Machine
end Sys2Proof
end

section
/-! PROOFS. The end of a pool's queue: its last entries answered and removed (R94, R95). -/

namespace Sys2Proof.Machine

open Host

variable {s t u : State}

theorem take_take_append {α : Type} (n : Nat) (l m : List α) : (l.take n ++ m).take n = (l ++ m).take n := by
  rcases Nat.le_total n l.length with h | h
  · rw [List.take_append_of_le_length (by rw [List.length_take]; exact Nat.le_min.2 ⟨Nat.le_refl n, h⟩), List.take_append_of_le_length h, List.take_take, Nat.min_self]
  · rw [List.take_of_length_le h]

/-- The answers of one part of a work and then of the next. -/
theorem AnswersAll.trans {xs ys : List (WaitEntry × FarmBody)} (hx : AnswersAll s u xs) (hy : AnswersAll u t ys)
    (hp : u.mgmt.params.seatType = s.mgmt.params.seatType) : AnswersAll s t (xs ++ ys) := by
  intro hl
  obtain ⟨h1, h2⟩ := hx hl
  have hlen : u.farm.replies.length = min Config.farmReplies (s.farm.replies.length + xs.length) := by rw [h1]; simp
  obtain ⟨h3, h4⟩ := hy (by omega)
  rw [hp] at h3
  refine ⟨?_, ?_⟩
  · rw [h3, h1, List.map_append, ← List.append_assoc, take_take_append]
  · rw [h4, h2, hlen, List.length_append]
    simp only [counted]
    omega

/-- Of a pool's queue the part behind `keep` leaves, each entry answered with `b`. -/
theorem State.dismissAll_tail {b : FarmBody} {p : Nat} {keep gone : List WaitEntry} (hkeys : KeysUnique s)
    (hsplit : s.poolQueue p = keep ++ gone) (ht : t = s.dismissAll b gone) :
    t.poolQueue p = keep ∧ (∀ q, q ≠ p → t.poolQueue q = s.poolQueue q) ∧
      t.acct p = { s.acct p with queueLength := (s.acct p).queueLength - gone.length } ∧ OtherAccounts s t p ∧
      AnswersAll s t (gone.map (fun e => (e, b))) ∧ KeysUnique t ∧ t.queues.entries.length + gone.length = s.queues.entries.length ∧
      (∀ e ∈ s.queues.entries, e ∉ gone → e ∈ t.queues.entries) ∧ t.queues = { s.queues with entries := t.queues.entries } := by
  obtain ⟨hqueues, haccts⟩ := (unlinks_dismiss b).foldl gone s
  have hanswers := State.dismissAll_answers b gone s
  have hfwd : (s.dismissAll b gone).fwd = s.fwd := by simp
  rw [← State.dismissAll, ← ht] at hqueues haccts
  rw [← ht] at hanswers hfwd
  have hentries : t.queues.entries = s.queues.entries.filter (fun x => ∀ e ∈ gone, x.key ≠ e.key) := by
    rw [hqueues, foldl_eraseP_eq_filter _ hkeys.entries_nodup]
  have hmem : ∀ e ∈ gone, e ∈ s.queues.entries ∧ e.pool = p := fun e he => by
    have h := List.mem_append_right keep he
    rw [← hsplit, State.poolQueue] at h
    simpa using h
  have hnodup : (keep ++ gone).Pairwise (fun a b => a.key ≠ b.key) := by
    rw [← hsplit]
    exact (List.pairwise_map.1 hkeys.entries_nodup).filter _
  obtain ⟨-, -, hapart⟩ := List.pairwise_append.1 hnodup
  have hqueue : ∀ q, t.poolQueue q = (s.poolQueue q).filter (fun x => ∀ e ∈ gone, x.key ≠ e.key) := fun q => by
    rw [State.poolQueue, hentries, State.poolQueue, List.filter_filter, List.filter_filter]
    exact List.filter_congr fun x _ => Bool.and_comm _ _
  have hpool : t.poolQueue p = keep := by
    have hkept : keep.filter (fun x => ∀ e ∈ gone, x.key ≠ e.key) = keep :=
      List.filter_eq_self.2 fun x hx => by simpa using fun e he => hapart x hx e he
    have hgone : gone.filter (fun x => ∀ e ∈ gone, x.key ≠ e.key) = [] :=
      List.filter_eq_nil_iff.2 fun x hx => by simpa using ⟨x, hx, rfl⟩
    rw [hqueue, hsplit, List.filter_append, hkept, hgone, List.append_nil]
  have hothers : ∀ q, q ≠ p → t.poolQueue q = s.poolQueue q := fun q hq => by
    rw [hqueue, List.filter_eq_self]
    intro x hx
    obtain ⟨hm, hxq⟩ := List.mem_filter.1 hx
    simp only [decide_eq_true_eq]
    intro e he hk
    obtain ⟨hme, hep⟩ := hmem e he
    have hsame := eq_of_nodup_map hkeys.entries_nodup hm hme hk
    exact hq ((of_decide_eq_true hxq).symm.trans ((congrArg WaitEntry.pool hsame).trans hep))
  refine ⟨hpool, hothers, ?_, fun q hq => ?_, hanswers, hkeys.of_sublist ((hentries ▸ List.filter_sublist).map _) (hfwd ▸ List.Sublist.refl _), ?_, fun e he hn => ?_,
    ?_⟩
  · rw [haccts, List.countP_eq_length.2 fun e he => by simp [(hmem e he).2]]
  · rw [haccts, List.countP_eq_zero.2 fun e he => by simpa [(hmem e he).2] using Ne.symm hq]
    rfl
  · have hperm : (s.queues.entries.filter (fun x => !decide (∀ e ∈ gone, x.key ≠ e.key))).Perm gone := by
      refine (List.perm_ext_iff_of_nodup ((nodup_of_nodup_map hkeys.entries_nodup).filter _)
        ((List.pairwise_append.1 hnodup).2.1.imp fun hne heq => hne (congrArg WaitEntry.key heq))).2 fun x => ?_
      simp only [List.mem_filter, Bool.not_eq_true', decide_eq_false_iff_not, Classical.not_forall, Classical.not_not]
      refine ⟨fun ⟨hx, e, he, hk⟩ => ?_, fun hx => ⟨(hmem x hx).1, x, hx, rfl⟩⟩
      exact eq_of_nodup_map hkeys.entries_nodup hx (hmem e he).1 hk ▸ he
    rw [hentries, ← hperm.length_eq]
    exact List.length_append.symm.trans (List.filter_append_perm ..).length_eq
  · rw [hentries, List.mem_filter]
    refine ⟨he, ?_⟩
    simp only [decide_eq_true_eq]
    intro x hx hk
    exact hn (eq_of_nodup_map hkeys.entries_nodup he (hmem x hx).1 hk ▸ hx)
  · rw [hqueues]

end Sys2Proof.Machine
end

section
/-! PROOFS. DAY_CHANGE (R94, R138). -/

namespace Sys2Proof.Machine

open Host

variable {s t : State}

/-- The queues of ended pools have been denied, and nothing else has changed that a pass or a switch reads. -/
structure EndedDenied (day : Nat) (ps : List Nat) (s t : State) (answers : List (WaitEntry × FarmBody)) : Prop where
  queue : ∀ p, t.poolQueue p = if p ∈ ps ∧ (s.record p).endedBy day = true then [] else s.poolQueue p
  answered : AnswersAll s t answers
  places : answers.length + t.queues.entries.length = s.queues.entries.length
  left : ∀ e ∈ s.queues.entries, e ∈ t.queues.entries ∨ (e, FarmBody.deny .outOfWindow) ∈ answers
  keys : KeysUnique t
  marks : t.queues.marks = s.queues.marks
  kept : t.time = s.time ∧ t.holds = s.holds ∧ t.fwd = s.fwd ∧ t.banks = s.banks ∧ t.mode = s.mode ∧ t.link = s.link ∧
    t.mgmt.params = s.mgmt.params

theorem State.denyEnded_denied (day p : Nat) (h : KeysUnique s) : ∃ answers, EndedDenied day [p] s (s.denyEnded day p) answers := by
  by_cases he : (s.record p).endedBy day = true
  · have hdeny : s.denyEnded day p = s.dismissAll (.deny .outOfWindow) (s.poolQueue p) := if_pos he
    obtain ⟨hpool, hothers, -, -, hanswers, hkeys, hlength, hleft, hqueues⟩ :=
      State.dismissAll_tail (keep := []) (b := .deny .outOfWindow) h (p := p) rfl hdeny
    refine ⟨_, fun q => ?_, hanswers, by rw [List.length_map, Nat.add_comm, hlength], fun e hm => ?_, hkeys, by rw [hqueues],
      by simp [State.denyEnded, he]⟩
    · by_cases hq : q = p
      · simpa [hq, he] using hpool
      · simp [hq, hothers q hq]
    · by_cases hg : e ∈ s.poolQueue p
      · exact .inr (List.mem_map.2 ⟨e, hg, rfl⟩)
      · exact .inl (hleft e hm hg)
  · have hdeny : s.denyEnded day p = s := if_neg he
    rw [hdeny]
    refine ⟨[], fun q => ?_, answersAll_nil rfl rfl, by simp, fun e hm => .inl hm, h, rfl, by simp⟩
    by_cases hq : q = p <;> simp [hq, he]

theorem EndedDenied.cons {u : State} {day p : Nat} {ps : List Nat} {xs ys : List (WaitEntry × FarmBody)}
    (h1 : EndedDenied day [p] s u xs) (h2 : EndedDenied day ps u t ys) : EndedDenied day (p :: ps) s t (xs ++ ys) := by
  obtain ⟨htime, hholds, hfwd, hbanks, hmode, hlink, hparams⟩ := h1.kept
  obtain ⟨htime2, hholds2, hfwd2, hbanks2, hmode2, hlink2, hparams2⟩ := h2.kept
  refine ⟨fun q => ?_, h1.answered.trans h2.answered (by rw [hparams]), ?_, fun e he => ?_, h2.keys, h2.marks.trans h1.marks,
    htime2.trans htime, hholds2.trans hholds, hfwd2.trans hfwd, hbanks2.trans hbanks, hmode2.trans hmode, hlink2.trans hlink,
    hparams2.trans hparams⟩
  · rw [h2.queue, h1.queue, State.record_congr hbanks]
    by_cases he : (s.record q).endedBy day = true
    · simp only [he, and_true, List.mem_cons, List.not_mem_nil, or_false]
      by_cases hm : q ∈ ps
      · rw [if_pos hm, if_pos (.inr hm)]
      · simp only [hm, or_false, if_false]
    · simp only [he, Bool.false_eq_true, and_false, if_false]
  · rw [List.length_append, Nat.add_assoc, h2.places, h1.places]
  · rcases h1.left e he with h | h
    · exact (h2.left e h).imp_right (List.mem_append_right _)
    · exact .inr (List.mem_append_left _ h)

theorem State.denyEnded_all (day : Nat) (ps : List Nat) (h : KeysUnique s) :
    ∃ answers, EndedDenied day ps s (ps.foldl (fun t p => t.denyEnded day p) s) answers := by
  induction ps generalizing s with
  | nil => exact ⟨[], fun q => by simp, answersAll_nil rfl rfl, by simp, fun e he => .inl he, h, rfl, by simp⟩
  | cons p ps ih =>
    obtain ⟨xs, h1⟩ := State.denyEnded_denied day p h
    obtain ⟨ys, h2⟩ := ih h1.keys
    exact ⟨xs ++ ys, h1.cons h2⟩

theorem State.mem_filledPools {p : Nat} {r : PoolRecord} (h : s.record? p = some r) : p ∈ s.filledPools := by
  obtain ⟨b, hb, hr⟩ := Option.bind_eq_some_iff.1 h
  exact List.mem_map.2 ⟨(p, r), by rw [hb]; exact Table.get?_mem hr, rfl⟩

/-- A pool whose record has ended has a record. -/
theorem State.mem_filledPools_of_ended {p day : Nat} (h : (s.record p).endedBy day = true) : p ∈ s.filledPools := by
  cases hr : s.record? p with
  | none => simp [State.record, hr, PoolRecord.endedBy, PoolRecord.blank] at h
  | some r => exact State.mem_filledPools hr

/-- Settles O47: the denials run over the filled pools, which hold every ended one, and the passes are asked for behind them. -/
theorem dayChangeClosesAndOpensPools : Obligations.DayChangeClosesAndOpensPools := by
  unfold Obligations.DayChangeClosesAndOpensPools
  intro d rest s hcount howed
  have hexec : exec .dayChange s = .next ((s.setTime { s.time with dayOwed := rest }).changeDay d) := by
    change execDayChange s = _
    simp only [execDayChange, howed]
  obtain ⟨answers, hdenied⟩ := State.denyEnded_all (s := s.setTime { s.time with dayOwed := rest }) d.new s.filledPools hcount.1
  obtain ⟨htime, hholds, hfwd, hbanks, hmode, hlink, -⟩ := hdenied.kept
  have hended : ∀ p, (s.record p).endDay ≠ 65535 ∧ (s.record p).endDay < d.new ↔ (s.record p).endedBy d.new = true := fun p => by
    simp [PoolRecord.endedBy]
  have hqueue : ∀ p, (s.filledPools.foldl (fun t p => t.denyEnded d.new p) (s.setTime { s.time with dayOwed := rest })).poolQueue p =
      if (s.record p).endDay ≠ 65535 ∧ (s.record p).endDay < d.new then [] else s.poolQueue p := fun p => by
    rw [hdenied.queue]
    simp only [hended]
    by_cases he : (s.record p).endedBy d.new = true
    · rw [if_pos ⟨State.mem_filledPools_of_ended he, he⟩, if_pos he]
    · rw [if_neg fun h => he h.2, if_neg he]
      rfl
  have hday : (s.setTime { s.time with dayOwed := rest }).changeDay d =
      (s.filledPools.foldl (fun t p => t.denyEnded d.new p) (s.setTime { s.time with dayOwed := rest })).askAllOrdered
        (s.filledPools.filter (s.entersWindow d)) := rfl
  rw [hday] at hexec
  generalize s.filledPools.foldl (fun t p => t.denyEnded d.new p) (s.setTime { s.time with dayOwed := rest }) = denied at *
  obtain ⟨-, hanswers, hplaces, hleft, -, hmarks, -⟩ := hdenied
  have hentries := State.entries_askAllOrdered (s.filledPools.filter (s.entersWindow d)) denied
  refine ⟨_, hexec, by simpa using htime, fun p => ?_, fun e he h1 h2 hroom => ?_, fun p r hr h1 h2 => ?_, fun p hp => ?_,
    by simpa using hholds, by simpa using hfwd, by simpa using hbanks, by simpa using hmode, by simpa using hlink⟩
  · rw [State.poolQueue, hentries]
    exact hqueue p
  · have hgone : e ∉ denied.queues.entries := fun hm => by
      have hnone := hqueue e.pool
      rw [if_pos ⟨h1, h2⟩, State.poolQueue, List.filter_eq_nil_iff] at hnone
      exact hnone e hm (by simp)
    have hfull : s.farm.replies.length + answers.length ≤ Config.farmReplies := by
      have hlength : answers.length + denied.queues.entries.length = s.queues.entries.length := hplaces
      simp only [Config.farmReplies]
      omega
    obtain ⟨hreplies, -⟩ := hanswers (show s.farm.replies.length ≤ Config.farmReplies by omega)
    rw [List.take_of_length_le (by simpa using hfull)] at hreplies
    have hmem := (hleft e he).resolve_left hgone
    rw [show (denied.askAllOrdered (s.filledPools.filter (s.entersWindow d))).farm = denied.farm by simp, hreplies]
    exact List.mem_append_right _ (List.mem_map.2 ⟨_, hmem, rfl⟩)
  · refine (State.mem_askAllOrdered _ _ _).2 (.inr (List.mem_filter.2 ⟨State.mem_filledPools hr, ?_⟩))
    have hrecord : s.record p = r := by rw [State.record, hr]; rfl
    simp [State.entersWindow, hrecord, h1, h2]
  · exact (State.mem_askAllOrdered _ _ _).2 (.inl (by rw [hmarks]; exact hp))

end Sys2Proof.Machine
end

section
/-! PROOFS. EPOCH_BOUNDARY: the roll, and the pending switch applied pool by pool (R36, R94, R95, R128, R129, R137). -/

namespace Sys2Proof.Machine

open Host

variable {s t u before : State}

/-! ### The response's passes (R31, R32) -/

theorem State.mem_marks_reevaluate (s : State) (p q : Nat) :
    q ∈ (s.reevaluate p).queues.marks ↔
      q ∈ s.queues.marks ∨
        (q = p ∧ (s.acct p).state ≠ .absent ∧ (s.acct p).overcommit = true ∧ ¬s.effectiveCeiling p < (s.acct p).h) := by
  simp only [State.reevaluate]
  by_cases hlt : s.effectiveCeiling p < (s.acct p).h
  · rw [if_pos hlt]
    split <;> simp [hlt]
  · rw [if_neg hlt]
    by_cases ho : (s.acct p).overcommit = true
    · rw [if_pos ho, State.mem_accountAsks]
      simp [State.delegated, ho, hlt]
    · rw [if_neg ho]
      simp [ho]

/-- A pool whose account asks for a pass once its ceilings stand as they now do (R31, R32). -/
def State.AccountAsks (before s : State) (p : Nat) : Prop :=
  (s.acct p).state ≠ .absent ∧
    (before.ceiling p < s.ceiling p ∨ before.effectiveCeiling p < s.effectiveCeiling p ∨
      ((s.acct p).overcommit = true ∧ ¬s.effectiveCeiling p < (s.acct p).h))

theorem State.mem_marks_respond (before s : State) (p q : Nat) :
    q ∈ (State.respond before p s).queues.marks ↔ q ∈ s.queues.marks ∨ (q = p ∧ State.AccountAsks before s p) := by
  have hacct := s.acct_reevaluate p p
  rw [if_pos rfl] at hacct
  have hc : (s.reevaluate p).ceiling p = s.ceiling p := State.ceiling_congr (by simp) p (by rw [hacct])
  have he : (s.reevaluate p).effectiveCeiling p = s.effectiveCeiling p :=
    State.effectiveCeiling_congr (by simp) (by simp) p (by rw [hacct]) (by rw [hacct])
  have hd : (s.reevaluate p).delegated p = true ↔ (s.acct p).state ≠ .absent := by rw [State.delegated, hacct]; simp
  simp only [State.respond, hc, he, State.AccountAsks]
  split
  · next hrise =>
    rw [State.mem_accountAsks, State.mem_marks_reevaluate, hd]
    grind
  · next hflat =>
    rw [State.mem_marks_reevaluate]
    grind

/-! ### What a switch does to one pool (R95, R129) -/

/-- The pool's record has ended by today (R94). -/
def State.endedNow (s : State) (p : Nat) : Bool :=
  match s.today with
  | none => false
  | some day => (s.record p).endedBy day

theorem State.endedNow_iff (s : State) (p : Nat) :
    s.endedNow p = true ↔
      s.time.source ≠ .unset ∧ (s.record p).endDay ≠ 65535 ∧ (s.record p).endDay < s.time.now / 86400000 := by
  by_cases hu : s.time.source = .unset
  · simp [State.endedNow, State.today, hu]
  · simp [State.endedNow, State.today, hu, PoolRecord.endedBy, dayNumber, Config.dayMs]

/-- What a switch leaves of a pool's queue. -/
def State.queueKept (s : State) (p : Nat) : List WaitEntry :=
  if s.endedNow p = true then [] else (s.poolQueue p).take (s.record p).queueLimit

/-- The answers of a switch to a pool's entries. -/
def State.switchAnswers (s : State) (p : Nat) : List (WaitEntry × FarmBody) :=
  ((s.poolQueue p).drop (s.record p).queueLimit).map (fun e => (e, FarmBody.withdrawn)) ++
    if s.endedNow p = true then ((s.poolQueue p).take (s.record p).queueLimit).map (fun e => (e, FarmBody.deny .outOfWindow)) else []

/-- The pools of a list have responded to a switch made since `before`, and their queues have been cut to it. -/
structure PoolsSwitched (before : State) (ps : List Nat) (s t : State) : Prop where
  acct : ∀ p, t.acct p =
    if p ∈ ps then
      { s.acct p with overcommit := decide (s.effectiveCeiling p < (s.acct p).h), queueLength := (t.poolQueue p).length }
    else s.acct p
  queue : ∀ p, t.poolQueue p = if p ∈ ps then s.queueKept p else s.poolQueue p
  answered : AnswersAll s t (ps.flatMap s.switchAnswers)
  keys : KeysUnique t
  marks : ∀ p, p ∈ t.queues.marks ↔ p ∈ s.queues.marks ∨ (p ∈ ps ∧ State.AccountAsks before s p)
  events : ∀ e, s.eventPending e = true → t.eventPending e = true
  raised : ∀ p ∈ ps, (s.acct p).overcommit = false → s.effectiveCeiling p < (s.acct p).h → t.eventPending .poolOvercommit = true
  kept : t.banks = s.banks ∧ t.link = s.link ∧ t.time = s.time ∧ t.mgmt.params = s.mgmt.params

theorem State.eventPending_dismissAll (b : FarmBody) (es : List WaitEntry) (s : State) (e : Event) :
    (s.dismissAll b es).eventPending e = s.eventPending e := by
  induction es generalizing s with
  | nil => rfl
  | cons x es ih =>
    refine (ih (s.dismiss b x)).trans ?_
    simp [State.eventPending, State.dismiss]

/-- A pool's queue cut to the pool's record (R94, R95). -/
def State.cutQueue (p : Nat) (s : State) : State :=
  if s.endedNow p = true then (s.withdrawBeyond p).dismissAll (.deny .outOfWindow) ((s.withdrawBeyond p).poolQueue p)
  else s.withdrawBeyond p

theorem State.applyToPool_eq (before : State) (p : Nat) (s : State) :
    State.applyToPool before p s = (State.respond before p s).cutQueue p := by
  have htoday : (State.respond before p s).today = s.today := by simp [State.today]
  have hrecord : ((State.respond before p s).withdrawBeyond p).record p = (State.respond before p s).record p :=
    State.record_congr (by simp) p
  cases h : s.today with
  | none => simp only [State.applyToPool, State.cutQueue, State.endedNow, htoday, h, Bool.false_eq_true, if_false]
  | some day => simp only [State.applyToPool, State.cutQueue, State.endedNow, htoday, h, State.denyEnded, hrecord]

theorem State.cutQueue_cut (p : Nat) (hkeys : KeysUnique s) (hcount : (s.acct p).queueLength = (s.poolQueue p).length)
    (ht : t = s.cutQueue p) :
    t.poolQueue p = s.queueKept p ∧ (∀ q, q ≠ p → t.poolQueue q = s.poolQueue q) ∧
      t.acct p = { s.acct p with queueLength := (t.poolQueue p).length } ∧ OtherAccounts s t p ∧
      AnswersAll s t (s.switchAnswers p) ∧ KeysUnique t ∧ t.queues.marks = s.queues.marks ∧
      ∀ e, t.eventPending e = s.eventPending e := by
  obtain ⟨hpool, hpools, hacct, haccts, hanswers, hwkeys, -, -, hqueues⟩ :=
    State.dismissAll_tail (b := .withdrawn) (t := s.withdrawBeyond p) (p := p) hkeys
      (List.take_append_drop (s.record p).queueLimit (s.poolQueue p)).symm rfl
  have hevents : ∀ e, (s.withdrawBeyond p).eventPending e = s.eventPending e := State.eventPending_dismissAll _ _ s
  have hparams : (s.withdrawBeyond p).mgmt.params = s.mgmt.params := by simp
  have hlength : (s.acct p).queueLength - ((s.poolQueue p).drop (s.record p).queueLimit).length =
      ((s.withdrawBeyond p).poolQueue p).length := by
    rw [hpool, hcount, List.length_drop, List.length_take]; omega
  rw [hlength] at hacct
  rw [State.cutQueue] at ht
  by_cases he : s.endedNow p = true
  · rw [if_pos he] at ht
    obtain ⟨hpool2, hpools2, hacct2, haccts2, hanswers2, hkeys2, -, -, hqueues2⟩ :=
      State.dismissAll_tail (keep := []) (gone := (s.withdrawBeyond p).poolQueue p) (p := p) hwkeys rfl ht
    refine ⟨hpool2.trans (by rw [State.queueKept, if_pos he]), fun q hq => (hpools2 q hq).trans (hpools q hq), ?_,
      fun q hq => (haccts2 q hq).trans (haccts q hq), ?_, hkeys2, by rw [hqueues2, hqueues], fun e => ?_⟩
    · rw [hacct2, hacct, hpool2]
      simp
    · rw [hpool] at hanswers2
      rw [State.switchAnswers, if_pos he]
      exact hanswers.trans hanswers2 (by rw [hparams])
    · rw [ht, State.eventPending_dismissAll, hevents]
  · rw [if_neg he] at ht
    subst ht
    refine ⟨hpool.trans (by rw [State.queueKept, if_neg he]), hpools, hacct, haccts, ?_, hwkeys, by rw [hqueues], hevents⟩
    rw [State.switchAnswers, if_neg he, List.append_nil]
    exact hanswers

theorem State.applyToPool_switched (before : State) (p : Nat) (hkeys : KeysUnique s)
    (hcount : (s.acct p).queueLength = (s.poolQueue p).length) : PoolsSwitched before [p] s (State.applyToPool before p s) := by
  obtain ⟨r, hr⟩ : ∃ r, r = State.respond before p s := ⟨_, rfl⟩
  have hacct : ∀ q, r.acct q = if p = q then { s.acct p with overcommit := decide (s.effectiveCeiling p < (s.acct p).h) } else s.acct q :=
    hr ▸ State.acct_respond before s p
  have hentries : r.queues.entries = s.queues.entries := by rw [hr, State.entries_respond]
  have hqueue : ∀ q, r.poolQueue q = s.poolQueue q := fun q => by rw [State.poolQueue, hentries]; rfl
  have hsame : r.endedNow p = s.endedNow p ∧ r.record p = s.record p := by simp [hr, State.endedNow, State.today, State.record, State.record?]
  have hkept : r.queueKept p = s.queueKept p ∧ r.switchAnswers p = s.switchAnswers p := by
    simp only [State.queueKept, State.switchAnswers, hqueue, hsame, and_self]
  obtain ⟨hpool, hpools, hcut, hothers, hanswers, hckeys, hmarks, hevents⟩ :=
    r.cutQueue_cut p (hkeys.congr hentries (by rw [hr]; simp)) (by rw [hacct, if_pos rfl, hqueue]; exact hcount) rfl
  rw [State.applyToPool_eq, ← hr]
  refine ⟨fun q => ?_, fun q => ?_, ?_, hckeys, fun q => ?_, fun e he => ?_, fun q hq hf hlt => ?_, ?_⟩
  · by_cases hq : q = p
    · subst hq
      rw [hcut, hacct, if_pos rfl, if_pos (by simp)]
    · rw [hothers q hq, hacct, if_neg (Ne.symm hq), if_neg (by simpa using hq)]
  · by_cases hq : q = p
    · subst hq
      rw [hpool, hkept.1, if_pos (by simp)]
    · rw [hpools q hq, hqueue, if_neg (by simpa using hq)]
  · rw [List.flatMap_singleton, ← hkept.2]
    exact hanswers.congr (by rw [hr]; simp) (by rw [hr]; simp) rfl
  · rw [hmarks, hr, State.mem_marks_respond, List.mem_singleton]
    exact or_congr_right ⟨fun ⟨h1, h2⟩ => ⟨h1, h1 ▸ h2⟩, fun ⟨h1, h2⟩ => ⟨h1, h1 ▸ h2⟩⟩
  · rw [hevents, hr]
    exact State.eventPending_respond_mono before he
  · obtain rfl := List.mem_singleton.1 hq
    rw [hevents, hr]
    exact State.eventPending_respond hf hlt
  · rw [hr, ← State.applyToPool_eq]
    simp

theorem PoolsSwitched.cons {p : Nat} {ps : List Nat} (hp : p ∉ ps) (h1 : PoolsSwitched before [p] s u)
    (h2 : PoolsSwitched before ps u t) : PoolsSwitched before (p :: ps) s t := by
  obtain ⟨hbanks, hlink, htime, hparams⟩ := h1.kept
  obtain ⟨hbanks2, hlink2, htime2, hparams2⟩ := h2.kept
  have hne : ∀ q ∈ ps, q ∉ [p] := fun q hq h => hp (List.mem_singleton.1 h ▸ hq)
  have hacct : ∀ q ∈ ps, u.acct q = s.acct q := fun q hq => by rw [h1.acct, if_neg (hne q hq)]
  have hqueue : ∀ q ∈ ps, u.poolQueue q = s.poolQueue q := fun q hq => by rw [h1.queue, if_neg (hne q hq)]
  have heff : ∀ q ∈ ps, u.effectiveCeiling q = s.effectiveCeiling q := fun q hq =>
    State.effectiveCeiling_congr hbanks (by rw [hlink]) q (by rw [hacct q hq]) (by rw [hacct q hq])
  have hceiling : ∀ q ∈ ps, u.ceiling q = s.ceiling q := fun q hq => State.ceiling_congr hbanks q (by rw [hacct q hq])
  have hasks : ∀ q ∈ ps, (State.AccountAsks before u q ↔ State.AccountAsks before s q) := fun q hq => by
    rw [State.AccountAsks, State.AccountAsks, hacct q hq, heff q hq, hceiling q hq]
  have hended : ∀ q, u.endedNow q = s.endedNow q := fun q => by rw [State.endedNow, State.today, htime, State.record_congr hbanks]; rfl
  have hkept : ∀ q ∈ ps, u.queueKept q = s.queueKept q := fun q hq => by
    rw [State.queueKept, State.queueKept, hended, hqueue q hq, State.record_congr hbanks]
  have hanswers : ∀ q ∈ ps, u.switchAnswers q = s.switchAnswers q := fun q hq => by
    rw [State.switchAnswers, State.switchAnswers, hended, hqueue q hq, State.record_congr hbanks]
  refine ⟨fun q => ?_, fun q => ?_, ?_, h2.keys, fun q => ?_, fun e he => h2.events e (h1.events e he), fun q hq hf hlt => ?_,
    hbanks2.trans hbanks, hlink2.trans hlink, htime2.trans htime, hparams2.trans hparams⟩
  · by_cases hq : q ∈ ps
    · rw [h2.acct, if_pos hq, if_pos (List.mem_cons_of_mem _ hq), hacct q hq, heff q hq]
    · have hqueues : t.poolQueue q = u.poolQueue q := by rw [h2.queue, if_neg hq]
      rw [h2.acct, if_neg hq, h1.acct, hqueues]
      simp only [List.mem_cons, hq, List.not_mem_nil, or_false]
  · by_cases hq : q ∈ ps
    · rw [h2.queue, if_pos hq, if_pos (List.mem_cons_of_mem _ hq), hkept q hq]
    · rw [h2.queue, if_neg hq, h1.queue]
      simp only [List.mem_cons, hq, List.not_mem_nil, or_false]
  · have hlist : (p :: ps).flatMap s.switchAnswers = [p].flatMap s.switchAnswers ++ ps.flatMap u.switchAnswers := by
      rw [List.flatMap_cons, List.flatMap_singleton, flatMap_eq_of_forall_mem hanswers]
    rw [hlist]
    exact h1.answered.trans h2.answered (by rw [hparams])
  · rw [h2.marks, h1.marks, List.mem_singleton, List.mem_cons]
    constructor
    · rintro ((h | ⟨h, ha⟩) | ⟨h, ha⟩)
      · exact .inl h
      · exact .inr ⟨.inl h, ha⟩
      · exact .inr ⟨.inr h, (hasks q h).1 ha⟩
    · rintro (h | ⟨h | h, ha⟩)
      · exact .inl (.inl h)
      · exact .inl (.inr ⟨h, ha⟩)
      · exact .inr ⟨h, (hasks q h).2 ha⟩
  · rcases List.mem_cons.1 hq with rfl | hq
    · exact h2.events _ (h1.raised q (List.mem_singleton_self q) hf hlt)
    · exact h2.raised q hq (by rw [hacct q hq]; exact hf) (by rw [hacct q hq, heff q hq]; exact hlt)

theorem State.applyToPools_switched (before : State) (ps : List Nat) (hps : ps.Nodup) (hkeys : KeysUnique s)
    (hcount : ∀ p ∈ ps, (s.acct p).queueLength = (s.poolQueue p).length) :
    PoolsSwitched before ps s (ps.foldl (fun t p => State.applyToPool before p t) s) := by
  induction ps generalizing s with
  | nil =>
    exact ⟨fun p => by simp, fun p => by simp, answersAll_nil rfl rfl, hkeys, fun p => by simp, fun _ he => he, fun p hp => by simp at hp,
      ⟨rfl, rfl, rfl, rfl⟩⟩
  | cons p ps ih =>
    obtain ⟨hp, hps⟩ := List.nodup_cons.1 hps
    have hfirst := State.applyToPool_switched before p hkeys (hcount p List.mem_cons_self)
    refine hfirst.cons hp (ih hps hfirst.keys fun q hq => ?_)
    have hne : q ∉ [p] := fun h => hp (List.mem_singleton.1 h ▸ hq)
    rw [hfirst.acct, if_neg hne, hfirst.queue, if_neg hne]
    exact hcount q (List.mem_cons_of_mem _ hq)

/-! ### The roll (R36) -/

theorem State.acct_rollEpoch (h : AccountsListed s) (p : Nat) : s.rollEpoch.acct p = (s.acct p).rolled :=
  State.acct_restatAll h rfl p

theorem State.switchFailure_rollEpoch (h : AccountsListed s) (expected : Nat) :
    s.rollEpoch.switchFailure expected = s.switchFailure expected := by
  have htest : (fun p => !(s.rollEpoch.acct p).untouched) = fun p => !(s.acct p).untouched :=
    funext fun p => by rw [State.acct_rollEpoch h]; rfl
  have hchanged : s.rollEpoch.changedPools = s.changedPools := rfl
  simp only [State.switchFailure, htest, hchanged]
  rfl

/-! ### The application (R129) -/

/-- The banks exchanged and the reassign-pending flags cleared, before the pools respond. -/
def State.exchanged (s : State) : State := (s.setBanks s.banks.switched).clearReassign

theorem State.acct_exchanged (h : AccountsListed s) (p : Nat) : s.exchanged.acct p = { s.acct p with reassign := false } :=
  State.acct_clearReassign (s := s.setBanks s.banks.switched) h p

theorem flatMap_filter_of_nil {α β : Type} {l : List α} {q : α → Bool} {g : α → List β} (h : ∀ a, ¬q a = true → g a = []) :
    (l.filter q).flatMap g = l.flatMap g := by
  induction l with
  | nil => rfl
  | cons a l ih =>
    by_cases ha : q a = true
    · rw [List.filter_cons_of_pos ha, List.flatMap_cons, List.flatMap_cons, ih]
    · rw [List.filter_cons_of_neg ha, List.flatMap_cons, h a ha, ih, List.nil_append]

theorem State.applySwitch_applies (hlisted : AccountsListed s) (hcount : QueuesCounted s) (ht : t = s.applySwitch) :
    (∀ p, t.acct p =
        { s.acct p with
          reassign := false, overcommit := decide (t.effectiveCeiling p < (s.acct p).h), queueLength := (t.poolQueue p).length }) ∧
      (∀ p, t.poolQueue p = s.exchanged.queueKept p) ∧
      (∀ p, (s.acct p).overcommit = false → (t.acct p).overcommit = true → t.eventPending .poolOvercommit = true) ∧
      (∀ p, p ∈ t.queues.marks ↔ p ∈ s.queues.marks ∨ State.AccountAsks s s.exchanged p) ∧
      (∀ p, t.ceiling p = s.exchanged.ceiling p ∧ t.effectiveCeiling p = s.exchanged.effectiveCeiling p) ∧
      ∀ pools, PoolOrder s pools → AnswersAll s t (pools.flatMap s.exchanged.switchAnswers) := by
  have hx := State.acct_exchanged hlisted
  have hxlisted : AccountsListed s.exchanged := hlisted.mapD (t := s.exchanged) (f := fun a => { a with reassign := false }) rfl
  have hqueue : ∀ p, s.exchanged.poolQueue p = s.poolQueue p := fun p => rfl
  have hxcount : ∀ p, (s.exchanged.acct p).queueLength = (s.exchanged.poolQueue p).length := fun p => by
    rw [hx, hqueue]
    exact hcount.2.2 p
  have hidle : ∀ p, p ∉ s.exchanged.livePools → s.exchanged.acct p = Account.cleared ∧ s.exchanged.poolQueue p = [] := fun p hp => by
    have hcleared := State.acct_of_not_live hp
    refine ⟨hcleared, List.length_eq_zero_iff.1 ?_⟩
    rw [← hxcount, hcleared]
    rfl
  have hrising : s.exchanged.livePools.Pairwise (· < ·) := List.pairwise_map.2 hxlisted.1
  have hswitched := State.applyToPools_switched (s := s.exchanged) s s.exchanged.livePools (hrising.imp Nat.ne_of_lt) hcount.1 fun p _ => hxcount p
  have hraise : t = (s.exchanged.livePools.foldl (fun t p => State.applyToPool s p t) s.exchanged).raise .bankSwitched := ht
  generalize s.exchanged.livePools.foldl (fun t p => State.applyToPool s p t) s.exchanged = w at hswitched hraise
  obtain ⟨hbanks, hlink, -, hparams⟩ := hswitched.kept
  have hacct : ∀ p, t.acct p = w.acct p := fun p => State.acct_congr (by rw [hraise]; simp) p
  have hqueues : t.queues = w.queues := by rw [hraise]; simp
  have hpools : ∀ p, t.poolQueue p = w.poolQueue p := fun p => by rw [State.poolQueue, hqueues]; rfl
  have hceilings : ∀ p, t.ceiling p = s.exchanged.ceiling p ∧ t.effectiveCeiling p = s.exchanged.effectiveCeiling p := fun p => by
    have htbanks : t.banks = s.exchanged.banks := by rw [hraise]; simpa using hbanks
    have htlink : t.link = s.exchanged.link := by rw [hraise]; simpa using hlink
    have hsame : (t.acct p).d = (s.exchanged.acct p).d ∧ (t.acct p).state = (s.exchanged.acct p).state := by
      rw [hacct, hswitched.acct]
      split <;> exact ⟨rfl, rfl⟩
    exact ⟨State.ceiling_congr htbanks p hsame.1, State.effectiveCeiling_congr htbanks (by rw [htlink]) p hsame.1 hsame.2⟩
  have hkept : ∀ p, t.poolQueue p = s.exchanged.queueKept p := fun p => by
    rw [hpools, hswitched.queue]
    by_cases hp : p ∈ s.exchanged.livePools
    · rw [if_pos hp]
    · rw [if_neg hp, State.queueKept, (hidle p hp).2, List.take_nil, ite_self]
  have haccts : ∀ p, t.acct p =
      { s.exchanged.acct p with
        overcommit := decide (t.effectiveCeiling p < (s.exchanged.acct p).h), queueLength := (t.poolQueue p).length } := fun p => by
    rw [hacct, hswitched.acct, (hceilings p).2, hpools]
    by_cases hp : p ∈ s.exchanged.livePools
    · rw [if_pos hp]
    · have hempty : w.poolQueue p = [] := by rw [hswitched.queue, if_neg hp, (hidle p hp).2]
      rw [if_neg hp, (hidle p hp).1, hempty]
      rfl
  refine ⟨fun p => ?_, hkept, fun p hf hset => ?_, fun p => ?_, hceilings, fun pools hpools => ?_⟩
  · rw [haccts, hx]
  · have hlt : s.exchanged.effectiveCeiling p < (s.exchanged.acct p).h := by
      rw [haccts, (hceilings p).2] at hset
      exact of_decide_eq_true hset
    have hlive : p ∈ s.exchanged.livePools := by
      refine Classical.byContradiction fun hp => ?_
      rw [(hidle p hp).1] at hlt
      exact Nat.not_lt_zero _ hlt
    rw [hraise, State.eventPending_raise, hswitched.raised p hlive (by rw [hx]; exact hf) hlt, Bool.or_true]
  · rw [hqueues, hswitched.marks]
    refine or_congr_right ⟨fun h => h.2, fun h => ⟨?_, h⟩⟩
    refine Classical.byContradiction fun hp => ?_
    exact h.1 (by rw [(hidle p hp).1]; rfl)
  · have hfilter : pools = s.exchanged.livePools.filter (fun p => decide (s.exchanged.poolQueue p ≠ [])) := by
      refine eq_of_rising_of_mem hpools.1 (hrising.filter _) fun p => ?_
      rw [List.mem_filter, decide_eq_true_eq, hpools.2, hqueue]
      refine ⟨fun h => ⟨?_, h⟩, fun h => h.2⟩
      refine Classical.byContradiction fun hp => ?_
      exact h (hidle p hp).2
    have hall : pools.flatMap s.exchanged.switchAnswers = s.exchanged.livePools.flatMap s.exchanged.switchAnswers := by
      rw [hfilter]
      refine flatMap_filter_of_nil fun p hp => ?_
      have hnil : s.exchanged.poolQueue p = [] := by simpa using hp
      simp [State.switchAnswers, hnil]
    rw [hall]
    exact hswitched.answered.congr rfl rfl (by rw [hraise]; simp)

/-! ### The attempt (R128, R137) -/

theorem State.attemptSwitch_of_idle (h : s.banks.pendingSwitch = none ∨ s.mode = .entering ∨ s.mode = .reconciling) :
    s.attemptSwitch = s := by
  rw [State.attemptSwitch]
  rcases h with h | h
  · rw [h]
  · have hr : s.reconciling = true := by simpa [State.reconciling] using h
    cases s.banks.pendingSwitch with
    | none => rfl
    | some _ => exact if_pos hr

theorem State.attemptSwitch_of_pending {pending : PendingSwitch} (h : s.banks.pendingSwitch = some pending) (h1 : s.mode ≠ .entering)
    (h2 : s.mode ≠ .reconciling) :
    (∀ failure, s.switchFailure pending.expected = some failure →
        s.attemptSwitch = s.setBanks { s.banks with pendingSwitch := some { pending with held := some failure } }) ∧
      (s.switchFailure pending.expected = none → s.attemptSwitch = s.applySwitch) := by
  have hr : s.reconciling = false := by simp [State.reconciling, h1, h2]
  refine ⟨fun failure hf => ?_, fun hf => ?_⟩ <;> simp only [State.attemptSwitch, h, hr, hf, Bool.false_eq_true, if_false]

/-- The state in which an epoch boundary attempts the pending switch. -/
def State.atBoundary (s : State) : State := (s.setTime { s.time with epochOwed := s.time.epochOwed - 1 }).rollEpoch

theorem exec_epochBoundary (h : 0 < s.time.epochOwed) : exec .epochBoundary s = .next s.atBoundary.attemptSwitch :=
  if_neg (Nat.pos_iff_ne_zero.1 h)

theorem State.acct_atBoundary (h : AccountsListed s) (p : Nat) : s.atBoundary.acct p = (s.acct p).rolled :=
  State.acct_rollEpoch (s := s.setTime { s.time with epochOwed := s.time.epochOwed - 1 }) h p

theorem State.setBanks_acct (s : State) (b : Banks) (p : Nat) : (s.setBanks b).acct p = s.acct p := rfl

/-- Settles O46: the roll, and the three ends of the attempt. -/
theorem epochBoundaryRollsAndSwitches : Obligations.EpochBoundaryRollsAndSwitches := by
  unfold Obligations.EpochBoundaryRollsAndSwitches
  intro s hlisted hcount howed
  have hroll := State.acct_atBoundary hlisted
  have hfailure : ∀ expected, s.atBoundary.switchFailure expected = s.switchFailure expected := fun expected =>
    State.switchFailure_rollEpoch (s := s.setTime { s.time with epochOwed := s.time.epochOwed - 1 }) hlisted expected
  have hblisted : AccountsListed s.atBoundary := hlisted.mapD (t := s.atBoundary) (f := Account.rolled) rfl
  have hbcount : QueuesCounted s.atBoundary := ⟨hcount.1, hcount.2.1, fun p => by rw [hroll]; exact hcount.2.2 p⟩
  have hidle : s.banks.pendingSwitch = none ∨ s.mode = .entering ∨ s.mode = .reconciling →
      s.atBoundary.attemptSwitch = s.atBoundary := fun h => State.attemptSwitch_of_idle (s := s.atBoundary) h
  have hpending : ∀ pending, s.banks.pendingSwitch = some pending → s.mode ≠ .entering → s.mode ≠ .reconciling →
      (∀ failure, s.switchFailure pending.expected = some failure →
          s.atBoundary.attemptSwitch =
            s.atBoundary.setBanks { s.banks with pendingSwitch := some { pending with held := some failure } }) ∧
        (s.switchFailure pending.expected = none → s.atBoundary.attemptSwitch = s.atBoundary.applySwitch) := fun pending h h1 h2 => by
    have := State.attemptSwitch_of_pending (s := s.atBoundary) h h1 h2
    rwa [hfailure] at this
  obtain ⟨hacct, hqueue, hover, hmarks, hceilings, hanswers⟩ := State.applySwitch_applies hblisted hbcount rfl
  have hbefore : ∀ p, s.atBoundary.ceiling p = s.ceiling p ∧ s.atBoundary.effectiveCeiling p = s.effectiveCeiling p := fun p =>
    ⟨State.ceiling_congr (s := s) (t := s.atBoundary) rfl p (by rw [hroll]; rfl),
      State.effectiveCeiling_congr (s := s) (t := s.atBoundary) rfl rfl p (by rw [hroll]; rfl) (by rw [hroll]; rfl)⟩
  have happlied : s.atBoundary.applySwitch.banks = s.atBoundary.exchanged.banks := State.banks_applySwitch _
  have hended : ∀ p, s.atBoundary.exchanged.endedNow p = true ↔
      s.time.source ≠ .unset ∧ (s.atBoundary.applySwitch.record p).endDay ≠ 65535 ∧
        (s.atBoundary.applySwitch.record p).endDay < s.time.now / 86400000 := fun p => by
    rw [State.record_congr happlied]
    exact State.endedNow_iff _ p
  refine ⟨_, exec_epochBoundary howed, fun p => ?_, by simp [State.atBoundary, State.rollEpoch], by simp [State.atBoundary, State.rollEpoch],
    by simp [State.atBoundary, State.rollEpoch], by simp [State.atBoundary, State.rollEpoch], by simp [State.atBoundary, State.rollEpoch],
    by simp [State.atBoundary, State.rollEpoch], by simp [State.atBoundary, State.rollEpoch], by simp [State.atBoundary, State.rollEpoch],
    fun h => ?_, fun pending failure h h1 h2 hf => ?_, fun pending h h1 h2 hf => ?_⟩
  · cases hp : s.banks.pendingSwitch with
    | none =>
      rw [hidle (.inl hp), hroll]
      exact ⟨rfl, rfl, rfl, rfl⟩
    | some pending =>
      by_cases hm : s.mode = .entering ∨ s.mode = .reconciling
      · rw [hidle (.inr hm), hroll]
        exact ⟨rfl, rfl, rfl, rfl⟩
      · obtain ⟨h1, h2⟩ := not_or.1 hm
        cases hf : s.switchFailure pending.expected with
        | none =>
          rw [(hpending pending hp h1 h2).2 hf, hacct, hroll]
          exact ⟨rfl, rfl, rfl, rfl⟩
        | some failure =>
          rw [(hpending pending hp h1 h2).1 failure hf]
          rw [State.setBanks_acct, hroll]
          exact ⟨rfl, rfl, rfl, rfl⟩
  · rw [hidle h]
    exact ⟨hroll, rfl⟩
  · rw [(hpending pending h h1 h2).1 failure hf]
    exact ⟨rfl, hroll, rfl⟩
  · rw [(hpending pending h h1 h2).2 hf]
    refine ⟨State.banks_applySwitch _, by simp [State.applySwitch], fun p => by rw [hacct, hroll]; rfl, fun p => ?_, fun p hz hset => ?_,
      fun p => ?_, fun pools hpools => ?_⟩
    · simp only [hqueue, State.queueKept, hended, State.record_congr happlied]
      rfl
    · exact hover p (by rw [hroll]; exact hz) hset
    · rw [hmarks, State.AccountAsks, State.acct_exchanged hblisted, ← (hceilings p).1, ← (hceilings p).2, (hbefore p).1, (hbefore p).2,
        hacct, hroll, decide_eq_false_iff_not]
      rfl
    · have hswitched : ∀ p, s.atBoundary.exchanged.switchAnswers p =
          ((s.poolQueue p).drop (s.atBoundary.applySwitch.record p).queueLimit).map (fun e => (e, FarmBody.withdrawn)) ++
            if s.time.source ≠ .unset ∧ (s.atBoundary.applySwitch.record p).endDay ≠ 65535 ∧
                (s.atBoundary.applySwitch.record p).endDay < s.time.now / 86400000 then
              ((s.poolQueue p).take (s.atBoundary.applySwitch.record p).queueLimit).map (fun e => (e, FarmBody.deny .outOfWindow))
            else [] := fun p => by
        simp only [State.switchAnswers, hended, State.record_congr happlied]
        rfl
      have h := (hanswers pools hpools).congr (v := s) rfl rfl rfl
      rwa [funext hswitched] at h

end Sys2Proof.Machine
end

section
/-! PROOFS. The good probe: what it leaves of the Service Port, and its time mark (R132 to R134, R142, R144, R148, R160). -/

namespace Sys2Proof.Machine

open Host

variable {s t u : State} {f : Frame} {k : Key}

/-! ### Work that may raise notices (R189, R190) -/

/-- At most notices have joined the Upstream Queue, what found no place was counted, and the Management Port's event flags alone
may have moved. -/
def Noticing (s t : State) : Prop :=
  ∃ notices dropped, (∀ x ∈ notices, UpEntry.isNotice x = true) ∧ s.svc.stats.droppedReplies ≤ dropped ∧
    t.svc = { s.svc with upstream := s.svc.upstream ++ notices, stats := { s.svc.stats with droppedReplies := dropped } } ∧
    t.mgmt = { s.mgmt with events := t.mgmt.events }

theorem Noticing.of_kept (hs : t.svc = s.svc) (hm : t.mgmt = s.mgmt) : Noticing s t :=
  ⟨[], _, by simp, Nat.le_refl _, by rw [hs]; simp, by rw [hm]⟩

theorem Noticing.refl (s : State) : Noticing s s := .of_kept rfl rfl

theorem Noticing.trans (h1 : Noticing s u) (h2 : Noticing u t) : Noticing s t := by
  obtain ⟨n1, d1, hn1, hd1, hs1, hm1⟩ := h1
  obtain ⟨n2, d2, hn2, hd2, hs2, hm2⟩ := h2
  rw [hs1] at hd2 hs2
  refine ⟨n1 ++ n2, d2, fun x hx => (List.mem_append.1 hx).elim (hn1 x) (hn2 x), Nat.le_trans hd1 hd2, ?_, ?_⟩
  · rw [hs2]
    simp
  · rw [hm2, hm1]

theorem Noticing.foldl {α : Type} {g : State → α → State} (l : List α) (h : ∀ s, ∀ a ∈ l, Noticing s (g s a)) (s : State) :
    Noticing s (l.foldl g s) := by
  induction l generalizing s with
  | nil => exact .refl s
  | cons a l ih => exact (h s a List.mem_cons_self).trans (ih (fun s b hb => h s b (List.mem_cons_of_mem _ hb)) _)

theorem le_bump (n : Nat) : n ≤ bump n := by
  rw [bump]
  split <;> omega

theorem State.dropped_raise (s : State) (e : Event) : s.svc.stats.droppedReplies ≤ (s.raise e).svc.stats.droppedReplies := by
  simp only [State.raise, State.notice, State.offerUp]
  split
  · exact Nat.le_refl _
  · split
    · split
      · exact Nat.le_refl _
      · split
        · exact Nat.le_refl _
        · exact le_bump _
    · exact Nat.le_refl _

theorem State.raise_noticing (s : State) (e : Event) : Noticing s (s.raise e) := by
  obtain ⟨notices, hn, hup⟩ := State.raise_upstream (s := s) e
  have honly := State.raise_only (s := s) e
  have hsvc := congrArg State.svc honly
  have hmgmt := congrArg State.mgmt honly
  rw [hup] at hsvc
  exact ⟨notices, _, hn, s.dropped_raise e, hsvc, hmgmt⟩

theorem State.accountAsks_noticing (s : State) (p : Nat) : Noticing s (s.accountAsks p) := .of_kept (by simp) (by simp)

theorem State.reevaluate_noticing (s : State) (p : Nat) : Noticing s (s.reevaluate p) := by
  simp only [State.reevaluate]
  split
  · split
    · exact .refl s
    · exact (Noticing.of_kept (t := s.modAcct p _) rfl rfl).trans (State.raise_noticing _ _)
  · split
    · exact (Noticing.of_kept (t := s.modAcct p _) rfl rfl).trans (State.accountAsks_noticing _ _)
    · exact .refl s

theorem State.respond_noticing (before s : State) (p : Nat) : Noticing s (State.respond before p s) := by
  simp only [State.respond]
  split
  · exact (s.reevaluate_noticing p).trans (State.accountAsks_noticing _ _)
  · exact s.reevaluate_noticing p

theorem State.respondAll_noticing (before : State) (ps : List Nat) (s : State) : Noticing s (State.respondAll before ps s) :=
  .foldl ps (fun s p _ => State.respond_noticing before s p) s

theorem State.setGap_noticing (s : State) (p : Nat) : Noticing s (s.setGap p) := by
  simp only [State.setGap]
  split
  · exact .refl s
  · exact (Noticing.of_kept (t := s.modAcct p _) rfl rfl).trans (State.raise_noticing _ _)

/-! ### The probe heard (R142, R144, R146, R147) -/

theorem State.leaveLost_noticing (s : State) : Noticing s s.leaveLost :=
  (Noticing.of_kept (t := s.setLinkState (.arming .lost 1)) rfl rfl).trans (State.respondAll_noticing _ _ _)

/-- The link restored, and the SHARED pools' gap flags set, before the clock is stopped. -/
def State.gapped (s : State) : State := s.sharedPools.foldl (fun t p => t.setGap p) ((s.setLinkState .up).raise .linkRestored)

/-- The autonomy clock stopped. -/
def State.stopAutonomy (s : State) : State := s.setLink { s.link with autonomyStart := none, autonomyPassed := false }

theorem State.restoreLink_eq (s : State) :
    s.restoreLink =
      if s.link.autonomyPassed = true then s.gapped.stopAutonomy.askAllOrdered s.gapped.stopAutonomy.waitingPools
      else s.gapped.stopAutonomy := rfl

theorem State.gapped_noticing (s : State) : Noticing s s.gapped := by
  refine Noticing.trans ((Noticing.of_kept (t := s.setLinkState .up) rfl rfl).trans (State.raise_noticing _ .linkRestored)) ?_
  exact .foldl _ (fun t p _ => t.setGap_noticing p) _

theorem State.restoreLink_noticing (s : State) : Noticing s s.restoreLink := by
  refine s.gapped_noticing.trans ?_
  rw [State.restoreLink_eq]
  split
  · exact .of_kept (by simp [State.stopAutonomy]) (by simp [State.stopAutonomy])
  · exact .of_kept rfl rfl

theorem State.entries_respondAll (before : State) (ps : List Nat) (s : State) :
    (State.respondAll before ps s).queues.entries = s.queues.entries := by
  induction ps generalizing s with
  | nil => rfl
  | cons p ps ih => exact (ih (State.respond before p s)).trans (State.entries_respond before s p)

theorem State.queues_gapped (s : State) : s.gapped.queues = s.queues := by simp [State.gapped, State.setLinkState]

theorem State.entries_restoreLink (s : State) : s.restoreLink.queues.entries = s.queues.entries := by
  rw [State.restoreLink_eq]
  split
  · rw [State.entries_askAllOrdered]
    exact congrArg QueueManager.entries s.queues_gapped
  · exact congrArg QueueManager.entries s.queues_gapped

/-- The ways a good probe moves the link, each with its act (R142). -/
theorem State.hearProbe_cases (s : State) (P : State → Prop) (hset : ∀ l, s.link.state ≠ .lost → s.link.state ≠ .arming .lost 2 →
    P (s.setLinkState l)) (hup : s.link.state = .up → P s) (hlost : s.link.state = .lost → P s.leaveLost)
    (hrestore : (∃ n, n ≠ 1 ∧ s.link.state = .arming .lost n) → P s.restoreLink) : P s.hearProbe := by
  rw [State.hearProbe]
  cases h : s.link.state with
  | down => exact hset _ (by simp [h]) (by simp [h])
  | lost => exact hlost h
  | up => exact hup h
  | suspect m => exact hset _ (by simp [h]) (by simp [h])
  | arming o good =>
    cases o with
    | down =>
      by_cases hg : good = 1
      · simp only [hg, if_true]
        exact hset _ (by simp [h]) (by simp [h])
      · simp only [hg, if_false]
        exact hset _ (by simp [h]) (by simp [h])
    | lost =>
      by_cases hg : good = 1
      · simp only [hg, if_true]
        exact hset _ (by simp [h]) (by simp [h, hg])
      · simp only [hg, if_false]
        exact hrestore ⟨good, hg, h⟩

theorem State.hearProbe_noticing (s : State) : Noticing s s.hearProbe :=
  s.hearProbe_cases (Noticing s) (fun _ _ _ => .of_kept rfl rfl) (fun _ => .refl s) (fun _ => s.leaveLost_noticing)
    (fun _ => s.restoreLink_noticing)

theorem State.entries_hearProbe (s : State) : s.hearProbe.queues.entries = s.queues.entries :=
  s.hearProbe_cases (fun t => t.queues.entries = s.queues.entries) (fun _ _ _ => rfl) (fun _ => rfl)
    (fun _ => State.entries_respondAll _ _ _) (fun _ => s.entries_restoreLink)

/-- The state once a good probe has been taken and has moved the link, before its mark. -/
def State.heard (s : State) (f : Frame) (sequence : Word) : State :=
  ((s.tookRequest f).recordSequence sequence).hearProbe.restartWindow

theorem exec_probe_good {sequence : Word} {mark : Nat} (h : s.head .service = some (f, .message k (.probe sequence mark))) :
    exec .probe s = .next (((s.heard f sequence).takeMark mark).sendEcho k sequence mark true) := by
  change execProbe s = _
  simp only [execProbe, h]
  rw [State.takeMessage_service]
  rfl

theorem State.heard_kept (s : State) (f : Frame) (sequence : Word) :
    (s.heard f sequence).pending = s.pending ∧ (s.heard f sequence).clk = s.clk ∧ (s.heard f sequence).mode = s.mode ∧
      (s.heard f sequence).banks = s.banks ∧ (s.heard f sequence).holds = s.holds ∧ (s.heard f sequence).fwd = s.fwd ∧
      (s.heard f sequence).time = s.time ∧ (s.heard f sequence).recon = s.recon ∧ (s.heard f sequence).farm = s.farm ∧
      (s.heard f sequence).reserved = s.reserved ∧ (s.heard f sequence).mgmt.params = s.mgmt.params ∧
      (s.heard f sequence).queues.entries = s.queues.entries := by
  have hentries := ((s.tookRequest f).recordSequence sequence).entries_hearProbe
  refine ⟨?_, ?_, ?_, ?_, ?_, ?_, ?_, ?_, ?_, ?_, ?_, hentries⟩ <;> simp [State.heard, State.restartWindow, State.recordSequence, State.tookRequest]

/-! ### Time marks (R132 to R134) -/

theorem State.takeMark_rebase {mark : Nat} (hs : s.time.source = .unset) (h : s.time.now ≤ mark) :
    s.takeMark mark = (s.rebaseTo mark).leaveUnset .tracking := by rw [State.takeMark, if_pos hs, if_pos h]

theorem State.takeMark_early {mark : Nat} (hs : s.time.source = .unset) (h : mark < s.time.now) :
    s.takeMark mark = s.raise .timeConflict := by rw [State.takeMark, if_pos hs, if_neg (Nat.not_le.2 h)]

theorem State.takeMark_step {mark : Nat} (hs : s.time.source ≠ .unset) (h1 : mark ≤ s.time.now + s.mgmt.params.stepLimit)
    (h2 : s.time.now ≤ mark + s.mgmt.params.stepLimit) : s.takeMark mark = (s.stepTo mark).acceptMark := by
  rw [State.takeMark, if_neg hs, if_pos ⟨h1, h2⟩]

theorem State.takeMark_far {mark : Nat} (hs : s.time.source ≠ .unset)
    (h : s.time.now + s.mgmt.params.stepLimit < mark ∨ mark + s.mgmt.params.stepLimit < s.time.now) :
    s.takeMark mark = s.raise .timeConflict := by
  rw [State.takeMark, if_neg hs, if_neg (by omega)]

theorem State.stepTo_max (s : State) (mark : Nat) : s.stepTo mark = s.stepTo (max s.time.now mark) := by
  rcases Nat.le_total s.time.now mark with h | h
  · rw [Nat.max_eq_right h]
  · rw [Nat.max_eq_left h, State.stepTo, if_neg (Nat.not_lt.2 h), State.stepTo, if_neg (Nat.lt_irrefl _)]

theorem State.leaveUnset_noticing (s : State) (x : TimeSource) : Noticing s (s.leaveUnset x) := by
  refine Noticing.trans ?_ (State.raise_noticing _ .timeSet)
  exact .of_kept rfl rfl

theorem State.takeMark_noticing (s : State) (mark : Nat) : Noticing s (s.takeMark mark) := by
  simp only [State.takeMark]
  split
  · split
    · exact (Noticing.of_kept (by simp) (by simp)).trans (State.leaveUnset_noticing _ _)
    · exact s.raise_noticing _
  · split
    · refine .of_kept ?_ ?_ <;> simp [State.acceptMark] <;> split <;> simp
    · exact s.raise_noticing _

theorem State.eventPending_sendEcho (s : State) (k : Key) (sequence : Word) (mark : Nat) (solicited : Bool) (e : Event) :
    (s.sendEcho k sequence mark solicited).eventPending e = s.eventPending e := by simp [State.eventPending]

theorem State.time_acceptMark (s : State) :
    s.acceptMark.time =
      { s.time with source := if s.time.source = .holdover ∧ s.link.state = .up then .tracking else s.time.source } := by
  rw [State.acceptMark]
  split <;> rfl

theorem RebasedBy.congr_source {d : Nat} (h : RebasedBy u t d) (hh : u.holds = s.holds) (hf : u.fwd = s.fwd)
    (hq : u.queues.entries = s.queues.entries) (hr : u.recon = s.recon) : RebasedBy s t d := by
  simpa only [RebasedBy, hh, hf, hq, hr] using h

/-- Settles O38: the mark is taken after the link has moved, which leaves every stored time as it was. -/
theorem timeMarksAreTaken : Obligations.TimeMarksAreTaken := by
  unfold Obligations.TimeMarksAreTaken
  intro f k sequence mark s hhead
  obtain ⟨-, -, -, -, hholds, hfwd, htime, hrecon, -, -, hparams, hentries⟩ := s.heard_kept f sequence
  refine ⟨_, exec_probe_good hhead, ?_⟩
  have hlink : (((s.heard f sequence).takeMark mark).sendEcho k sequence mark true).link.state = (s.heard f sequence).link.state := by
    rw [State.sendEcho]
    split <;> simp
  generalize s.heard f sequence = u at *
  have howed : ∀ new, u.boundariesOwed new = s.boundariesOwed new ∧ u.daysOwed new = s.daysOwed new := fun new => by
    simp [State.boundariesOwed, State.daysOwed, htime, hparams]
  simp only [State.eventPending_sendEcho, State.sendEcho_kept, hlink]
  refine ⟨fun hs hle => ?_, fun hs hlt => ?_, fun hs h1 h2 => ?_, fun hs hfar => ?_⟩
  · rw [State.takeMark_rebase (by rwa [htime]) (by rwa [htime]), State.time_leaveUnset, State.time_rebaseTo, (howed mark).1]
    have hdays : u.daysOwed mark = s.time.dayOwed := by rw [(howed mark).2, State.daysOwed, if_pos (.inl hs)]
    rw [hdays]
    refine ⟨rfl, by simp [State.leaveUnset], ?_⟩
    have hrebased := (u.rebaseTo_rebased mark).congr_source hholds hfwd hentries hrecon
    rw [htime] at hrebased
    exact hrebased.congr (by simp) (by simp) (by simp) (by simp)
  · rw [State.takeMark_early (by rwa [htime]) (by rwa [htime])]
    simp [htime, hholds]
  · rw [State.takeMark_step (by rwa [htime]) (by rwa [htime, hparams]) (by rwa [htime, hparams]), State.stepTo_max,
      State.stepTo_eq (Nat.le_max_left ..)]
    have hreach : ∀ deadline : Nat, decide (s.time.now < max s.time.now mark ∧ deadline ≤ max s.time.now mark) =
        decide (s.time.now < mark ∧ deadline ≤ mark) := fun deadline => by
      rw [decide_eq_decide]
      omega
    simp only [hreach, State.time_acceptMark, State.acceptMark_kept, (howed _).1, (howed _).2, htime, hentries, hholds, hfwd, hrecon,
      and_self]
  · rw [State.takeMark_far (by rwa [htime]) (by rwa [htime, hparams])]
    simp [htime, hholds, hentries]

/-! ### The link a good probe leaves, and its ECHO (R141, R142, R148, R153) -/

theorem State.link_respondAll (before : State) (ps : List Nat) (s : State) : (State.respondAll before ps s).link = s.link := by simp

theorem State.link_restoreLink (s : State) :
    s.restoreLink.link = { s.link with state := .up, autonomyStart := none, autonomyPassed := false } := by
  have hgapped : s.gapped.link = { s.link with state := .up } := by simp [State.gapped, State.setLinkState]
  have hstopped : s.gapped.stopAutonomy.link = { s.link with state := .up, autonomyStart := none, autonomyPassed := false } := by
    rw [State.stopAutonomy, hgapped]
    rfl
  rw [State.restoreLink_eq]
  split
  · simpa using hstopped
  · exact hstopped

/-- The state a good probe moves the link to (R142). -/
theorem State.hearProbe_state (s : State) :
    (s.link.state = .down → s.hearProbe.link.state = .arming .down 1) ∧ (s.link.state = .lost → s.hearProbe.link.state = .arming .lost 1) ∧
      (∀ o, s.link.state = .arming o 1 → s.hearProbe.link.state = .arming o 2) ∧
      (∀ o, s.link.state = .arming o 2 → s.hearProbe.link.state = .up) ∧ (s.link.state = .up → s.hearProbe.link.state = .up) ∧
      ∀ m, s.link.state = .suspect m → s.hearProbe.link.state = .up := by
  refine ⟨fun h => ?_, fun h => ?_, fun o h => ?_, fun o h => ?_, fun h => ?_, fun m h => ?_⟩
  · simp only [State.hearProbe, h]; rfl
  · simp only [State.hearProbe, h]
    rw [State.leaveLost, State.link_respondAll]
    rfl
  · cases o <;> simp only [State.hearProbe, h, if_true] <;> rfl
  · cases o with
    | down => simp only [State.hearProbe, h]; rfl
    | lost =>
      have hr : s.hearProbe = s.restoreLink := by simp only [State.hearProbe, h]; rfl
      rw [hr, State.link_restoreLink]
  · simp only [State.hearProbe, h]
  · simp only [State.hearProbe, h]; rfl

theorem State.hearProbe_not_down (s : State) : s.hearProbe.link.state ≠ .down := by
  obtain ⟨hdown, hlost, -, -, hup, hsuspect⟩ := s.hearProbe_state
  cases h : s.link.state with
  | down => rw [hdown h]; simp
  | lost => rw [hlost h]; simp
  | up => rw [hup h]; simp
  | suspect m => rw [hsuspect m h]; simp
  | arming o n =>
    by_cases hn : n = 1
    · cases o <;> simp only [State.hearProbe, h, hn, if_true] <;> simp [State.setLinkState]
    · cases o with
      | down => simp only [State.hearProbe, h, hn, if_false]; simp [State.setLinkState]
      | lost => simp only [State.hearProbe, h, hn, if_false]; simp [State.link_restoreLink]

theorem State.echoError_hearProbe (s : State) : s.hearProbe.link.echoError = s.link.echoError :=
  s.hearProbe_cases (fun t => t.link.echoError = s.link.echoError) (fun _ _ _ => rfl) (fun _ => rfl)
    (fun _ => by rw [State.leaveLost, State.link_respondAll]; rfl) (fun _ => by rw [State.link_restoreLink])

/-- A probe that neither leaves LOST nor restores the link moves nothing of the accounts and marks. -/
theorem State.hearProbe_quiet (hc : LinkCounts s) (h1 : s.link.state ≠ .lost) (h2 : s.link.state ≠ .arming .lost 2) :
    s.hearProbe.accounts = s.accounts ∧ s.hearProbe.queues = s.queues :=
  s.hearProbe_cases (fun t => t.accounts = s.accounts ∧ t.queues = s.queues) (fun _ _ _ => ⟨rfl, rfl⟩) (fun _ => ⟨rfl, rfl⟩)
    (fun h => absurd h h1) (fun ⟨n, hn, h⟩ => absurd (((hc.1 _ n h).resolve_left hn) ▸ h) h2)

theorem State.digest_sendEcho (s : State) (k : Key) (sequence : Word) (mark : Nat) (solicited : Bool) :
    (s.sendEcho k sequence mark solicited).digest = s.digest := by
  rw [State.sendEcho]
  split <;> rfl

theorem State.sendEcho_of_room {sequence : Word} {mark : Nat} {solicited : Bool} (h : s.svc.upstream.length + s.reserved < 1024) :
    s.sendEcho k sequence mark solicited =
      (s.pushUp (UpEntry.echo s.ownEth k { sequence, mark, solicited, digest := s.digest } s.link.echoError)).setLink
        { s.link with echoError := false } := if_pos (decide_eq_true h)

theorem State.sendEcho_of_full {sequence : Word} {mark : Nat} {solicited : Bool} (h : 1024 ≤ s.svc.upstream.length + s.reserved) :
    s.sendEcho k sequence mark solicited = s.dropUp :=
  if_neg (by rw [State.mgmtRoom, decide_eq_true_eq]; exact Nat.not_lt.2 h)

theorem lt_bump_of_le {n dropped : Nat} (hle : n ≤ dropped) (h : n < 4294967295) : n < bump dropped := by
  rw [bump]
  split
  · omega
  · next hfull =>
    simp only [Config.maxCount] at hfull
    omega

/-- The marks of a taken time mark: entries alone move in the queue store. -/
theorem State.marks_takeMark (s : State) (mark : Nat) : (s.takeMark mark).queues.marks = s.queues.marks := by
  simp only [State.takeMark]
  split
  · split
    · have hleave : ((s.rebaseTo mark).leaveUnset .tracking).queues = (s.rebaseTo mark).queues := by simp
      rw [hleave]
      rfl
    · simp
  · split
    · have haccept : (s.stepTo mark).acceptMark.queues = (s.stepTo mark).queues := by simp
      rw [haccept, State.stepTo]
      split <;> rfl
    · simp

/-- The state in which a good probe, taken and recorded, is about to move the link. -/
def State.hearing (s : State) (f : Frame) (sequence : Word) : State := (s.tookRequest f).recordSequence sequence

/-- The state once a good probe's mark has been taken, before its ECHO. -/
def State.probed (s : State) (f : Frame) (sequence : Word) (mark : Nat) : State := (s.heard f sequence).takeMark mark

theorem State.heard_eq (s : State) (f : Frame) (sequence : Word) :
    s.heard f sequence = (s.hearing f sequence).hearProbe.restartWindow := rfl

theorem State.probed_noticing (s : State) (f : Frame) (sequence : Word) (mark : Nat) :
    Noticing (s.hearing f sequence) (s.probed f sequence mark) := by
  rw [State.probed, State.heard_eq]
  exact ((State.hearProbe_noticing _).trans (.of_kept (t := State.restartWindow _) rfl rfl)).trans (State.takeMark_noticing _ mark)

theorem State.link_probed (s : State) (f : Frame) (sequence : Word) (mark : Nat) :
    (s.probed f sequence mark).link = { (s.hearing f sequence).hearProbe.link with windowExpiry := some s.windowFromNow } := by
  have hlength : (s.hearing f sequence).hearProbe.clk + (s.hearing f sequence).hearProbe.windowLength = s.windowFromNow := by
    simp [State.hearing, State.windowLength, State.windowFromNow, State.recordSequence, State.tookRequest, Config.windowCyclesPerMs]
  obtain ⟨-, -, -, -, -, -, hlink, -⟩ := (s.heard f sequence).takeMark_kept mark
  rw [State.probed, hlink, State.heard_eq, State.restartWindow, if_neg (State.hearProbe_not_down _), hlength]
  rfl

/-- How a good probe moves the link, and what it records there (R141, R142). -/
theorem State.probed_moves (s : State) (f : Frame) (sequence : Word) (mark : Nat) :
    (s.link.state = .down → (s.probed f sequence mark).link.state = .arming .down 1) ∧
      (s.link.state = .lost → (s.probed f sequence mark).link.state = .arming .lost 1) ∧
      (∀ o, s.link.state = .arming o 1 → (s.probed f sequence mark).link.state = .arming o 2) ∧
      (∀ o, s.link.state = .arming o 2 → (s.probed f sequence mark).link.state = .up) ∧
      (s.link.state = .up → (s.probed f sequence mark).link.state = .up) ∧
      (∀ m, s.link.state = .suspect m → (s.probed f sequence mark).link.state = .up) ∧
      (s.probed f sequence mark).link.windowExpiry = some s.windowFromNow ∧
      (s.probed f sequence mark).link.lastSequence = sequence ∧ (s.probed f sequence mark).link.lastBad = s.link.lastBad ∧
      (s.probed f sequence mark).link.echoError = s.link.echoError := by
  rw [State.link_probed]
  obtain ⟨hdown, hlost, hfirst, hsecond, hup, hsuspect⟩ := (s.hearing f sequence).hearProbe_state
  obtain ⟨-, hbad, hsequence, -⟩ := (s.hearing f sequence).hearProbe_parts
  exact ⟨hdown, hlost, hfirst, hsecond, hup, hsuspect, rfl, hsequence, hbad, (s.hearing f sequence).echoError_hearProbe⟩

theorem State.probed_kept (s : State) (f : Frame) (sequence : Word) (mark : Nat) :
    (s.probed f sequence mark).pending = s.pending ∧ (s.probed f sequence mark).clk = s.clk ∧
      (s.probed f sequence mark).mode = s.mode ∧ (s.probed f sequence mark).banks = s.banks ∧
      (s.probed f sequence mark).farm = s.farm ∧ (s.probed f sequence mark).reserved = s.reserved ∧
      (LinkCounts s → s.link.state ≠ .lost → s.link.state ≠ .arming .lost 2 →
        (s.probed f sequence mark).accounts = s.accounts ∧ (s.probed f sequence mark).queues.marks = s.queues.marks) := by
  obtain ⟨hpending, hclk, hmode, hbanks, -, -, -, -, hfarm, hreserved, -, -⟩ := s.heard_kept f sequence
  obtain ⟨hpending2, hclk2, -, hmode2, hbanks2, haccounts2, -, hfarm2, hreserved2⟩ := (s.heard f sequence).takeMark_kept mark
  refine ⟨hpending2.trans hpending, hclk2.trans hclk, hmode2.trans hmode, hbanks2.trans hbanks, hfarm2.trans hfarm,
    hreserved2.trans hreserved, fun hc h1 h2 => ?_⟩
  obtain ⟨haccounts, hqueues⟩ := (s.hearing f sequence).hearProbe_quiet hc h1 h2
  exact ⟨haccounts2.trans haccounts, ((s.heard f sequence).marks_takeMark mark).trans (congrArg QueueManager.marks hqueues)⟩

/-- Settles O37: the act of the link, the notices raised up to the mark, and the ECHO behind them. -/
theorem goodProbeMovesTheLinkAndIsEchoed : Obligations.GoodProbeMovesTheLinkAndIsEchoed := by
  unfold Obligations.GoodProbeMovesTheLinkAndIsEchoed
  intro f k sequence mark s hc hhead
  have hexec : exec .probe s = .next ((s.probed f sequence mark).sendEcho k sequence mark true) := exec_probe_good hhead
  obtain ⟨hdown, hlost, hfirst, hsecond, hup, hsuspect, hwindow, hsequence, hbad, hecho⟩ := s.probed_moves f sequence mark
  obtain ⟨hpending, hclk, hmode, hbanks, hfarm, hreserved, hquiet⟩ := s.probed_kept f sequence mark
  obtain ⟨notices, dropped, hn, hdropped, hsvc, hmgmt⟩ := s.probed_noticing f sequence mark
  have hsvc : (s.probed f sequence mark).svc =
      { s.svc.took f [] with
        upstream := s.svc.upstream ++ notices,
        stats := { (s.svc.took f []).stats with droppedReplies := dropped } } := by
    rw [hsvc]
    simp [State.hearing, State.recordSequence, State.tookRequest, ServicePort.took]
  have hmgmt : (s.probed f sequence mark).mgmt = { s.mgmt with events := (s.probed f sequence mark).mgmt.events } := hmgmt
  have heth : (s.probed f sequence mark).ownEth = { dst := f.src, src := f.dst, etype := s.mgmt.params.seatType } := by
    rw [State.ownEth, hsvc, hmgmt]
    rfl
  refine ⟨_, notices, hexec, ?_⟩
  rw [State.digest_sendEcho]
  simp only [State.sendEcho_kept, State.sendEcho_parts, hwindow, hsequence, hbad, hmode, hbanks, hfarm, hpending, hclk]
  generalize s.probed f sequence mark = v at *
  have hstate : (v.sendEcho k sequence mark true).link.state = v.link.state := by
    rw [State.sendEcho]
    split <;> simp
  rw [hstate]
  refine ⟨hdown, hlost, hfirst, hsecond, hup, hsuspect, trivial, trivial, trivial, hn, fun hroom => ?_, fun hfull => ?_, by rw [hsvc]; rfl,
    by rw [hsvc]; rfl, ?_, hquiet hc, trivial, trivial, trivial, trivial, trivial, hmgmt⟩
  · rw [State.sendEcho_of_room (by rw [hsvc, hreserved, List.length_append]; exact hroom), heth, hecho]
    exact ⟨by simp [State.pushUp, hsvc], rfl⟩
  · rw [State.sendEcho_of_full (by rw [hsvc, hreserved, List.length_append]; exact hfull)]
    refine ⟨by simp [State.dropUp, hsvc], hecho, fun hlt => ?_⟩
    have hdrop : v.dropUp.svc.stats.droppedReplies = bump dropped := by simp [State.dropUp, hsvc]
    rw [hdrop]
    exact lt_bump_of_le hdropped hlt
  · have hmessages : (v.sendEcho k sequence mark true).svc.stats.seatMessages = v.svc.stats.seatMessages := by
      rw [State.sendEcho]
      split <;> rfl
    rw [hmessages, hsvc]
    rfl

end Sys2Proof.Machine
end

section
/-! PROOFS. The link regained: SHARED pools answer to their ceilings again, and the restoration (R31, R146, R147). -/

namespace Sys2Proof.Machine

open Host

variable {s t u before : State} {f : Frame} {k : Key}

/-! ### The SHARED pools and their responses (R31, R32) -/

theorem State.mem_sharedPools (hl : AccountsListed s) {p : Nat} : p ∈ s.sharedPools ↔ (s.acct p).state = .shared := by
  refine ⟨fun h => ?_, fun h => ?_⟩
  · obtain ⟨e, he, rfl⟩ := List.mem_map.1 h
    obtain ⟨hm, hs⟩ := List.mem_filter.1 he
    rw [State.acct_of_listed hl.1 hm]
    exact of_decide_eq_true hs
  · refine Classical.byContradiction fun hn => ?_
    exact State.not_shared_of_not_mem hl hn h

/-- The responses of a list of pools move their overcommit flags alone. -/
theorem State.acct_respondAll (before : State) (ps : List Nat) (s : State) (q : Nat) :
    (State.respondAll before ps s).acct q =
      if q ∈ ps then { s.acct q with overcommit := decide (s.effectiveCeiling q < (s.acct q).h) } else s.acct q := by
  induction ps generalizing s with
  | nil => simp [State.respondAll]
  | cons p ps ih =>
    have hacct := State.acct_respond before s p q
    have heff : (State.respond before p s).effectiveCeiling q = s.effectiveCeiling q := by
      refine State.effectiveCeiling_congr (by simp) (by simp) q ?_ ?_ <;> rw [hacct] <;> split <;> simp_all
    refine (ih (State.respond before p s)).trans ?_
    rw [heff, hacct]
    by_cases hp : p = q
    · subst hp
      simp
    · by_cases hm : q ∈ ps <;> simp [hp, hm, Ne.symm hp]

theorem State.eventPending_respondAll_mono (before : State) (ps : List Nat) {e : Event} (h : s.eventPending e = true) :
    (State.respondAll before ps s).eventPending e = true := by
  induction ps generalizing s with
  | nil => exact h
  | cons p ps ih => exact ih (State.eventPending_respond_mono before h)

theorem State.mem_respondAll (before : State) (ps : List Nat) {q : Nat} (h : q ∈ s.queues.marks) :
    q ∈ (State.respondAll before ps s).queues.marks := by
  induction ps generalizing s with
  | nil => exact h
  | cons p ps ih => exact ih (State.mem_respond before h)

/-- What the pools of a list raise and ask for in their responses. -/
theorem State.respondAll_responds (before : State) (ps : List Nat) (s : State) {q : Nat} (hq : q ∈ ps) :
    ((s.acct q).state ≠ .absent → before.effectiveCeiling q < s.effectiveCeiling q →
        q ∈ (State.respondAll before ps s).queues.marks) ∧
      ((s.acct q).overcommit = false → s.effectiveCeiling q < (s.acct q).h →
        (State.respondAll before ps s).eventPending .poolOvercommit = true) := by
  induction ps generalizing s with
  | nil => simp at hq
  | cons p ps ih =>
    by_cases hp : q = p
    · subst hp
      exact ⟨fun hd hrise => State.mem_respondAll before ps
          ((State.mem_marks_respond before s q q).2 (.inr ⟨rfl, hd, .inr (.inl hrise)⟩)),
        fun hf hlt => State.eventPending_respondAll_mono before ps (State.eventPending_respond hf hlt)⟩
    · have hacct : (State.respond before p s).acct q = s.acct q := by rw [State.acct_respond, if_neg (Ne.symm hp)]
      have heff : (State.respond before p s).effectiveCeiling q = s.effectiveCeiling q :=
        State.effectiveCeiling_congr (by simp) (by simp) q (by rw [hacct]) (by rw [hacct])
      have h := ih (State.respond before p s) ((List.mem_cons.1 hq).resolve_left hp)
      rwa [hacct, heff] at h

/-! ### The gap flags of a restoration (R147) -/

theorem State.acct_setGap (s : State) (p q : Nat) : (s.setGap p).acct q = if p = q then { s.acct q with gap := true } else s.acct q := by
  rw [State.setGap]
  by_cases hg : (s.acct p).gap = true
  · rw [if_pos hg]
    split
    · next h => subst h; rw [← hg]
    · rfl
  · rw [if_neg hg, State.acct_congr (s := s.modAcct p (fun a => { a with gap := true })) (by simp), State.acct_modAcct]
    split
    · next h => rw [h]
    · rfl

theorem State.acct_setGaps (ps : List Nat) (s : State) (q : Nat) :
    (ps.foldl (fun t p => t.setGap p) s).acct q = if q ∈ ps then { s.acct q with gap := true } else s.acct q := by
  induction ps generalizing s with
  | nil => simp
  | cons p ps ih =>
    rw [List.foldl_cons, ih, State.acct_setGap]
    by_cases hp : p = q
    · subst hp; simp
    · by_cases hm : q ∈ ps <;> simp [hp, hm, Ne.symm hp]

theorem State.eventPending_setGap_mono (p : Nat) {e : Event} (h : s.eventPending e = true) : (s.setGap p).eventPending e = true := by
  rw [State.setGap]
  split
  · exact h
  · rw [State.eventPending_raise, show (s.modAcct p _).eventPending e = true from h, Bool.or_true]

theorem State.eventPending_setGaps_mono (ps : List Nat) {e : Event} (h : s.eventPending e = true) :
    (ps.foldl (fun t p => t.setGap p) s).eventPending e = true := by
  induction ps generalizing s with
  | nil => exact h
  | cons p ps ih => exact ih (State.eventPending_setGap_mono p h)

theorem State.eventPending_setGaps (ps : List Nat) (s : State) {q : Nat} (hq : q ∈ ps) (hg : (s.acct q).gap = false) :
    (ps.foldl (fun t p => t.setGap p) s).eventPending .reportGap = true := by
  induction ps generalizing s with
  | nil => simp at hq
  | cons p ps ih =>
    by_cases hp : q = p
    · subst hp
      have hset : (s.setGap q).eventPending .reportGap = true := by
        rw [State.setGap, if_neg (by simp [hg])]
        simp
      exact State.eventPending_setGaps_mono ps hset
    · refine ih (s.setGap p) ((List.mem_cons.1 hq).resolve_left hp) ?_
      rw [State.acct_setGap, if_neg (Ne.symm hp)]
      exact hg

/-! ### The probe that regains the link -/

theorem State.hearing_hearProbe_of_lost (s : State) (f : Frame) (sequence : Word) (h : s.link.state = .lost) :
    (s.hearing f sequence).hearProbe = (s.hearing f sequence).leaveLost := by
  have hl : (s.hearing f sequence).link.state = .lost := h
  simp only [State.hearProbe, hl]

theorem State.hearing_hearProbe_of_third (s : State) (f : Frame) (sequence : Word) (h : s.link.state = .arming .lost 2) :
    (s.hearing f sequence).hearProbe = (s.hearing f sequence).restoreLink := by
  have hl : (s.hearing f sequence).link.state = .arming .lost 2 := h
  simp only [State.hearProbe, hl]
  rfl

theorem State.eventPending_takeMark_mono (mark : Nat) {e : Event} (h : s.eventPending e = true) :
    (s.takeMark mark).eventPending e = true := by
  simp only [State.takeMark]
  split
  · split
    · rw [State.leaveUnset, State.eventPending_raise, Bool.or_eq_true]
      exact .inr h
    · rw [State.eventPending_raise, h, Bool.or_true]
  · split
    · simpa [State.eventPending] using h
    · rw [State.eventPending_raise, h, Bool.or_true]

/-- What the ECHO and the time mark leave of the link's move: the accounts, the marks, the events it raised and its autonomy clock. -/
theorem State.echoed_moves (s : State) (f : Frame) (k : Key) (sequence : Word) (mark : Nat) {w t : State}
    (hw : w = (s.hearing f sequence).hearProbe) (ht : t = (s.probed f sequence mark).sendEcho k sequence mark true) :
    t.link.state = w.link.state ∧ t.link.autonomyStart = w.link.autonomyStart ∧ t.link.autonomyPassed = w.link.autonomyPassed ∧
      (∀ p, t.acct p = w.acct p) ∧ t.queues.marks = w.queues.marks ∧ (∀ e, w.eventPending e = true → t.eventPending e = true) ∧
      t.farm = s.farm := by
  obtain ⟨-, -, -, -, hfarm, -⟩ := s.probed_kept f sequence mark
  have hlink := s.link_probed f sequence mark
  have hmarks : (s.probed f sequence mark).queues.marks = w.queues.marks := by
    rw [hw, State.probed, State.marks_takeMark, State.heard_eq]
    rfl
  have hacct : ∀ p, (s.probed f sequence mark).acct p = w.acct p := fun p => by
    rw [hw, State.probed, State.acct_congr (s := s.heard f sequence) (by simp), State.heard_eq]
    rfl
  have hevents : ∀ e, w.eventPending e = true → (s.probed f sequence mark).eventPending e = true := fun e he =>
    State.eventPending_takeMark_mono (s := s.heard f sequence) mark (by rw [State.heard_eq, ← hw]; exact he)
  have hecho : t.link = { (s.probed f sequence mark).link with echoError := t.link.echoError } := by
    rw [ht, State.sendEcho]
    split <;> rfl
  rw [hecho, hlink, ← hw]
  refine ⟨rfl, rfl, rfl, fun p => ?_, ?_, fun e he => ?_, ?_⟩
  · rw [ht, State.acct_congr (s := s.probed f sequence mark) (by simp), hacct]
  · rw [ht]
    simpa using hmarks
  · rw [ht, State.eventPending_sendEcho]
    exact hevents e he
  · rw [ht]
    simpa using hfarm

/-- A good probe in LOST: the SHARED pools' responses to their ceilings (R146). -/
theorem State.leaveLost_responds (hlisted : AccountsListed s) (hlost : s.link.state = .lost) :
    s.leaveLost.link.autonomyStart = s.link.autonomyStart ∧ s.leaveLost.link.autonomyPassed = s.link.autonomyPassed ∧
      (∀ p, s.leaveLost.acct p =
        { s.acct p with
          overcommit := if (s.acct p).state = .shared then decide (s.ceiling p < (s.acct p).h) else (s.acct p).overcommit }) ∧
      ∀ p, (s.acct p).state = .shared → (s.acct p).d < s.ceiling p → p ∈ s.leaveLost.queues.marks := by
  have heff : ∀ p, (s.acct p).state = .shared →
      (s.setLinkState (.arming .lost 1)).effectiveCeiling p = s.ceiling p ∧ s.effectiveCeiling p = (s.acct p).d := fun p hs => by
    have hs2 : ((s.setLinkState (.arming .lost 1)).acct p).state = .shared := hs
    rw [State.effectiveCeiling_of_shared hs2, State.effectiveCeiling_of_shared hs, if_pos hlost]
    exact ⟨rfl, rfl⟩
  refine ⟨by rw [State.leaveLost, State.link_respondAll]; rfl, by rw [State.leaveLost, State.link_respondAll]; rfl, fun p => ?_,
    fun p hs hrise => ?_⟩
  · rw [State.leaveLost, State.acct_respondAll]
    by_cases hs : (s.acct p).state = .shared
    · rw [if_pos ((State.mem_sharedPools hlisted).2 hs), if_pos hs, (heff p hs).1]
      rfl
    · rw [if_neg fun h => hs ((State.mem_sharedPools hlisted).1 h), if_neg hs]
      rfl
  · refine (State.respondAll_responds s s.sharedPools _ ((State.mem_sharedPools hlisted).2 hs)).1 ?_ ?_
    · exact fun ha => by rw [show ((s.setLinkState (.arming .lost 1)).acct p).state = .shared from hs] at ha; cases ha
    · rw [(heff p hs).1, (heff p hs).2]
      exact hrise

/-- The restoration: the gap flags, and the passes where autonomy passed was set (R147). -/
theorem State.restoreLink_restores (hlisted : AccountsListed s) :
    s.restoreLink.eventPending .linkRestored = true ∧
      (∀ p, s.restoreLink.acct p =
        { s.acct p with gap := if (s.acct p).state = .shared then true else (s.acct p).gap }) ∧
      (∀ p, (s.acct p).state = .shared → (s.acct p).gap = false → s.restoreLink.eventPending .reportGap = true) ∧
      (s.link.autonomyPassed = true → ∀ e ∈ s.queues.entries, e.pool ∈ s.restoreLink.queues.marks) ∧
      (s.link.autonomyPassed = false → s.restoreLink.queues.marks = s.queues.marks) := by
  have hevents : ∀ e, s.restoreLink.eventPending e = s.gapped.eventPending e := fun e => by
    rw [State.restoreLink_eq]
    split
    · simp [State.eventPending, State.stopAutonomy]
    · rfl
  have hacct : ∀ p, s.restoreLink.acct p = s.gapped.acct p := fun p => by
    rw [State.restoreLink_eq]
    split
    · exact State.acct_congr (by simp [State.stopAutonomy]) p
    · rfl
  have hraised : ∀ p, ((s.setLinkState .up).raise .linkRestored).acct p = s.acct p := fun p => State.acct_congr (by simp [State.setLinkState]) p
  refine ⟨?_, fun p => ?_, fun p hs hg => ?_, fun hp e he => ?_, fun hp => ?_⟩
  · rw [hevents]
    exact State.eventPending_setGaps_mono _ (by simp)
  · rw [hacct, State.gapped, State.acct_setGaps, hraised]
    by_cases hs : (s.acct p).state = .shared
    · rw [if_pos ((State.mem_sharedPools hlisted).2 hs), if_pos hs]
    · rw [if_neg fun h => hs ((State.mem_sharedPools hlisted).1 h), if_neg hs]
  · rw [hevents]
    exact State.eventPending_setGaps _ _ ((State.mem_sharedPools hlisted).2 hs) (by rw [hraised]; exact hg)
  · rw [State.restoreLink_eq, if_pos hp, State.mem_askAllOrdered, State.mem_waitingPools]
    have hqueues : s.gapped.stopAutonomy.queues = s.queues := s.queues_gapped
    rw [hqueues]
    exact .inr ⟨e, he, rfl⟩
  · rw [State.restoreLink_eq, if_neg (by simp [hp])]
    exact congrArg QueueManager.marks s.queues_gapped

/-- Settles O41: the responses of the SHARED pools, and the restoration. -/
theorem linkIsRegained : Obligations.LinkIsRegained := by
  unfold Obligations.LinkIsRegained
  intro f k sequence mark s hhead hlisted
  have hexec : exec .probe s = .next ((s.probed f sequence mark).sendEcho k sequence mark true) := exec_probe_good hhead
  obtain ⟨-, hlost, -, hsecond, -⟩ := s.probed_moves f sequence mark
  obtain ⟨hstate, hstart, hpassed, hacct, hmarks, hevents, hfarm⟩ := s.echoed_moves f k sequence mark rfl rfl
  have hlinks : (s.probed f sequence mark).link.state = (s.hearing f sequence).hearProbe.link.state := by rw [State.link_probed]
  rw [hlinks] at hlost hsecond
  refine ⟨fun h => ⟨_, hexec, hstate.trans (hlost h), ?_⟩, fun h => ⟨_, hexec, hstate.trans (hsecond _ h), ?_⟩⟩
  · rw [s.hearing_hearProbe_of_lost f sequence h] at hstart hpassed hacct hmarks hevents
    obtain ⟨hrstart, hrpassed, hraccts, hrmarks⟩ := State.leaveLost_responds (s := s.hearing f sequence) hlisted h
    exact ⟨hstart.trans hrstart, hpassed.trans hrpassed, fun p => (hacct p).trans (hraccts p), fun p hs hrise => by
      rw [hmarks]
      exact hrmarks p hs hrise, hfarm⟩
  · rw [s.hearing_hearProbe_of_third f sequence h] at hstart hpassed hacct hmarks hevents
    rw [State.link_restoreLink] at hstart hpassed
    obtain ⟨hrestored, hraccts, hgaps, hrmarks, hrquiet⟩ := State.restoreLink_restores (s := s.hearing f sequence) hlisted
    exact ⟨hevents _ hrestored, hstart, hpassed, fun p => (hacct p).trans (hraccts p), fun p hs hg => hevents _ (hgaps p hs hg),
      fun hp e he => by rw [hmarks]; exact hrmarks hp e he, fun hp => hmarks.trans (hrquiet hp), hfarm⟩

end Sys2Proof.Machine
end

section
/-! PROOFS. A failure to hear the service: how it moves the link, and the entry into LOST (R31, R120, R134, R141, R143, R145, R148, R149,
R151). -/

namespace Sys2Proof.Machine

open Host

variable {s t u before : State} {c : Instr}

/-! ### The failure taken (R141, R143) -/

/-- The state in which a failure is about to move the link: a bad PROBE dropped, counted and recorded; nothing for a window expiry. -/
def State.missing (s : State) (c : Instr) : State :=
  if c = .probe then
    { s with
      svc :=
        { s.svc with intake := s.svc.intake.tail, stats := { s.svc.stats with checkErrors := bump s.svc.stats.checkErrors } },
      link := { s.link with lastBad := some s.clk } }
  else s

theorem State.FailureTaken.exec (h : s.FailureTaken c) :
    (c = .probe ∨ c = .windowExpiry) ∧
      Machine.exec c s = .next (((s.missing c).missProbe (decide (c = .windowExpiry))).restartWindow) := by
  cases c <;> simp only [State.FailureTaken] at h
  case windowExpiry =>
    obtain ⟨m, hm, hle⟩ := h
    have hdue : s.windowDue = true := by simp [State.windowDue, hm, hle]
    refine ⟨.inr rfl, ?_⟩
    change execWindowExpiry s = _
    rw [execWindowExpiry, if_pos hdue]
    rfl
  case probe =>
    obtain ⟨f, hf⟩ := h
    refine ⟨.inl rfl, ?_⟩
    change execProbe s = _
    simp only [execProbe, hf]
    rfl

theorem State.state_startAutonomy (s : State) : s.startAutonomy.link.state = s.link.state := by
  rw [State.startAutonomy]
  cases s.link.autonomyStart with
  | none =>
    simp only [State.checkAutonomy]
    split <;> simp
  | some _ => rfl

theorem State.state_sendUnsolicited (s : State) : s.sendUnsolicited.link.state = s.link.state := by
  rw [State.sendUnsolicited, State.sendEcho]
  split <;> rfl

theorem State.link_flushForwards (s : State) : s.flushForwards.link = s.link := by simp

theorem State.state_enterLost (s : State) (byExpiry : Bool) : (s.enterLost byExpiry).link.state = .lost := by
  have hlost : (((s.setLinkState .lost).raise .linkLost).startAutonomy).link.state = .lost := by
    rw [State.state_startAutonomy]
    simp [State.setLinkState]
  simp only [State.enterLost, State.holdover_kept, State.link_respondAll, State.link_flushForwards]
  split
  · rw [State.state_sendUnsolicited, hlost]
  · exact hlost

/-! ### The notices of an entry into LOST (R189, R190) -/

theorem State.checkAutonomy_noticing (s : State) : Noticing s s.checkAutonomy := by
  rw [State.checkAutonomy]
  split
  · refine Noticing.trans ?_ (State.raise_noticing _ _)
    exact .of_kept rfl rfl
  · exact .refl s

theorem State.startAutonomy_noticing (s : State) : Noticing s s.startAutonomy := by
  rw [State.startAutonomy]
  cases s.link.autonomyStart with
  | none =>
    refine Noticing.trans ?_ (State.checkAutonomy_noticing _)
    exact .of_kept rfl rfl
  | some _ => exact .refl s

/-- The link LOST, LINK_LOST raised and the autonomy clock started, before an ECHO is sent (R145; log 17). -/
def State.losing (s : State) : State := ((s.setLinkState .lost).raise .linkLost).startAutonomy

theorem State.losing_noticing (s : State) : Noticing s s.losing :=
  ((Noticing.of_kept (t := s.setLinkState .lost) rfl rfl).trans (State.raise_noticing _ .linkLost)).trans (State.startAutonomy_noticing _)

theorem State.holdover_noticing (s : State) : Noticing s s.holdover := by
  rw [State.holdover]
  split
  · refine Noticing.trans ?_ (State.raise_noticing _ _)
    exact .of_kept rfl rfl
  · exact .refl s

theorem State.mgmt_flush (es : List Forward) (s : State) :
    (es.foldl (fun t e => t.toFarm e.addrs e.key .unreachable) s).mgmt = s.mgmt := by
  induction es generalizing s with
  | nil => rfl
  | cons e es ih =>
    refine (ih (s.toFarm e.addrs e.key .unreachable)).trans ?_
    rw [State.toFarm_uncounted (s := s) (b := .unreachable) fun _ => rfl]
    rfl

theorem State.flushForwards_noticing (s : State) : Noticing s s.flushForwards :=
  .of_kept (by simp) (State.mgmt_flush s.fwd.entries (s.setFwd { s.fwd with entries := [] }))

/-- What the entry into LOST does behind the ECHO (R31, R120, R134). -/
def State.afterLoss (before s : State) : State := (State.respondAll before before.sharedPools s.flushForwards).holdover

theorem State.afterLoss_noticing (before s : State) : Noticing s (State.afterLoss before s) :=
  (s.flushForwards_noticing.trans (State.respondAll_noticing _ _ _)).trans (State.holdover_noticing _)

/-- The ways a failure moves the link, each with its act (R143). -/
theorem State.missProbe_cases (s : State) (byExpiry : Bool) (P : State → Prop)
    (hstay : s.link.state = .down → P s)
    (hset : ∀ l, (s.link.state = .up ∧ l = .suspect 1) ∨ (s.link.state = .suspect 1 ∧ l = .suspect 2) ∨
      ((∃ n, s.link.state = .arming .down n) ∧ l = .down) → P (s.setLinkState l))
    (henter : (∃ n, s.link.state = .arming .lost n) ∨ (∃ n, n ≠ 1 ∧ s.link.state = .suspect n) → P (s.enterLost byExpiry))
    (hlost : s.link.state = .lost → P (if byExpiry = true then s.sendUnsolicited else s)) : P (s.missProbe byExpiry) := by
  rw [State.missProbe]
  cases h : s.link.state with
  | down => exact hstay h
  | lost => exact hlost h
  | up => exact hset _ (.inl ⟨h, rfl⟩)
  | suspect n =>
    by_cases hn : n = 1
    · subst hn
      exact hset _ (.inr (.inl ⟨h, rfl⟩))
    · simp only [hn, if_false]
      exact henter (.inr ⟨n, hn, h⟩)
  | arming o n =>
    cases o with
    | down => exact hset _ (.inr (.inr ⟨⟨n, h⟩, rfl⟩))
    | lost => exact henter (.inl ⟨n, h⟩)

/-- The state a failure moves the link to (R143). -/
theorem State.missProbe_state (s : State) (byExpiry : Bool) :
    (s.link.state = .down → (s.missProbe byExpiry).link.state = .down) ∧
      (∀ n, s.link.state = .arming .down n → (s.missProbe byExpiry).link.state = .down) ∧
      (∀ n, s.link.state = .arming .lost n → (s.missProbe byExpiry).link.state = .lost) ∧
      (s.link.state = .up → (s.missProbe byExpiry).link.state = .suspect 1) ∧
      (s.link.state = .suspect 1 → (s.missProbe byExpiry).link.state = .suspect 2) ∧
      (s.link.state = .suspect 2 → (s.missProbe byExpiry).link.state = .lost) ∧
      (s.link.state = .lost → (s.missProbe byExpiry).link.state = .lost) := by
  refine ⟨fun h => ?_, fun n h => ?_, fun n h => ?_, fun h => ?_, fun h => ?_, fun h => ?_, fun h => ?_⟩
  · simp only [State.missProbe, h]
  · simp only [State.missProbe, h]; rfl
  · simp only [State.missProbe, h, State.state_enterLost]
  · simp only [State.missProbe, h]; rfl
  · simp only [State.missProbe, h]; rfl
  · have he : s.missProbe byExpiry = s.enterLost byExpiry := by simp only [State.missProbe, h]; rfl
    rw [he, State.state_enterLost]
  · simp only [State.missProbe, h]
    split
    · rw [State.state_sendUnsolicited, h]
    · exact h

/-- A failure that does not enter LOST moves the link and at most sends an ECHO. -/
theorem State.missProbe_outside (s : State) (byExpiry : Bool)
    (h : (s.missProbe byExpiry).link.state ≠ .lost ∨ s.link.state = .lost) :
    s.missProbe byExpiry = { s with link := (s.missProbe byExpiry).link, svc := (s.missProbe byExpiry).svc } ∧
      ((s.missProbe byExpiry).link.state ≠ .lost ∨ byExpiry = false → (s.missProbe byExpiry).svc = s.svc) := by
  revert h
  refine s.missProbe_cases byExpiry
    (fun t => t.link.state ≠ .lost ∨ s.link.state = .lost →
      t = { s with link := t.link, svc := t.svc } ∧ (t.link.state ≠ .lost ∨ byExpiry = false → t.svc = s.svc))
    (fun _ _ => ⟨rfl, fun _ => rfl⟩) (fun _ _ _ => ⟨rfl, fun _ => rfl⟩) (fun henter h => ?_) (fun hl _ => ?_)
  · rcases h with h | h
    · exact absurd (s.state_enterLost byExpiry) h
    · rcases henter with ⟨n, hn⟩ | ⟨n, -, hn⟩ <;> rw [h] at hn <;> cases hn
  · cases byExpiry with
    | false => exact ⟨rfl, fun _ => rfl⟩
    | true =>
      rw [if_pos rfl]
      refine ⟨?_, fun h => ?_⟩
      · rw [State.sendUnsolicited, State.sendEcho]
        split <;> rfl
      · rcases h with h | h
        · exact absurd (s.state_sendUnsolicited.trans hl) h
        · cases h

theorem State.missing_probe (s : State) :
    s.missing .probe =
      { s with
        svc :=
          { s.svc with intake := s.svc.intake.tail, stats := { s.svc.stats with checkErrors := bump s.svc.stats.checkErrors } },
        link := { s.link with lastBad := some s.clk } } := if_pos rfl

theorem State.missing_expiry (s : State) : s.missing .windowExpiry = s := if_neg (by decide)

theorem State.link_missing (s : State) (c : Instr) :
    (s.missing c).link = { s.link with lastBad := if c = .probe then some s.clk else s.link.lastBad } := by
  rw [State.missing]
  split <;> rfl

theorem State.missing_only (s : State) (c : Instr) :
    s.missing c = { s with svc := (s.missing c).svc, link := (s.missing c).link } := by
  rw [State.missing]
  split <;> rfl

theorem State.restartWindow_only (s : State) : s.restartWindow = { s with link := s.restartWindow.link } := rfl

theorem State.link_restartWindow (s : State) :
    s.restartWindow.link =
      { s.link with windowExpiry := if s.link.state = .down then none else some s.windowFromNow } := by
  simp [State.restartWindow, State.windowLength, State.windowFromNow, Config.windowCyclesPerMs]

/-- An expiry in LOST: the unsolicited ECHO, where it finds room (R149). -/
theorem State.missProbe_lost (s : State) (h : s.link.state = .lost) : s.missProbe true = s.sendUnsolicited := by
  simp only [State.missProbe, h]
  rfl

/-- A bad PROBE raises notices at most. -/
theorem State.missProbe_noticing (s : State) : Noticing s (s.missProbe false) :=
  s.missProbe_cases false (Noticing s) (fun _ => .refl s) (fun _ _ => .of_kept rfl rfl)
    (fun _ => s.losing_noticing.trans (State.afterLoss_noticing s s.losing)) (fun _ => .refl s)

/-- Settles O39: the transition by its cases, the window restarted behind it. -/
theorem failureMovesTheLink : Obligations.FailureMovesTheLink := by
  unfold Obligations.FailureMovesTheLink
  intro c s hfailure
  obtain ⟨hc, hexec⟩ := hfailure.exec
  have hmlink := s.link_missing c
  have hmonly := s.missing_only c
  obtain ⟨hdown, harmdown, harmlost, hup, hfirst, hsecond, hlost⟩ := (s.missing c).missProbe_state (decide (c = .windowExpiry))
  have houtside := (s.missing c).missProbe_outside (decide (c = .windowExpiry))
  obtain ⟨-, hbad, hsequence, -, -, -, -, -, -, hintake, -, -, -, -, hpeer, -⟩ := (s.missing c).missProbe_parts (decide (c = .windowExpiry))
  obtain ⟨-, hclk, -⟩ := (s.missing c).missProbe_kept (decide (c = .windowExpiry))
  have hparams : ((s.missing c).missProbe (decide (c = .windowExpiry))).mgmt.params = s.mgmt.params := by
    rw [hmonly]
    simp
  have hmstate : (s.missing c).link.state = s.link.state := by rw [hmlink]
  rw [hmstate] at hdown harmdown harmlost hup hfirst hsecond hlost houtside
  have hlinks := ((s.missing c).missProbe (decide (c = .windowExpiry))).link_restartWindow
  have hwindow : ((s.missing c).missProbe (decide (c = .windowExpiry))).windowFromNow = s.windowFromNow := by
    rw [State.windowFromNow, hclk, hparams, hmonly]
    rfl
  refine ⟨_, hexec, ?_⟩
  rw [hlinks, hwindow]
  refine ⟨hdown, harmdown, harmlost, hup, hfirst, hsecond, hlost, rfl, hbad.trans (by rw [hmlink]), hsequence.trans (by rw [hmlink]),
    fun hp => ?_, fun hw => ?_, hpeer.trans ?_, fun h => ?_, fun h => ?_, fun hl hw hroom => ?_⟩
  · subst hp
    obtain ⟨notices, dropped, -, -, hsvc, -⟩ := (s.missing .probe).missProbe_noticing
    change ((s.missing .probe).missProbe false).svc.intake = _ ∧ ((s.missing .probe).missProbe false).svc.stats.checkErrors = _ ∧
      ((s.missing .probe).missProbe false).svc.stats.seatMessages = _
    rw [hsvc, State.missing_probe]
    exact ⟨rfl, rfl, rfl⟩
  · subst hw
    exact hintake.trans (by rw [State.missing_expiry])
  · rw [State.missing]
    split <;> rfl
  · obtain ⟨honly, -⟩ := houtside h
    rw [State.restartWindow_only, honly, hmonly]
    rfl
  · rcases h with h | ⟨hl, hp⟩
    · obtain ⟨-, hsvc⟩ := houtside (.inl h)
      have hup : (s.missing c).svc.upstream = s.svc.upstream := by
        rw [State.missing]
        split <;> rfl
      exact (congrArg ServicePort.upstream (hsvc (.inl h))).trans hup
    · subst hp
      obtain ⟨-, hsvc⟩ := houtside (.inr hl)
      exact (congrArg ServicePort.upstream (hsvc (.inr rfl))).trans (by rw [State.missing_probe])
  · subst hw
    have hact : (s.missing .windowExpiry).missProbe (decide (Instr.windowExpiry = .windowExpiry)) = s.sendUnsolicited := by
      rw [State.missing_expiry]
      exact s.missProbe_lost hl
    rw [hact, State.sendUnsolicited, State.sendEcho_of_room hroom]
    exact ⟨rfl, rfl⟩

end Sys2Proof.Machine
end

section
/-! PROOFS. The entry into LOST (R31, R120, R134, R145, R148, R149, R151). -/

namespace Sys2Proof.Machine

open Host

variable {s t u before : State} {c : Instr}

/-! ### The events raised (R189) -/

theorem State.events_raise (s : State) (e : Event) : (s.raise e).mgmt.events = s.mgmt.events ||| e.mask := by
  rw [State.raise]
  by_cases h : s.eventPending e = true
  · rw [if_pos h]
    refine BitVec.eq_of_getLsbD_eq fun i hi => ?_
    rw [BitVec.getLsbD_or, Event.mask, BitVec.getLsbD_twoPow]
    by_cases hbit : e.bit = i
    · rw [← hbit, show s.mgmt.events.getLsbD e.bit = true from h, Bool.true_or]
    · simp [hbit]
  · rw [if_neg h]
    split
    · simp [State.flagEvent]
    · rfl

/-! ### The loss before the ECHO (R145, R151) -/

theorem State.startAutonomy_link (s : State) :
    s.startAutonomy.link =
        { s.link with
          autonomyStart := some (s.link.autonomyStart.getD s.clk),
          autonomyPassed :=
            s.link.autonomyPassed || decide (s.link.autonomyStart = none ∧ s.mgmt.params.autonomyLimit = 0) } ∧
      s.startAutonomy.mgmt.events =
        s.mgmt.events |||
          (if s.link.autonomyPassed = false ∧ s.startAutonomy.link.autonomyPassed = true then Event.autonomyExpired.mask else 0) := by
  cases hstart : s.link.autonomyStart with
  | some start =>
    have hsame : s.startAutonomy = s := by simp only [State.startAutonomy, hstart]
    rw [hsame]
    refine ⟨?_, ?_⟩
    · have hkept : s.link = { s.link with autonomyStart := some start } := by rw [← hstart]
      simpa using hkept
    · rw [if_neg (by simp)]
      simp
  | none =>
    have hact : s.startAutonomy = (s.setLink { s.link with autonomyStart := some s.clk }).checkAutonomy := by
      simp only [State.startAutonomy, hstart]
    have hdue := State.autonomyDue_iff (s := s.setLink { s.link with autonomyStart := some s.clk }) (start := s.clk) rfl
    have hlimit : s.mgmt.params.autonomyLimit * 1000 ≤ (s.clk - s.clk) / 156250 ↔ s.mgmt.params.autonomyLimit = 0 := by omega
    change _ ↔ s.mgmt.params.autonomyLimit * 1000 ≤ (s.clk - s.clk) / 156250 ∧ s.link.autonomyPassed = false at hdue
    rw [hlimit] at hdue
    rw [hact]
    by_cases hd : (s.setLink { s.link with autonomyStart := some s.clk }).autonomyDue = true
    · obtain ⟨hz, hp⟩ := hdue.1 hd
      rw [State.checkAutonomy_of_due hd, State.events_raise]
      simp [hz, hp]
    · rw [State.checkAutonomy_of_not_due hd]
      rw [hdue] at hd
      cases hp : s.link.autonomyPassed with
      | true => simp [hp]
      | false =>
        have hz : s.mgmt.params.autonomyLimit ≠ 0 := fun hz => hd ⟨hz, hp⟩
        simp [hp, hz]

/-- The state of the link, and the events, once it is LOST and before an ECHO (R145, R151). -/
theorem State.losing_loses (s : State) :
    s.losing.link =
        { s.link with
          state := .lost, autonomyStart := some (s.link.autonomyStart.getD s.clk),
          autonomyPassed :=
            s.link.autonomyPassed || decide (s.link.autonomyStart = none ∧ s.mgmt.params.autonomyLimit = 0) } ∧
      s.losing.mgmt.events =
        s.mgmt.events ||| Event.linkLost.mask |||
          (if s.link.autonomyPassed = false ∧ s.losing.link.autonomyPassed = true then Event.autonomyExpired.mask else 0) := by
  obtain ⟨hlink, hevents⟩ := ((s.setLinkState .lost).raise .linkLost).startAutonomy_link
  have hraised : ((s.setLinkState .lost).raise .linkLost).link = { s.link with state := .lost } := by simp [State.setLinkState]
  have hclk : ((s.setLinkState .lost).raise .linkLost).clk = s.clk := by simp [State.setLinkState]
  have hparams : ((s.setLinkState .lost).raise .linkLost).mgmt.params = s.mgmt.params := by simp [State.setLinkState]
  rw [State.events_raise, hraised] at hevents
  rw [hraised, hclk, hparams] at hlink
  exact ⟨hlink, hevents⟩

theorem State.losing_kept (s : State) :
    s.losing.clk = s.clk ∧ s.losing.mode = s.mode ∧ s.losing.banks = s.banks ∧ s.losing.accounts = s.accounts ∧
      s.losing.holds = s.holds ∧ s.losing.queues = s.queues ∧ s.losing.fwd = s.fwd ∧ s.losing.time = s.time ∧
      s.losing.recon = s.recon ∧ s.losing.farm = s.farm ∧ s.losing.reserved = s.reserved ∧ s.losing.mgmt.params = s.mgmt.params := by
  simp [State.losing, State.setLinkState]

/-- The digest as an ECHO of the entry into LOST shows it (R148; log 17). -/
theorem State.digest_losing (s : State) :
    s.losing.digest =
      { s.digest with
        farEndDefect := true, autonomyRunning := true, autonomyPassed := s.losing.link.autonomyPassed, link := .lost,
        autonomySeconds := (s.clk - s.link.autonomyStart.getD s.clk) / 156250 / 1000, pending := s.losing.mgmt.events } := by
  obtain ⟨hclk, hmode, -, haccounts, hholds, hqueues, hfwd, htime, -, -, -, hparams⟩ := s.losing_kept
  obtain ⟨hlink, -⟩ := s.losing_loses
  have hstate : s.losing.link.state = .lost := by rw [hlink]
  have hstart : s.losing.link.autonomyStart = some (s.link.autonomyStart.getD s.clk) := by rw [hlink]
  simp [State.digest, State.farEndDefect, State.autonomySeconds, State.autonomyMs, State.poolsIn, State.occupied, hclk, hmode, haccounts,
    hholds, hqueues, hfwd, htime, hparams, hstate, hstart, Config.msCycles]

/-! ### The effects behind the ECHO (R31, R120, R134) -/

theorem State.flushForwards_answers (s : State) (h : s.farm.replies.length ≤ 1024) :
    s.flushForwards.farm.replies =
      (s.farm.replies ++
        s.fwd.entries.map
          (fun e =>
            FarmEntry.reply { dst := e.addrs.src, src := e.addrs.dst, etype := s.mgmt.params.seatType } e.key .unreachable)).take
        1024 := by
  have hfold : ∀ (es : List Forward) (u : State), u.farm.replies.length ≤ 1024 →
      (es.foldl (fun t e => t.toFarm e.addrs e.key .unreachable) u).farm.replies =
        (u.farm.replies ++
          es.map
            (fun e =>
              FarmEntry.reply { dst := e.addrs.src, src := e.addrs.dst, etype := u.mgmt.params.seatType } e.key .unreachable)).take
          1024 := fun es => by
    induction es with
    | nil => intro u hu; simp [List.take_of_length_le hu]
    | cons e es ih =>
      intro u hu
      obtain ⟨hreplies, -⟩ := u.toFarm_offered e.addrs e.key .unreachable
      have hparams : (u.toFarm e.addrs e.key .unreachable).mgmt.params = u.mgmt.params := by simp
      rw [List.foldl_cons]
      by_cases hroom : u.farm.replies.length < Config.farmReplies
      · rw [if_pos hroom] at hreplies
        rw [ih _ (by rw [hreplies, List.length_append]; exact Nat.succ_le_of_lt hroom), hreplies, hparams]
        simp
      · rw [if_neg hroom] at hreplies
        rw [ih _ (by rw [hreplies]; exact hu), hreplies]
        have hfull : u.farm.replies.length = 1024 := Nat.le_antisymm hu (Nat.not_lt.1 hroom)
        simp [hfull]
  exact hfold s.fwd.entries (s.setFwd { s.fwd with entries := [] }) h

theorem State.fwd_flushForwards (s : State) : s.flushForwards.fwd = { s.fwd with entries := [] } := by
  have hfold : ∀ (es : List Forward) (u : State), (es.foldl (fun t e => t.toFarm e.addrs e.key .unreachable) u).fwd = u.fwd := fun es => by
    induction es with
    | nil => intro u; rfl
    | cons e es ih => intro u; exact (ih _).trans (by simp)
  exact hfold s.fwd.entries (s.setFwd { s.fwd with entries := [] })

theorem State.queues_respond {p : Nat} (h1 : s.ceiling p ≤ before.ceiling p) (h2 : s.effectiveCeiling p ≤ before.effectiveCeiling p)
    (h3 : (s.acct p).overcommit = true → s.effectiveCeiling p < (s.acct p).h) : (State.respond before p s).queues = s.queues := by
  have hacct := s.acct_reevaluate p p
  rw [if_pos rfl] at hacct
  have hc : (s.reevaluate p).ceiling p = s.ceiling p := State.ceiling_congr (by simp) p (by rw [hacct])
  have he : (s.reevaluate p).effectiveCeiling p = s.effectiveCeiling p :=
    State.effectiveCeiling_congr (by simp) (by simp) p (by rw [hacct]) (by rw [hacct])
  have hflat : ¬(before.ceiling p < (s.reevaluate p).ceiling p ∨ before.effectiveCeiling p < (s.reevaluate p).effectiveCeiling p) := by
    rw [hc, he]
    omega
  have hact : State.respond before p s = s.reevaluate p := if_neg hflat
  rw [hact, State.reevaluate]
  by_cases hlt : s.effectiveCeiling p < (s.acct p).h
  · rw [if_pos hlt]
    split <;> simp
  · rw [if_neg hlt, if_neg fun ho => hlt (h3 ho)]

/-- Responses in which no ceiling rises and no overcommit flag clears ask for no pass. -/
theorem State.queues_respondAll (ps : List Nat) (s : State)
    (h : ∀ q ∈ ps, s.ceiling q ≤ before.ceiling q ∧ s.effectiveCeiling q ≤ before.effectiveCeiling q ∧
      ((s.acct q).overcommit = true → s.effectiveCeiling q < (s.acct q).h)) :
    (State.respondAll before ps s).queues = s.queues := by
  induction ps generalizing s with
  | nil => rfl
  | cons p ps ih =>
    have hacct := State.acct_respond before s p
    have hceiling : ∀ q, (State.respond before p s).ceiling q = s.ceiling q := fun q => by
      refine State.ceiling_congr (by simp) q ?_
      rw [hacct]; split <;> simp_all
    have heff : ∀ q, (State.respond before p s).effectiveCeiling q = s.effectiveCeiling q := fun q => by
      refine State.effectiveCeiling_congr (by simp) (by simp) q ?_ ?_ <;> rw [hacct] <;> split <;> simp_all
    have hfirst : (State.respond before p s).queues = s.queues := by
      obtain ⟨h1, h2, h3⟩ := h p List.mem_cons_self
      exact State.queues_respond h1 h2 h3
    refine (ih (State.respond before p s) fun q hq => ?_).trans hfirst
    obtain ⟨h1, h2, h3⟩ := h q (List.mem_cons_of_mem _ hq)
    rw [hceiling, heff, hacct]
    refine ⟨h1, h2, ?_⟩
    split
    · next hp =>
      subst hp
      exact fun hd => of_decide_eq_true hd
    · exact h3

theorem State.eventPending_flushForwards (s : State) (e : Event) : s.flushForwards.eventPending e = s.eventPending e :=
  congrArg (fun m : Management => m.events.getLsbD e.bit) (State.mgmt_flush s.fwd.entries (s.setFwd { s.fwd with entries := [] }))

theorem State.eventPending_holdover_mono {e : Event} (h : s.eventPending e = true) : s.holdover.eventPending e = true := by
  rw [State.holdover]
  split
  · rw [State.eventPending_raise, Bool.or_eq_true]
    exact .inr h
  · exact h

theorem State.time_holdover (s : State) :
    s.holdover.time = { s.time with source := if s.time.source = .tracking then .holdover else s.time.source } := by
  rw [State.holdover]
  split
  · simp
  · rfl

theorem State.eventPending_holdover (h : s.time.source = .tracking) : s.holdover.eventPending .holdover = true := by
  rw [State.holdover, if_pos h]
  simp

/-- The effects of the entry into LOST behind the ECHO (R31, R120, R134). -/
theorem State.afterLoss_effects (hlisted : AccountsListed before) (hexact : OvercommitExact before)
    (haccounts : s.accounts = before.accounts) (hbanks : s.banks = before.banks) (hlost : s.link.state = .lost)
    (hwas : before.link.state ≠ .lost) (ht : t = State.afterLoss before s) :
    t.link = s.link ∧ t.fwd = { s.fwd with entries := [] } ∧ t.farm = s.flushForwards.farm ∧
      (∀ p, t.acct p =
        { s.acct p with
          overcommit := if (s.acct p).state = .shared then decide ((s.acct p).d < (s.acct p).h) else (s.acct p).overcommit }) ∧
      (∀ p, (s.acct p).overcommit = false → (t.acct p).overcommit = true → t.eventPending .poolOvercommit = true) ∧
      t.time = { s.time with source := if s.time.source = .tracking then .holdover else s.time.source } ∧
      (s.time.source = .tracking → t.eventPending .holdover = true) ∧ (∀ e, s.eventPending e = true → t.eventPending e = true) ∧
      t.holds = s.holds ∧ t.queues = s.queues ∧ t.banks = s.banks ∧ t.mode = s.mode ∧ t.recon = s.recon := by
  obtain ⟨r, hr⟩ : ∃ r, r = State.respondAll before before.sharedPools s.flushForwards := ⟨_, rfl⟩
  have ht : t = r.holdover := by rw [ht, hr]; rfl
  have hflink : s.flushForwards.link = s.link := by simp
  have hfbanks : s.flushForwards.banks = s.banks := by simp
  have hfacct : ∀ p, s.flushForwards.acct p = s.acct p := fun p => State.acct_congr (by simp) p
  have hbacct : ∀ p, s.acct p = before.acct p := fun p => State.acct_congr haccounts p
  have hshared : ∀ p, p ∈ before.sharedPools ↔ (s.acct p).state = .shared := fun p => by rw [State.mem_sharedPools hlisted, hbacct]
  have hceiling : ∀ p, s.flushForwards.ceiling p = before.ceiling p := fun p =>
    State.ceiling_congr (hfbanks.trans hbanks) p (by rw [hfacct, hbacct])
  have hfall : ∀ p, (s.acct p).state = .shared →
      s.flushForwards.effectiveCeiling p = (s.acct p).d ∧ before.effectiveCeiling p = before.ceiling p := fun p hs => by
    rw [State.effectiveCeiling_of_shared (by rw [hfacct]; exact hs), hflink, if_pos hlost, hfacct,
      State.effectiveCeiling_of_shared (by rw [← hbacct]; exact hs), if_neg hwas]
    exact ⟨rfl, rfl⟩
  have hle : ∀ p, (s.acct p).d ≤ before.ceiling p := fun p => by
    rw [State.ceiling, ← hbacct]
    exact Nat.le_add_right _ _
  have hracct : ∀ p, r.acct p =
      { s.acct p with
        overcommit := if (s.acct p).state = .shared then decide ((s.acct p).d < (s.acct p).h) else (s.acct p).overcommit } := fun p => by
    rw [hr, State.acct_respondAll, hfacct]
    by_cases hs : (s.acct p).state = .shared
    · rw [if_pos ((hshared p).2 hs), if_pos hs, (hfall p hs).1]
    · rw [if_neg fun h => hs ((hshared p).1 h), if_neg hs]
  have hrqueues : r.queues = s.flushForwards.queues := by
    rw [hr]
    refine State.queues_respondAll _ _ fun p hp => ?_
    have hs := (hshared p).1 hp
    obtain ⟨hnow, hthen⟩ := hfall p hs
    refine ⟨Nat.le_of_eq (hceiling p), by rw [hnow, hthen]; exact hle p, fun ho => ?_⟩
    rw [hfacct] at ho ⊢
    rw [hbacct, hexact p, hthen, decide_eq_true_eq, ← hbacct] at ho
    rw [hnow]
    exact Nat.lt_of_le_of_lt (hle p) ho
  have hmono : ∀ e, s.eventPending e = true → r.eventPending e = true := fun e he => by
    rw [hr]
    exact State.eventPending_respondAll_mono _ _ (by rw [State.eventPending_flushForwards]; exact he)
  have hrtime : r.time = s.time := by rw [hr]; simp
  have hacct : ∀ p, t.acct p = r.acct p := fun p => State.acct_congr (by rw [ht]; simp) p
  refine ⟨by rw [ht, hr]; simp, ?_, by rw [ht, hr]; simp, fun p => (hacct p).trans (hracct p), fun p hf hset => ?_, ?_, fun hs => ?_,
    fun e he => ?_, by rw [ht, hr]; simp, ?_, by rw [ht, hr]; simp, by rw [ht, hr]; simp, by rw [ht, hr]; simp⟩
  · rw [ht, ← s.fwd_flushForwards, hr]
    simp
  · rw [hacct, hracct] at hset
    by_cases hs : (s.acct p).state = .shared
    · rw [if_pos hs] at hset
      have hraised := (State.respondAll_responds before before.sharedPools s.flushForwards ((hshared p).2 hs)).2 (by rw [hfacct]; exact hf)
        (by rw [(hfall p hs).1, hfacct]; exact of_decide_eq_true hset)
      rw [ht, hr]
      exact State.eventPending_holdover_mono hraised
    · rw [if_neg hs, hf] at hset
      cases hset
  · rw [ht, State.time_holdover, hrtime]
  · rw [ht]
    exact State.eventPending_holdover (by rw [hrtime]; exact hs)
  · rw [ht]
    exact State.eventPending_holdover_mono (hmono e he)
  · have htqueues : t.queues = r.queues := by rw [ht]; simp
    rw [htqueues, hrqueues]
    simp

/-! ### The whole entry -/

/-- The entry into LOST up to its ECHO, which a window expiry sends and a bad PROBE does not (R145, R149). -/
def State.told (s : State) (byExpiry : Bool) : State := if byExpiry = true then s.losing.sendUnsolicited else s.losing

theorem State.told_kept (s : State) (byExpiry : Bool) :
    (s.told byExpiry).accounts = s.accounts ∧ (s.told byExpiry).banks = s.banks ∧ (s.told byExpiry).queues = s.queues ∧
      (s.told byExpiry).farm = s.farm ∧ (s.told byExpiry).fwd = s.fwd ∧ (s.told byExpiry).time = s.time ∧
      (s.told byExpiry).holds = s.holds ∧ (s.told byExpiry).mode = s.mode ∧ (s.told byExpiry).recon = s.recon ∧
      (s.told byExpiry).mgmt = s.losing.mgmt ∧
      (s.told byExpiry).link = { s.losing.link with echoError := (s.told byExpiry).link.echoError } := by
  obtain ⟨-, hmode, hbanks, haccounts, hholds, hqueues, hfwd, htime, hrecon, hfarm, -, -⟩ := s.losing_kept
  cases byExpiry with
  | false => exact ⟨haccounts, hbanks, hqueues, hfarm, hfwd, htime, hholds, hmode, hrecon, rfl, rfl⟩
  | true =>
    have htold : s.told true = s.losing.sendUnsolicited := rfl
    rw [htold]
    refine ⟨?_, ?_, ?_, ?_, ?_, ?_, ?_, ?_, ?_, by simp, ?_⟩
    case refine_10 =>
      rw [State.sendUnsolicited, State.sendEcho]
      split <;> rfl
    all_goals simpa

/-- What a failure in the second miss, or in ARMING from LOST, comes to. -/
theorem State.missProbe_enters (s : State) (byExpiry : Bool)
    (h : s.link.state = .suspect 2 ∨ ∃ n, s.link.state = .arming .lost n) :
    s.missProbe byExpiry = State.afterLoss s (s.told byExpiry) := by
  rcases h with h | ⟨n, h⟩
  · simp only [State.missProbe, h]
    rfl
  · simp only [State.missProbe, h]
    rfl

/-- The state a loss leaves, but for the Service Port (R31, R120, R134, R145, R151). -/
theorem State.loss_leaves (hlisted : AccountsListed s) (hexact : OvercommitExact s) (hreplies : s.farm.replies.length ≤ 1024)
    (hwas : s.link.state ≠ .lost) (byExpiry : Bool) (ht : t = (State.afterLoss s (s.told byExpiry)).restartWindow) :
    t.link.state = .lost ∧ t.eventPending .linkLost = true ∧
      t.link.autonomyStart = some (s.link.autonomyStart.getD s.clk) ∧
      t.link.autonomyPassed =
        (s.link.autonomyPassed || decide (s.link.autonomyStart = none ∧ s.mgmt.params.autonomyLimit = 0)) ∧
      (s.link.autonomyPassed = false → t.link.autonomyPassed = true → t.eventPending .autonomyExpired = true) ∧
      t.fwd = { s.fwd with entries := [] } ∧
      t.farm.replies =
        (s.farm.replies ++
          s.fwd.entries.map
            (fun e =>
              FarmEntry.reply { dst := e.addrs.src, src := e.addrs.dst, etype := s.mgmt.params.seatType } e.key .unreachable)).take
          1024 ∧
      (∀ p, t.acct p =
        { s.acct p with
          overcommit :=
            if (s.acct p).state = .shared then decide ((s.acct p).d < (s.acct p).h) else (s.acct p).overcommit }) ∧
      (∀ p, (s.acct p).overcommit = false → (t.acct p).overcommit = true → t.eventPending .poolOvercommit = true) ∧
      t.time = { s.time with source := if s.time.source = .tracking then .holdover else s.time.source } ∧
      (s.time.source = .tracking → t.eventPending .holdover = true) ∧ t.holds = s.holds ∧ t.queues = s.queues ∧ t.banks = s.banks ∧
      t.mode = s.mode ∧ t.recon = s.recon ∧ t.mgmt.params = s.mgmt.params ∧ t.farm.intake = s.farm.intake := by
  obtain ⟨haccounts, hbanks, hqueues, hfarm, hfwd, htime, hholds, hmode, hrecon, hmgmt, hlink⟩ := s.told_kept byExpiry
  obtain ⟨hllink, hlevents⟩ := s.losing_loses
  have hlost : (s.told byExpiry).link.state = .lost := by rw [hlink, hllink]
  have hparams : (s.told byExpiry).mgmt.params = s.mgmt.params := by
    rw [hmgmt]
    exact s.losing_kept.2.2.2.2.2.2.2.2.2.2.2
  have hacct : ∀ p, (s.told byExpiry).acct p = s.acct p := fun p => State.acct_congr haccounts p
  have hflush := (s.told byExpiry).flushForwards_answers (by rw [hfarm]; exact hreplies)
  obtain ⟨halink, hafwd, hafarm, haacct, haover, hatime, haholdover, hamono, haholds, haqueues, habanks, hamode, harecon⟩ :=
    State.afterLoss_effects hlisted hexact haccounts hbanks hlost hwas rfl
  have hintake : (s.told byExpiry).flushForwards.farm.intake = (s.told byExpiry).farm.intake := by simp
  have haparams : (State.afterLoss s (s.told byExpiry)).mgmt.params = (s.told byExpiry).mgmt.params := by simp [State.afterLoss]
  have hevents : ∀ e, (s.told byExpiry).eventPending e = s.losing.eventPending e := fun e => by rw [State.eventPending, hmgmt]; rfl
  generalize State.afterLoss s (s.told byExpiry) = a at *
  have htpending : ∀ e, t.eventPending e = a.eventPending e := fun e => by rw [ht]; rfl
  have htacct : ∀ p, t.acct p = a.acct p := fun p => by rw [ht]; rfl
  have htlink : t.link.state = a.link.state ∧ t.link.autonomyStart = a.link.autonomyStart ∧
      t.link.autonomyPassed = a.link.autonomyPassed := by rw [ht]; exact ⟨rfl, rfl, rfl⟩
  obtain ⟨htstate, htstart, htpassed⟩ := htlink
  rw [halink, hlink] at htstart htpassed
  have hlinkLost : s.losing.eventPending .linkLost = true := by
    rw [State.eventPending, hlevents]
    simp [Event.mask, Event.bit]
  have hexpired : s.link.autonomyPassed = false → s.losing.link.autonomyPassed = true → s.losing.eventPending .autonomyExpired = true :=
    fun h1 h2 => by
      rw [State.eventPending, hlevents, if_pos ⟨h1, h2⟩]
      simp [Event.mask, Event.bit]
  refine ⟨htstate.trans (by rw [halink, hlost]), ?_, htstart.trans (by rw [hllink]), htpassed.trans (by rw [hllink]),
    fun h1 h2 => ?_, ?_, ?_, fun p => ?_, fun p hf hset => ?_, ?_, fun hs => ?_, ?_, ?_, ?_, ?_, ?_, ?_, ?_⟩
  · rw [htpending]
    exact hamono _ (by rw [hevents]; exact hlinkLost)
  · rw [htpending]
    exact hamono _ (by rw [hevents]; exact hexpired h1 (htpassed ▸ h2))
  · rw [ht, ← hfwd]
    exact hafwd
  · rw [hfarm, hfwd, hparams] at hflush
    rw [ht, ← hflush]
    exact congrArg FarmPort.replies hafarm
  · rw [htacct, haacct, hacct]
  · rw [htpending]
    exact haover p (by rw [hacct]; exact hf) (by rw [← htacct]; exact hset)
  · rw [ht, ← htime]
    exact hatime
  · rw [htpending]
    exact haholdover (by rw [htime]; exact hs)
  · rw [ht]
    exact haholds.trans hholds
  · rw [ht]
    exact haqueues.trans hqueues
  · rw [ht]
    exact habanks.trans hbanks
  · rw [ht]
    exact hamode.trans hmode
  · rw [ht]
    exact harecon.trans hrecon
  · rw [ht]
    exact haparams.trans hparams
  · rw [ht]
    exact (congrArg FarmPort.intake hafarm).trans (hintake.trans (by rw [hfarm]))

/-- What a loss leaves of the Service Port: notices, the ECHO of an expiry where it finds room, and notices again (R148, R149). -/
theorem State.loss_sends (s : State) (byExpiry : Bool) (ht : t = (State.afterLoss s (s.told byExpiry)).restartWindow) :
    ∃ before after, (∀ e ∈ before, UpEntry.isNotice e = true) ∧ (∀ e ∈ after, UpEntry.isNotice e = true) ∧
      t.link.autonomyPassed = s.losing.link.autonomyPassed ∧
      (byExpiry = false → t.svc.upstream = s.svc.upstream ++ before ++ after ∧ t.link.echoError = s.link.echoError) ∧
      (byExpiry = true → s.svc.upstream.length + before.length + s.reserved < 1024 →
        t.svc.upstream =
            s.svc.upstream ++ before ++
              [UpEntry.echo s.ownEth { node := 0, process := 0, tag := 0 }
                { sequence := s.link.lastSequence, mark := 0, solicited := false, digest := s.losing.digest } s.link.echoError] ++
              after ∧
          t.link.echoError = false) ∧
      (byExpiry = true → 1024 ≤ s.svc.upstream.length + before.length + s.reserved →
        t.svc.upstream = s.svc.upstream ++ before ++ after ∧ t.link.echoError = s.link.echoError ∧
          (s.svc.stats.droppedReplies < 4294967295 → s.svc.stats.droppedReplies < t.svc.stats.droppedReplies)) := by
  obtain ⟨-, -, -, -, -, -, -, -, -, -, hreserved, hparams⟩ := s.losing_kept
  obtain ⟨hllink, -⟩ := s.losing_loses
  obtain ⟨before, dropped, hbefore, hdropped, hlsvc, -⟩ := s.losing_noticing
  obtain ⟨after, dropped2, hafter, hdropped2, hasvc, -⟩ := State.afterLoss_noticing s (s.told byExpiry)
  have halink : (State.afterLoss s (s.told byExpiry)).link = (s.told byExpiry).link := by simp [State.afterLoss]
  obtain ⟨-, -, -, -, -, -, -, -, -, -, htlink⟩ := s.told_kept byExpiry
  have heth : s.losing.ownEth = s.ownEth := by rw [State.ownEth, hlsvc, hparams]; rfl
  have hecho : s.losing.link.echoError = s.link.echoError := by rw [hllink]
  have hsequence : s.losing.link.lastSequence = s.link.lastSequence := by rw [hllink]
  have htsvc : t.svc = (State.afterLoss s (s.told byExpiry)).svc := by rw [ht]; rfl
  have htl : t.link.echoError = (s.told byExpiry).link.echoError ∧ t.link.autonomyPassed = (s.told byExpiry).link.autonomyPassed := by
    rw [ht, ← halink]
    exact ⟨rfl, rfl⟩
  obtain ⟨hterror, htpassed⟩ := htl
  rw [hasvc] at htsvc
  refine ⟨before, after, hbefore, hafter, htpassed.trans (by rw [htlink]), fun hb => ?_, fun hb hroom => ?_, fun hb hfull => ?_⟩
  · subst hb
    rw [htsvc, hterror]
    exact ⟨by rw [show (s.told false).svc = s.losing.svc from rfl, hlsvc], hecho⟩
  · subst hb
    have hsent : s.told true = (s.losing.pushUp (UpEntry.echo s.ownEth { node := 0, process := 0, tag := 0 }
        { sequence := s.link.lastSequence, mark := 0, solicited := false, digest := s.losing.digest } s.link.echoError)).setLink
        { s.losing.link with echoError := false } := by
      rw [← heth, ← hecho, ← hsequence]
      exact State.sendEcho_of_room (by rw [hlsvc, hreserved, List.length_append]; exact hroom)
    rw [htsvc, hterror, hsent]
    refine ⟨?_, rfl⟩
    simp [State.pushUp, hlsvc]
  · subst hb
    have hsent : s.told true = s.losing.dropUp :=
      State.sendEcho_of_full (by rw [hlsvc, hreserved, List.length_append]; exact hfull)
    rw [hsent] at hdropped2
    rw [htsvc, hterror, hsent]
    refine ⟨by simp [State.dropUp, hlsvc], hecho, fun hlt => ?_⟩
    refine Nat.lt_of_lt_of_le (lt_bump_of_le hdropped hlt) (Nat.le_trans (Nat.le_of_eq ?_) hdropped2)
    simp [State.dropUp, hlsvc]

theorem State.missing_kept (s : State) (c : Instr) :
    (s.missing c).clk = s.clk ∧ (s.missing c).mgmt = s.mgmt ∧ (s.missing c).fwd = s.fwd ∧ (s.missing c).farm = s.farm ∧
      (s.missing c).time = s.time ∧ (s.missing c).holds = s.holds ∧ (s.missing c).queues = s.queues ∧
      (s.missing c).banks = s.banks ∧ (s.missing c).mode = s.mode ∧ (s.missing c).recon = s.recon ∧
      (s.missing c).accounts = s.accounts ∧ (s.missing c).reserved = s.reserved ∧ (∀ p, (s.missing c).acct p = s.acct p) ∧
      (s.missing c).link.state = s.link.state ∧ (s.missing c).link.autonomyStart = s.link.autonomyStart ∧
      (s.missing c).link.autonomyPassed = s.link.autonomyPassed ∧ (s.missing c).link.echoError = s.link.echoError ∧
      (s.missing c).link.lastSequence = s.link.lastSequence ∧ (s.missing c).svc.upstream = s.svc.upstream ∧
      (s.missing c).svc.stats.droppedReplies = s.svc.stats.droppedReplies ∧ (s.missing c).ownEth = s.ownEth ∧
      (s.missing c).digest = { s.digest with farEndDefect := (s.missing c).farEndDefect } := by
  rw [State.missing]
  split <;>
    exact ⟨rfl, rfl, rfl, rfl, rfl, rfl, rfl, rfl, rfl, rfl, rfl, rfl, fun _ => rfl, rfl, rfl, rfl, rfl, rfl, rfl, rfl, rfl, rfl⟩

/-- Settles O40: the loss, its ECHO, and the effects behind it. -/
theorem entryIntoLostIsTaken : Obligations.EntryIntoLostIsTaken := by
  unfold Obligations.EntryIntoLostIsTaken
  intro c s hfailure hlisted hexact hreplies hstate
  obtain ⟨hc, hexec⟩ := hfailure.exec
  obtain ⟨hclk, hmgmt, hfwd, hfarm, htime, hholds, hqueues, hbanks, hmode, hrecon, haccounts, hreserved, hacct, hmstate, hstart, hpassed,
    hecho, hsequence, hup, hdropped, heth, hdigest⟩ := s.missing_kept c
  rw [State.missProbe_enters _ _ (by rw [hmstate]; exact hstate)] at hexec
  have hwas : (s.missing c).link.state ≠ .lost := by
    rw [hmstate]
    rcases hstate with h | ⟨n, h⟩ <;> rw [h] <;> simp
  have hmexact : OvercommitExact (s.missing c) := fun p => by
    rw [hacct, State.effectiveCeiling_congr hbanks (by rw [hmstate]) p (by rw [hacct]) (by rw [hacct])]
    exact hexact p
  have hleaves := State.loss_leaves (s := s.missing c) (by rw [AccountsListed, haccounts]; exact hlisted) hmexact
    (by rw [hfarm]; exact hreplies) hwas (decide (c = .windowExpiry)) rfl
  obtain ⟨before, after, hbefore, hafter, htpassed, hquiet, hroom, hfull⟩ :=
    State.loss_sends (s.missing c) (decide (c = .windowExpiry)) rfl
  have hldigest := (s.missing c).digest_losing
  obtain ⟨-, hlevents⟩ := (s.missing c).losing_loses
  rw [hdigest] at hldigest
  simp only [hclk, hmgmt, hfwd, hfarm, htime, hholds, hqueues, hbanks, hmode, hrecon, hreserved, hacct, hstart, hpassed, hecho, hsequence, hup,
    hdropped, heth] at hleaves hquiet hroom hfull hldigest hlevents
  rw [← htpassed, hlevents, ← htpassed] at hldigest
  generalize (State.afterLoss (s.missing c) ((s.missing c).told (decide (c = .windowExpiry)))).restartWindow = t at *
  refine ⟨t, hexec, ?_⟩
  obtain ⟨h1, h2, h3, h4, h5, h6, h7, h8, h9, h10, h11, h12, h13, h14, h15, h16, h17, h18⟩ := hleaves
  refine ⟨h1, h2, h3, h4, h5, h6, h7, h8, h9, h10, h11, h12, h13, h14, h15, h16, h17, h18, before, after, (s.missing c).losing.digest,
    hbefore, hafter, hldigest, fun h => hquiet (by subst h; rfl), fun h => hroom (by subst h; rfl), fun h => hfull (by subst h; rfl)⟩

end Sys2Proof.Machine
end

section
/-! PROOFS. What a queue service pass does with one entry: how it is priced, what it lacks, and what its grant leaves (R85 to R87, R89). -/

namespace Sys2Proof.Machine

open Host

variable {s t : State} {e : WaitEntry} {p slot : Nat} {h : Hold}

/-! ### The overcommit flags through a grant (R31) -/

theorem OvercommitExact.of_fits (hx : OvercommitExact s) {tokens : Nat} (hf : s.fits p tokens = true) :
    (s.acct p).overcommit = false := by
  have hfit : tokens + (s.acct p).h ≤ s.effectiveCeiling p := of_decide_eq_true hf
  rw [hx p, decide_eq_false (by omega)]

/-- The flags look at D, the delegation state and H alone. -/
theorem OvercommitExact.congr (hx : OvercommitExact s) (hb : t.banks = s.banks) (hl : t.link = s.link)
    (ha : ∀ p, (t.acct p).d = (s.acct p).d ∧ (t.acct p).state = (s.acct p).state ∧ (t.acct p).h = (s.acct p).h ∧
      (t.acct p).overcommit = (s.acct p).overcommit) : OvercommitExact t := by
  intro p
  obtain ⟨hd, hs, hh, ho⟩ := ha p
  rw [ho, hh, State.effectiveCeiling_congr hb (by rw [hl]) p hd hs, hx p]

/-- A charge that fits leaves its pool within its ceiling. -/
theorem OvercommitExact.charged {tokens n : Nat} {change : ChangeKind} {hold : Hold} {handle : Handle} (hx : OvercommitExact s)
    (hf : s.fits p tokens = true) (hb : t.banks = s.banks) (hl : t.link = s.link)
    (hc : ChargedBy s t (s.acct p) p tokens n change hold handle) : OvercommitExact t := by
  obtain ⟨ha, hothers, -⟩ := hc
  have hfit : tokens + (s.acct p).h ≤ s.effectiveCeiling p := of_decide_eq_true hf
  intro q
  by_cases hq : q = p
  · subst hq
    rw [State.effectiveCeiling_moved hb (by rw [hl]) q (by rw [ha]) (by rw [ha]), ha, hx.of_fits hf, decide_eq_false (by dsimp only; omega)]
  · rw [State.effectiveCeiling_congr hb (by rw [hl]) q (by rw [hothers q hq]) (by rw [hothers q hq]), hothers q hq, hx q]

/-! ### The price (R85, R87) -/

theorem State.targetOf_eq_some_iff :
    s.targetOf e = some (slot, h) ↔ ∃ handle, e.target = some handle ∧ s.namedHold handle = some h ∧ handle.slot = slot := by
  simp only [State.targetOf, Option.bind_eq_some_iff, Option.map_eq_some_iff, Prod.mk.injEq]
  constructor
  · rintro ⟨handle, ht, x, hn, hs, rfl⟩
    exact ⟨handle, ht, hn, hs⟩
  · rintro ⟨handle, ht, hn, hs⟩
    exact ⟨handle, ht, h, hn, hs, rfl⟩

theorem State.price_of_fresh (ht : s.targetOf e = none) : s.price e = .fresh (s.grantDemand e) := by
  rw [State.price, State.grantDemand, ht]
  cases he : e.target with
  | none => rfl
  | some handle =>
    have hn : s.namedHold handle = none := by simpa [State.targetOf, he] using ht
    simp only [hn]
    rfl

theorem State.price_of_target (ht : s.targetOf e = some (slot, h)) :
    s.price e =
      if h.useCount = 255 then .useLimit
      else if h.tokens < s.fullDemand e then .upgrade slot h (s.fullDemand e) else .join slot h := by
  obtain ⟨handle, he, hn, rfl⟩ := State.targetOf_eq_some_iff.1 ht
  simp only [State.price, he, hn]
  rfl

theorem State.grantDemand_of_target (ht : s.targetOf e = some (slot, h)) : s.grantDemand e = s.fullDemand e - h.tokens := by
  obtain ⟨handle, he, -⟩ := State.targetOf_eq_some_iff.1 ht
  rw [State.grantDemand, he, ht]

theorem State.chargedPool_of_fresh (ht : s.targetOf e = none) : s.chargedPool e = e.pool := by rw [State.chargedPool, ht]

theorem State.chargedPool_of_target (ht : s.targetOf e = some (slot, h)) : s.chargedPool e = h.pool := by rw [State.chargedPool, ht]

theorem State.fits_eq_false_iff {tokens : Nat} : s.fits p tokens = false ↔ s.effectiveCeiling p < tokens + (s.acct p).h := by
  rw [State.fits, decide_eq_false_iff_not, Nat.not_le]

/-! ### The test of an entry that needs a new hold (R86) -/

theorem State.testEntry_of_passed (hp : e.stepPassed = true) : s.testEntry e = .unfit := by rw [State.testEntry, if_pos hp]

theorem State.testEntry_of_fresh (hp : e.stepPassed = false) (ht : s.targetOf e = none) :
    s.testEntry e =
      if s.fits e.pool (s.grantDemand e) = false then .unfit
      else
        match s.newHoldLack e.pool with
        | some .slot => .stalled (s.raise .holdTableFull)
        | some .report => .stalled s
        | none => .gone (s.grantEntry e (s.grantDemand e)) := by
  rw [State.testEntry, if_neg (by simp [hp]), State.price_of_fresh ht] <;> rfl

theorem State.unfit_iff_of_fresh (hp : e.stepPassed = false) (ht : s.targetOf e = none) :
    s.Unfit e ↔ s.fits e.pool (s.grantDemand e) = false := by
  simp [State.Unfit, hp, ht, State.chargedPool_of_fresh ht, State.fits_eq_false_iff]

theorem State.newHoldLack_of_full (h : s.tableFull = true) : s.newHoldLack p = some .slot := if_pos h

theorem State.newHoldLack_of_no_room (h : s.tableFull = false) (hs : (s.acct p).state = .shared) (hr : s.seatRoom = false) :
    s.newHoldLack p = some .report := by
  rw [State.newHoldLack, if_neg (by simp [h]), if_pos ⟨hs, hr⟩]

theorem State.newHoldLack_of_room (h : s.tableFull = false) (hr : ¬((s.acct p).state = .shared ∧ s.seatRoom = false)) :
    s.newHoldLack p = none := by
  rw [State.newHoldLack, if_neg (by simp [h]), if_neg hr]

/-! ### The test of an entry with a join target (R87) -/

theorem State.testEntry_of_limit (hp : e.stepPassed = false) (ht : s.targetOf e = some (slot, h)) (hu : h.useCount = 255) :
    s.testEntry e = .gone (s.dismiss (.deny .useLimit) e) := by
  rw [State.testEntry, if_neg (by simp [hp]), State.price_of_target ht, if_pos hu]

theorem State.testEntry_of_join (hp : e.stepPassed = false) (ht : s.targetOf e = some (slot, h)) (hu : h.useCount ≠ 255)
    (hd : s.fullDemand e ≤ h.tokens) : s.testEntry e = .gone (s.joinEntry e slot h) := by
  rw [State.testEntry, if_neg (by simp [hp]), State.price_of_target ht, if_neg hu, if_neg (Nat.not_lt.2 hd)]

theorem State.testEntry_of_upgrade (hp : e.stepPassed = false) (ht : s.targetOf e = some (slot, h)) (hu : h.useCount ≠ 255)
    (hd : h.tokens < s.fullDemand e) :
    s.testEntry e =
      if s.fits h.pool (s.grantDemand e) = false then .unfit
      else
        match s.upgradeLack h.pool with
        | some _ => .stalled s
        | none => .gone (s.upgradeEntry e slot h (s.fullDemand e)) := by
  rw [State.testEntry, if_neg (by simp [hp]), State.price_of_target ht, if_neg hu, if_pos hd, State.grantDemand_of_target ht] <;> rfl

theorem State.unfit_iff_of_target (hp : e.stepPassed = false) (ht : s.targetOf e = some (slot, h)) :
    s.Unfit e ↔ (h.useCount ≠ 255 ∧ h.tokens < s.fullDemand e) ∧ s.fits h.pool (s.grantDemand e) = false := by
  simp [State.Unfit, hp, ht, State.chargedPool_of_target ht, State.fits_eq_false_iff]

theorem State.lacksReport_iff_of_target (ht : s.targetOf e = some (slot, h)) :
    s.LacksReport e ↔
      (h.useCount ≠ 255 ∧ h.tokens < s.fullDemand e) ∧ (s.acct h.pool).state = .shared ∧ s.seatRoom = false := by
  simp [State.LacksReport, ht, State.chargedPool_of_target ht]

theorem State.lacksReport_iff_of_fresh (ht : s.targetOf e = none) :
    s.LacksReport e ↔ (s.acct e.pool).state = .shared ∧ s.seatRoom = false := by
  simp [State.LacksReport, ht, State.chargedPool_of_fresh ht]

/-! ### What a pass finds (R85 to R87, R89) -/

/-- An entry that does not fit. -/
theorem State.testEntry_of_unfit (hu : s.Unfit e) : s.testEntry e = .unfit := by
  by_cases hp : e.stepPassed = true
  · exact State.testEntry_of_passed hp
  · rw [Bool.not_eq_true] at hp
    cases ht : s.targetOf e with
    | none => rw [State.testEntry_of_fresh hp ht, if_pos ((State.unfit_iff_of_fresh hp ht).1 hu)]
    | some x =>
      obtain ⟨slot, h⟩ := x
      obtain ⟨⟨hl, hd⟩, hf⟩ := (State.unfit_iff_of_target hp ht).1 hu
      rw [State.testEntry_of_upgrade hp ht hl hd, if_pos hf]

theorem State.not_passed_of_fit (hu : ¬s.Unfit e) : e.stepPassed = false := by
  refine Classical.byContradiction fun hp => ?_
  exact hu (.inl (Bool.not_eq_false _ ▸ hp))

/-- An entry that fits and lacks a slot. -/
theorem State.testEntry_of_lacksSlot (hu : ¬s.Unfit e) (hl : s.LacksSlot e) : s.testEntry e = .stalled (s.raise .holdTableFull) := by
  have hp := State.not_passed_of_fit hu
  obtain ⟨ht, hfull⟩ := hl
  rw [State.testEntry_of_fresh hp ht, if_neg (fun hf => hu ((State.unfit_iff_of_fresh hp ht).2 hf)), State.newHoldLack_of_full hfull]

/-- An entry that fits, and lacks report room but no slot. -/
theorem State.testEntry_of_lacksReport (hu : ¬s.Unfit e) (hs : ¬s.LacksSlot e) (hl : s.LacksReport e) :
    s.testEntry e = .stalled s := by
  have hp := State.not_passed_of_fit hu
  cases ht : s.targetOf e with
  | none =>
    obtain ⟨hshared, hroom⟩ := (State.lacksReport_iff_of_fresh ht).1 hl
    have hfree : s.tableFull = false := Bool.eq_false_iff.2 fun hfull => hs ⟨ht, hfull⟩
    rw [State.testEntry_of_fresh hp ht, if_neg (fun hf => hu ((State.unfit_iff_of_fresh hp ht).2 hf)),
      State.newHoldLack_of_no_room hfree hshared hroom]
  | some x =>
    obtain ⟨slot, h⟩ := x
    obtain ⟨hcount, hlack⟩ := (State.lacksReport_iff_of_target ht).1 hl
    rw [State.testEntry_of_upgrade hp ht hcount.1 hcount.2, if_neg (fun hf => hu ((State.unfit_iff_of_target hp ht).2 ⟨hcount, hf⟩)),
      State.upgradeLack, if_pos hlack]

/-! ### What a grant leaves -/

/-- A state in which an entry's grant has been charged lets the entry leave and answers it. -/
theorem State.entryAnswered_of_charged (s : State) {w : State} (e : WaitEntry) (b : FarmBody) (hq : w.queues = s.queues)
    (hfarm : w.farm = s.farm) (hfwd : w.fwd = s.fwd) (hframe : FarmRequestFrame s w) :
    EntryAnswered s ((w.unlink e).toFarm e.addrs e.key b) e b := by
  have hparams : s.mgmt.params.seatType = (w.unlink e).mgmt.params.seatType := by
    obtain ⟨-, -, -, -, -, hparams, -⟩ := hframe
    simp [hparams]
  refine ⟨((w.unlink e).toFarm_offered e.addrs e.key b).congr (by simp [hfarm]) hparams rfl, ?_, by simp [hfwd], by simp [hfarm], ?_⟩
  · simp [State.unlink, hq]
  · simpa [FarmRequestFrame] using hframe

theorem State.acct_answered_unlink (w : State) (e : WaitEntry) (b : FarmBody) (p : Nat) :
    ((w.unlink e).toFarm e.addrs e.key b).acct p =
      if p = e.pool then { w.acct p with queueLength := (w.acct p).queueLength - 1 } else w.acct p := by
  rw [State.acct_congr (State.toFarm_kept ..).2.2.2.2.2.1, State.acct_unlink]

/-- The flags do not look at the queue lengths. -/
theorem OvercommitExact.answered (hx : OvercommitExact s) (e : WaitEntry) (b : FarmBody) :
    OvercommitExact ((s.unlink e).toFarm e.addrs e.key b) :=
  hx.congr (by simp) (by simp) fun p => by
    rw [State.acct_answered_unlink]
    split <;> exact ⟨rfl, rfl, rfl, rfl⟩

theorem State.mgmt_answered_unlink (w : State) (e : WaitEntry) (b : FarmBody) :
    ((w.unlink e).toFarm e.addrs e.key b).mgmt = { w.mgmt with stats := w.mgmt.stats.countReply b } := by
  rw [State.toFarm_only]
  simp

/-- A new hold where it fits: its writing and its charge. -/
theorem State.newHold_charged (hx : OvercommitExact s) (hold : Hold) (hf : s.fits p hold.tokens = true) :
    ChargedBy s (s.newHold p hold) (s.acct p) p hold.tokens 1 .grant hold (s.handleAt s.lowestSlot) ∧
      (s.newHold p hold).queues = s.queues ∧ (s.newHold p hold).mgmt.stats = s.mgmt.stats ∧
      (s.newHold p hold).holds = { s.holds with slots := Table.put s.holds.slots s.lowestSlot hold } := by
  refine ⟨State.charge_charged (s := s.putHold s.lowestSlot hold) p hold.tokens 1 .grant hold (s.handleAt s.lowestSlot) (hx p)
    (of_decide_eq_true hf), ?_, ?_, ?_⟩
  · simp only [State.newHold, State.countPoolGrant, State.modAcct_kept]
    exact State.queues_charge (s := s.putHold s.lowestSlot hold) _ _ _ _ _ (hx.of_fits hf)
  · simp only [State.newHold, State.countPoolGrant, State.modAcct_kept, State.stats_charge]
    rfl
  · simp only [State.newHold, State.countPoolGrant, State.modAcct_kept, State.charge_kept]
    rfl

/-- An upgrade where it fits: the writing of the hold and the charge to its pool. -/
theorem State.upgradeHold_written (hx : OvercommitExact s) {tokens : Nat} (interval : Nat)
    (hf : s.fits h.pool (tokens - h.tokens) = true) :
    (s.upgradeHold slot h tokens interval).queues = s.queues ∧
      (s.upgradeHold slot h tokens interval).mgmt.stats = s.mgmt.stats ∧
      (s.upgradeHold slot h tokens interval).holds =
        { s.holds with slots := Table.put s.holds.slots slot (h.joined tokens interval (s.renewDeadline interval)) } := by
  refine ⟨?_, ?_, ?_⟩
  · simp only [State.upgradeHold, State.countPoolGrant, State.modAcct_kept]
    exact State.queues_charge (s := s.putHold slot _) _ _ _ _ _ (hx.of_fits hf)
  · simp only [State.upgradeHold, State.countPoolGrant, State.modAcct_kept, State.stats_charge]
    rfl
  · simp only [State.upgradeHold, State.countPoolGrant, State.modAcct_kept, State.charge_kept]
    rfl

/-- What a charge says of the account once the entry has left its queue. -/
theorem ChargedBy.unlinked {w : State} {tokens n : Nat} {change : ChangeKind} {hold : Hold} {handle : Handle}
    (hc : ChargedBy s w (s.acct e.pool) e.pool tokens n change hold handle) (b : FarmBody) :
    ChargedBy s ((w.unlink e).toFarm e.addrs e.key b) { s.acct e.pool with queueLength := (s.acct e.pool).queueLength - 1 } e.pool
      tokens n change hold handle := by
  obtain ⟨ha, hothers, hrest⟩ := hc
  refine ⟨?_, fun q hq => ?_, ?_⟩
  · rw [State.acct_answered_unlink, if_pos rfl, ha]
  · rw [State.acct_answered_unlink, if_neg hq, hothers q hq]
  · simpa [State.eventPending] using hrest

/-- An entry that fits and needs a new hold is granted it. -/
theorem State.grantEntry_served (hx : OvercommitExact s) (ht : s.targetOf e = none) (hf : s.fits e.pool (s.grantDemand e) = true) :
    EntryServed s (s.grantEntry e (s.grantDemand e)) e ∧ OvercommitExact (s.grantEntry e (s.grantDemand e)) := by
  obtain ⟨hcharged, hqueues, hstats, hholds⟩ := State.newHold_charged hx
    (s.freshHold e.pool e.key.node e.key.process e.key.tag (s.grantDemand e) (s.entryInterval e)) hf
  obtain ⟨hput, hothers, hgen⟩ := otherSlots_put (s := s) (t := s.grantEntry e (s.grantDemand e)) (by simpa [State.grantEntry] using hholds)
  refine ⟨⟨s.entryInterval e, s.renewDeadline (s.entryInterval e), rfl, rfl, fun _ => ⟨_, s.handleAt s.lowestSlot, rfl, rfl, ?_, hput,
    hothers, hgen, hcharged.unlinked _, ?_⟩, fun slot h h' => ?_⟩, ?_⟩
  · exact s.entryAnswered_of_charged e _ hqueues (by simp) (by simp) (by simp [FarmRequestFrame])
  · rw [State.grantEntry, State.mgmt_answered_unlink, hstats]
    rfl
  · rw [ht] at h'
    cases h'
  · exact (hx.charged hf (by simp) (by simp) hcharged).answered e _

/-- An entry whose join target has no use to spare is denied. -/
theorem State.dismiss_served (hx : OvercommitExact s) (ht : s.targetOf e = some (slot, h)) (hu : h.useCount = 255) :
    EntryServed s (s.dismiss (.deny .useLimit) e) e ∧ OvercommitExact (s.dismiss (.deny .useLimit) e) := by
  refine ⟨⟨_, _, rfl, rfl, fun h' => ?_, fun slot' h' h'' => ?_⟩, hx.answered e _⟩
  · rw [ht] at h'
    cases h'
  · cases ht.symm.trans h''
    refine ⟨fun _ => ⟨s.entryAnswered_of_charged e _ rfl rfl rfl (by simp [FarmRequestFrame]), by simp, by simp, ?_, fun q hq => ?_, ?_⟩,
      fun h => absurd hu h, fun h => absurd hu h⟩
    · rw [State.dismiss, State.acct_answered_unlink, if_pos rfl]
    · rw [State.dismiss, State.acct_answered_unlink, if_neg hq]
    · rw [State.dismiss, State.mgmt_answered_unlink]
      rfl

/-- An entry whose join target holds the tokens it needs joins it. -/
theorem State.joinEntry_served (hx : OvercommitExact s) (ht : s.targetOf e = some (slot, h)) (hu : h.useCount ≠ 255)
    (hd : s.fullDemand e ≤ h.tokens) : EntryServed s (s.joinEntry e slot h) e ∧ OvercommitExact (s.joinEntry e slot h) := by
  obtain ⟨hput, hothers, hgen⟩ := otherSlots_put (s := s) (t := s.joinEntry e slot h) (slot := slot)
    (hold := h.joined h.tokens (s.entryInterval e) (s.renewDeadline (s.entryInterval e)))
    (by simp [State.joinEntry, State.joinHold, State.countPoolGrant, State.putHold])
  refine ⟨⟨_, _, rfl, rfl, fun h' => ?_, fun slot' h' h'' => ?_⟩, ?_⟩
  · rw [ht] at h'
    cases h'
  · cases ht.symm.trans h''
    refine ⟨fun h => absurd h hu, fun _ h => absurd h (Nat.not_lt.2 hd), fun _ _ => ⟨?_, hput, hothers, hgen, by simp,
      State.joinEntry_acct e slot h, ?_⟩⟩
    · exact s.entryAnswered_of_charged e _ (by simp) (by simp) (by simp) (by simp [FarmRequestFrame])
    · rw [State.joinEntry, State.mgmt_answered_unlink]
      simp [EngineStats.countReply, State.grantBody]
  · exact hx.congr (by simp) (by simp) fun p => by
      rw [State.joinEntry_acct]
      exact ⟨rfl, rfl, rfl, rfl⟩

/-- An entry whose join target lacks tokens that fit upgrades it. -/
theorem State.upgradeEntry_served (hx : OvercommitExact s) (ht : s.targetOf e = some (slot, h)) (hu : h.useCount ≠ 255)
    (hd : h.tokens < s.fullDemand e) (hf : s.fits h.pool (s.grantDemand e) = true) :
    EntryServed s (s.upgradeEntry e slot h (s.fullDemand e)) e ∧ OvercommitExact (s.upgradeEntry e slot h (s.fullDemand e)) := by
  rw [State.grantDemand_of_target ht] at hf
  obtain ⟨hqueues, hstats, hholds⟩ := State.upgradeHold_written (slot := slot) hx (s.entryInterval e) hf
  obtain ⟨hput, hothers, hgen⟩ := otherSlots_put (s := s) (t := s.upgradeEntry e slot h (s.fullDemand e))
    (by simpa [State.upgradeEntry] using hholds)
  refine ⟨⟨_, _, rfl, rfl, fun h' => ?_, fun slot' h' h'' => ?_⟩, ?_⟩
  · rw [ht] at h'
    cases h'
  · cases ht.symm.trans h''
    refine ⟨fun h => absurd h hu, fun _ _ => ⟨?_, hput, hothers, hgen, ?_, ?_⟩, fun _ h => absurd hd (Nat.not_lt.2 h)⟩
    · exact s.entryAnswered_of_charged e _ hqueues (by simp) (by simp) (by simp [FarmRequestFrame])
    · rw [State.grantDemand_of_target ht]
      exact State.upgradeEntry_charged e slot h (s.fullDemand e) (hx h.pool) hf
    · rw [State.upgradeEntry, State.mgmt_answered_unlink, hstats]
      rfl
  · exact (hx.charged hf (by simp) (by simp) (State.upgradeHold_charged slot h _ _ (hx h.pool) hf)).answered e _

/-- An entry that fits and lacks nothing leaves the store, granted or denied USE_LIMIT. -/
theorem State.testEntry_served (hx : OvercommitExact s) (hu : ¬s.Unfit e) (hs : ¬s.LacksSlot e) (hl : ¬s.LacksReport e) :
    ∃ v, s.testEntry e = .gone v ∧ EntryServed s v e ∧ OvercommitExact v := by
  have hp := State.not_passed_of_fit hu
  cases ht : s.targetOf e with
  | none =>
    have hf : ¬s.fits e.pool (s.grantDemand e) = false := fun hf => hu ((State.unfit_iff_of_fresh hp ht).2 hf)
    have hfree : s.tableFull = false := Bool.eq_false_iff.2 fun hfull => hs ⟨ht, hfull⟩
    refine ⟨_, ?_, State.grantEntry_served hx ht (Bool.not_eq_false _ ▸ hf)⟩
    rw [State.testEntry_of_fresh hp ht, if_neg hf, State.newHoldLack_of_room hfree ((not_congr (State.lacksReport_iff_of_fresh ht)).1 hl)]
  | some x =>
    obtain ⟨slot, h⟩ := x
    by_cases hlimit : h.useCount = 255
    · exact ⟨_, State.testEntry_of_limit hp ht hlimit, State.dismiss_served hx ht hlimit⟩
    · by_cases hd : h.tokens < s.fullDemand e
      · have hf : ¬s.fits h.pool (s.grantDemand e) = false := fun hf => hu ((State.unfit_iff_of_target hp ht).2 ⟨⟨hlimit, hd⟩, hf⟩)
        refine ⟨_, ?_, State.upgradeEntry_served hx ht hlimit hd (Bool.not_eq_false _ ▸ hf)⟩
        rw [State.testEntry_of_upgrade hp ht hlimit hd, if_neg hf, State.upgradeLack,
          if_neg fun hlack => hl ((State.lacksReport_iff_of_target ht).2 ⟨⟨hlimit, hd⟩, hlack⟩)]
      · exact ⟨_, State.testEntry_of_join hp ht hlimit (Nat.not_lt.1 hd), State.joinEntry_served hx ht hlimit (Nat.not_lt.1 hd)⟩

end Sys2Proof.Machine
end

section
/-! PROOFS. The queue service pass (R83 to R89). -/

namespace Sys2Proof.Machine

open Host

variable {s t : State} {e : WaitEntry} {p : Nat}

/-! ### The start of a pass (R83, R84) -/

theorem State.passReady_of_marked (hm : p ∈ s.queues.marks) (ho : p ∉ s.queues.ordered ∨ s.queues.ordered.head? = some p) :
    s.passReady p = true := by
  rw [State.passReady, decide_eq_true hm, Bool.true_and, Bool.or_eq_true]
  exact ho.imp decide_eq_true decide_eq_true

/-- What a pass that is not blocked begins with. -/
def State.begun (p : Nat) (s : State) : State := (s.clearMarks p).modAcct p (fun a => { a with stalled := false })

theorem State.passBlocked_iff :
    s.passBlocked p = true ↔
      s.mode = .draining ∨ s.mode = .entering ∨ s.mode = .reconciling ∨ s.mode = .faultHold ∨ s.link.autonomyPassed = true ∨
        (s.record p).validOn s.today = false := by
  simp [State.passBlocked, or_assoc]

theorem exec_queueServicePass_of_blocked (hr : s.passReady p = true) (hb : s.passBlocked p = true) :
    exec (.queueServicePass p) s = .next (s.clearMarks p) := by
  change execQueueServicePass p s = _
  rw [execQueueServicePass, if_pos hr, State.runPass]
  exact congrArg _ (if_pos hb)

theorem exec_queueServicePass_of_open (hr : s.passReady p = true) (hb : s.passBlocked p = false) :
    exec (.queueServicePass p) s = .next (State.serve p (s.poolQueue p) (s.begun p)) := by
  change execQueueServicePass p s = _
  rw [execQueueServicePass, if_pos hr, State.runPass]
  exact congrArg _ (if_neg (ne_true_of_eq_false hb))

theorem State.not_mem_marks_clearMarks (s : State) (p : Nat) :
    p ∉ (s.clearMarks p).queues.marks ∧ p ∉ (s.clearMarks p).queues.ordered ∧
      ∀ q, q ≠ p → (q ∈ (s.clearMarks p).queues.marks ↔ q ∈ s.queues.marks) := by
  refine ⟨?_, ?_, fun q hq => ?_⟩ <;> simp_all [State.clearMarks]

theorem State.acct_begun (s : State) (p q : Nat) :
    (s.begun p).acct q = if p = q then { s.acct p with stalled := false } else s.acct q := State.acct_modAcct ..

theorem OvercommitExact.begun (hx : OvercommitExact s) (p : Nat) : OvercommitExact (s.begun p) :=
  hx.congr rfl rfl fun q => by
    rw [State.acct_begun]
    split
    · next h => subst h; exact ⟨rfl, rfl, rfl, rfl⟩
    · exact ⟨rfl, rfl, rfl, rfl⟩

/-! ### The walk (R85, R88, R89) -/

/-- The pass, from the head on or behind it. -/
def State.goThrough (p : Nat) (scanning : Bool) (es : List WaitEntry) (s : State) : State :=
  if scanning then State.scan p es s else State.serve p es s

section

variable {rest : List WaitEntry} {scanning : Bool}

theorem State.goThrough_nil : State.goThrough p scanning [] s = s := by
  cases scanning <;> rfl

theorem State.goThrough_of_unfit (h : s.testEntry e = .unfit) (hy : scanning = true ∨ s.HeadYields p e) :
    State.goThrough p scanning (e :: rest) s = State.goThrough p true rest s := by
  cases scanning with
  | true => simp [State.goThrough, State.scan, h]
  | false =>
    have hyoung : s.headYoung p e = true := decide_eq_true (hy.resolve_left Bool.false_ne_true)
    simp [State.goThrough, State.serve, h, hyoung]

theorem State.goThrough_of_head (h : s.testEntry e = .unfit) (hy : ¬s.HeadYields p e) :
    State.goThrough p false (e :: rest) s = s := by
  have hyoung : s.headYoung p e = false := decide_eq_false hy
  simp [State.goThrough, State.serve, h, hyoung]

theorem State.goThrough_of_stalled (h : s.testEntry e = .stalled t) : State.goThrough p scanning (e :: rest) s = t.stall p := by
  cases scanning <;> simp [State.goThrough, State.scan, State.serve, h]

theorem State.goThrough_of_gone (h : s.testEntry e = .gone t) :
    State.goThrough p scanning (e :: rest) s = State.goThrough p scanning rest t := by
  cases scanning <;> simp [State.goThrough, State.scan, State.serve, h]

end

/-- A list of entries that do not fit, its head one that yields, is passed over. -/
theorem State.goThrough_append {skipped : List WaitEntry} (rest : List WaitEntry) (h : ∀ x ∈ skipped, s.testEntry x = .unfit)
    (scanning : Bool) (hy : scanning = true ∨ ∀ x, skipped.head? = some x → s.HeadYields p x) :
    ∃ sc, State.goThrough p scanning (skipped ++ rest) s = State.goThrough p sc rest s := by
  induction skipped generalizing scanning with
  | nil => exact ⟨scanning, rfl⟩
  | cons x skipped ih =>
    rw [List.cons_append, State.goThrough_of_unfit (h x (List.mem_cons_self ..)) (hy.imp_right fun hh => hh x rfl)]
    exact ih (fun y hmem => h y (List.mem_cons_of_mem _ hmem)) true (.inl rfl)

/-- The stall of a pool, upon a state in which an event may have been raised. -/
theorem StalledAt.of_raised (hr : OnlyRaised s t) (ha : t.accounts = s.accounts)
    (hslot : s.LacksSlot e → t.eventPending .holdTableFull = true) (hnone : ¬s.LacksSlot e → t = s) : StalledAt s (t.stall p) p e := by
  refine ⟨?_, fun q hq => ?_, congrArg (fun u => State.setAccounts u (t.stall p).accounts) hr, hslot, fun h => ?_⟩
  · rw [State.stall, State.acct_modAcct, if_pos rfl, State.acct_congr ha]
  · rw [State.stall, State.acct_modAcct, if_neg (Ne.symm hq), State.acct_congr ha]
  · rw [hnone h]
    rfl

/-- The pass goes through a queue as R85 to R89 say. -/
theorem State.passWalk (p : Nat) (es : List WaitEntry) (scanning : Bool) {s : State} (hx : OvercommitExact s) :
    PassWalk p scanning es s (State.goThrough p scanning es s) := by
  induction es generalizing s scanning with
  | nil => exact State.goThrough_nil
  | cons e rest ih =>
    refine ⟨fun hu => ⟨fun hy => ?_, fun hsc hy => ?_⟩, fun hu hl => ?_, fun hu hs hl => ?_⟩
    · rw [State.goThrough_of_unfit (State.testEntry_of_unfit hu) hy]
      exact ih true hx
    · subst hsc
      exact State.goThrough_of_head (State.testEntry_of_unfit hu) hy
    · by_cases hs : s.LacksSlot e
      · rw [State.goThrough_of_stalled (State.testEntry_of_lacksSlot hu hs)]
        exact .of_raised (s.raise_only _) (by simp) (fun _ => by simp) fun h => absurd hs h
      · rw [State.goThrough_of_stalled (State.testEntry_of_lacksReport hu hs (hl.resolve_left hs))]
        exact .of_raised rfl rfl (fun h => absurd h hs) fun _ => rfl
    · obtain ⟨v, hgone, hserved, hxv⟩ := State.testEntry_served hx hu hs hl
      rw [State.goThrough_of_gone hgone]
      exact ⟨v, hserved, ih scanning hxv⟩

/-! ### Entries with no join target -/

theorem State.targetOf_of_none (h : e.target = none) : s.targetOf e = none := by rw [State.targetOf, h]; rfl

theorem State.grantDemand_of_none (h : e.target = none) : s.grantDemand e = e.demand := by rw [State.grantDemand, h]

theorem State.unfit_of_none (h : e.target = none) (hf : s.fits e.pool e.demand = false) : s.Unfit e := by
  by_cases hp : e.stepPassed = true
  · exact .inl hp
  · exact (State.unfit_iff_of_fresh (Bool.not_eq_true _ ▸ hp) (State.targetOf_of_none h)).2 (by rwa [State.grantDemand_of_none h])

theorem State.fit_of_none (h : e.target = none) (hp : e.stepPassed = false) (hf : s.fits e.pool e.demand = true) : ¬s.Unfit e := by
  rw [State.unfit_iff_of_fresh hp (State.targetOf_of_none h), State.grantDemand_of_none h, hf]
  exact Bool.noConfusion

theorem State.fits_begun (s : State) (p q n : Nat) : (s.begun p).fits q n = s.fits q n := by
  have ha : ((s.begun p).acct q).d = (s.acct q).d ∧ ((s.begun p).acct q).state = (s.acct q).state ∧
      ((s.begun p).acct q).h = (s.acct q).h := by
    rw [State.acct_begun]
    split
    · next h => subst h; exact ⟨rfl, rfl, rfl⟩
    · exact ⟨rfl, rfl, rfl⟩
  obtain ⟨hd, hs, hh⟩ := ha
  rw [State.fits, State.fits, hh, State.effectiveCeiling_congr (s := s) (t := s.begun p) rfl rfl q hd hs]

theorem State.pool_of_mem_poolQueue (h : e ∈ s.poolQueue p) : e.pool = p := of_decide_eq_true (List.mem_filter.1 h).2

/-- A charge counts from figures that the start of a pass leaves. -/
theorem ChargedBy.of_begun {tokens n : Nat} {base : Account} {change : ChangeKind} {hold : Hold} {handle : Handle}
    (h : ChargedBy (s.begun p) t base p tokens n change hold handle) : ChargedBy s t base p tokens n change hold handle := by
  obtain ⟨ha, hothers, hrest⟩ := h
  rw [State.acct_begun, if_pos rfl] at ha hrest
  exact ⟨ha, fun q hq => (hothers q hq).trans ((s.acct_begun p q).trans (if_neg (Ne.symm hq))), hrest⟩

/-- Settles O45: the pass is blocked, or walks through the queue; what an entry with no join target finds is read off its test. -/
theorem passServesTheQueue : Obligations.PassServesTheQueue := by
  unfold Obligations.PassServesTheQueue
  intro p s hm ho
  have hready := State.passReady_of_marked hm ho
  refine ⟨fun hblocked => ?_, fun hmode hauto hvalid hx => ?_, fun hmode hauto hvalid => ?_⟩
  · obtain ⟨hmarks, hordered, hothers⟩ := s.not_mem_marks_clearMarks p
    exact ⟨_, exec_queueServicePass_of_blocked hready (State.passBlocked_iff.2 hblocked), hmarks, hordered, hothers, rfl, rfl⟩
  · have hopen : s.passBlocked p = false := by
      rw [← Bool.not_eq_true, State.passBlocked_iff]
      rcases hmode with hmode | hmode <;> simp [hmode, hauto, hvalid]
    exact ⟨_, s.begun p, exec_queueServicePass_of_open hready hopen, rfl, (s.acct_begun p p).trans (if_pos rfl),
      fun q hq => (s.acct_begun p q).trans (if_neg (Ne.symm hq)), (s.begun p).passWalk p (s.poolQueue p) false (hx.begun p)⟩
  · have hopen : s.passBlocked p = false := by
      rw [← Bool.not_eq_true, State.passBlocked_iff]
      simp [hmode, hauto, hvalid]
    have hexec : exec (.queueServicePass p) s = .next (State.goThrough p false (s.poolQueue p) (s.begun p)) :=
      exec_queueServicePass_of_open hready hopen
    obtain ⟨hmarks, -⟩ := s.not_mem_marks_clearMarks p
    refine ⟨fun e rest hq hpolicy htarget hf => ?_, fun e rest hq htarget hpassed hf hfull => ?_,
      fun skipped e hq hx hskip hhead htarget hpassed hf hfree hroom => ?_⟩
    · obtain rfl : e.pool = p := State.pool_of_mem_poolQueue (s := s) (by rw [hq]; exact List.mem_cons_self ..)
      have hunfit : (s.begun e.pool).Unfit e := State.unfit_of_none htarget (by rwa [State.fits_begun])
      rw [hq, State.goThrough_of_head (State.testEntry_of_unfit hunfit) fun hy => by
        have := hpolicy.symm.trans hy.1
        cases this] at hexec
      exact ⟨_, hexec, hmarks, rfl, (s.acct_begun _ _).trans (if_pos rfl), rfl⟩
    · obtain rfl : e.pool = p := State.pool_of_mem_poolQueue (s := s) (by rw [hq]; exact List.mem_cons_self ..)
      have hfit : ¬(s.begun e.pool).Unfit e := State.fit_of_none htarget hpassed (by rwa [State.fits_begun])
      rw [hq, State.goThrough_of_stalled (State.testEntry_of_lacksSlot hfit ⟨State.targetOf_of_none htarget, hfull⟩)] at hexec
      refine ⟨_, hexec, ?_, ?_, ?_, ?_, ?_⟩
      · rw [State.stall, State.acct_modAcct, if_pos rfl]
      · exact ((s.begun e.pool).eventPending_raise .holdTableFull .holdTableFull).trans (by simp)
      · simp [State.stall, State.begun, State.clearMarks]
      · simp [State.stall, State.begun]
      · simp [State.stall, State.begun]
    · obtain rfl : e.pool = p := State.pool_of_mem_poolQueue (s := s) (by rw [hq]; simp)
      have hunfit : ∀ x ∈ skipped, (s.begun e.pool).testEntry x = .unfit := fun x hmem => by
        obtain ⟨hnone, hlarge⟩ := hskip x hmem
        have hpool : x.pool = e.pool := State.pool_of_mem_poolQueue (s := s) (by rw [hq]; simp [hmem])
        exact State.testEntry_of_unfit (State.unfit_of_none hnone (by rwa [State.fits_begun, hpool]))
      have hfit : ¬(s.begun e.pool).Unfit e := State.fit_of_none htarget hpassed (by rwa [State.fits_begun])
      have hnone : (s.begun e.pool).targetOf e = none := State.targetOf_of_none htarget
      obtain ⟨v, hgone, hserved, -⟩ := State.testEntry_served (hx.begun e.pool) hfit
        (fun hl => Bool.false_ne_true (hfree.symm.trans hl.2))
        (fun hl => by
          obtain ⟨hshared, hlack⟩ := (State.lacksReport_iff_of_fresh hnone).1 hl
          rw [State.acct_begun, if_pos rfl] at hshared
          exact Bool.false_ne_true (hlack.symm.trans (hroom hshared)))
      obtain ⟨sc, hthrough⟩ := State.goThrough_append [e] hunfit false (.inr hhead)
      rw [hq, hthrough, State.goThrough_of_gone hgone, State.goThrough_nil] at hexec
      obtain ⟨i, deadline, rfl, rfl, hnew, -⟩ := hserved
      obtain ⟨hold, handle, rfl, rfl, ⟨hans, hqueues, hfwd, hintake, hframe⟩, hput, hothers, -, hcharged, -⟩ := hnew hnone
      rw [State.grantDemand_of_none htarget] at hans hput hcharged
      refine ⟨v, _, _, _, hexec, rfl, rfl, rfl, hans, hput, hothers, ?_, ?_, ?_, hfwd, hframe, hintake⟩
      · rw [State.acct_begun, if_pos rfl] at hcharged
        exact hcharged.of_begun
      · rw [hqueues]
        rfl
      · rw [hqueues]
        exact hmarks

end Sys2Proof.Machine
end

section
/-! PROOFS. The validation of an image (R163). -/

namespace Sys2Proof.Machine

open Host

/-! ### A number that is the least with a property -/

/-- A result names the least number with a property, and none where no number has it. -/
def NamesLeast (r : Option Nat) (P : Nat → Prop) : Prop := ∀ o, r = some o ↔ P o ∧ ∀ q, q < o → ¬P q

theorem NamesLeast.eq_none_iff {r : Option Nat} {P : Nat → Prop} (h : NamesLeast r P) : r = none ↔ ∀ o, ¬P o := by
  constructor
  · intro hr o
    induction o using Nat.strongRecOn with
    | ind o ih => exact fun ho => Option.some_ne_none o (((h o).2 ⟨ho, ih⟩).symm.trans hr)
  · exact fun hn => Option.eq_none_iff_forall_ne_some.2 fun o ho => hn o ((h o).1 ho).1

/-- A test of one number, before a search among greater ones. -/
theorem NamesLeast.test {r : Option Nat} {P : Nat → Prop} (h : NamesLeast r P) {n : Nat} (hlow : ∀ q, P q → n < q) (c : Prop)
    [Decidable c] : NamesLeast (if c then some n else r) (fun o => (o = n ∧ c) ∨ P o) := by
  intro o
  by_cases hc : c
  · rw [if_pos hc, Option.some.injEq]
    simp only [hc, and_true]
    constructor
    · rintro rfl
      exact ⟨.inl rfl, fun q hq hp => hp.elim (Nat.ne_of_lt hq) fun hp => Nat.lt_asymm hq (hlow q hp)⟩
    · rintro ⟨ho | ho, hmin⟩
      · exact ho.symm
      · exact absurd (.inl rfl) (hmin n (hlow o ho))
  · rw [if_neg hc]
    simp only [hc, and_false, false_or]
    exact h o

/-- A search that finds nothing, where no number has the property. -/
theorem NamesLeast.none : NamesLeast .none (fun _ => False) := fun o => by simp

/-- A search among numbers below a bound, before one from the bound on. -/
theorem NamesLeast.append {r r' : Option Nat} {P P' : Nat → Prop} {n : Nat} (h : NamesLeast r P) (h' : NamesLeast r' P')
    (hlow : ∀ q, P q → q < n) (hhigh : ∀ q, P' q → n ≤ q) : NamesLeast (r.or r') (fun o => P o ∨ P' o) := by
  intro o
  cases hr : r with
  | none =>
    have hnone := h.eq_none_iff.1 hr
    simp only [Option.none_or, hnone, false_or]
    exact h' o
  | some x =>
    obtain ⟨hx, hmin⟩ := (h x).1 hr
    have hxn := hlow x hx
    rw [Option.some_or, ← hr, h o]
    constructor
    · exact fun ⟨ho, hle⟩ => ⟨.inl ho, fun q hq hp =>
        hp.elim (hle q hq) fun hp => by have := hhigh q hp; have := hlow o ho; omega⟩
    · rintro ⟨ho | ho, hle⟩
      · exact ⟨ho, fun q hq hp => hle q hq (.inl hp)⟩
      · exact absurd (.inl hx) (hle x (Nat.lt_of_lt_of_le hxn (hhigh o ho)))

/-! ### The words of an image -/

variable {now : Nat} {image : List Word}

/-- A word of the `i`th summary fails its test. -/
def SummaryWordFails (image : List Word) (i o : Nat) : Prop :=
  (o = 16 + 8 * i + 2 ∧ 65535 < imageWord image o) ∨ (o = 16 + 8 * i + 3 ∧ imageWord image o ≠ 1 ∧ imageWord image o ≠ 2)

/-- Every word of a summary lies before those of the next. -/
theorem SummaryWordFails.bounds {i o : Nat} (h : SummaryWordFails image i o) : 16 + 8 * i ≤ o ∧ o < 16 + 8 * (i + 1) := by
  rcases h with ⟨rfl, -⟩ | ⟨rfl, -⟩ <;> omega

theorem summaryFault_least (image : List Word) (i : Nat) : NamesLeast (summaryFault image i) (SummaryWordFails image i) := by
  have hmode : NamesLeast
      (if ¬(imageWord image (16 + 8 * i + 3) = 1 ∨ imageWord image (16 + 8 * i + 3) = 2) then some (16 + 8 * i + 3) else none)
      (fun o => (o = 16 + 8 * i + 3 ∧ ¬(imageWord image (16 + 8 * i + 3) = 1 ∨ imageWord image (16 + 8 * i + 3) = 2)) ∨ False) :=
    NamesLeast.none.test (fun _ h => h.elim) _
  have hboth := hmode.test (n := 16 + 8 * i + 2) (fun q hq => hq.elim (fun h => by omega) False.elim) (65535 < imageWord image (16 + 8 * i + 2))
  rw [ite_not] at hboth
  intro o
  rw [summaryFault]
  refine (hboth o).trans ?_
  have hiff (q : Nat) : ((q = 16 + 8 * i + 2 ∧ 65535 < imageWord image (16 + 8 * i + 2)) ∨
      (q = 16 + 8 * i + 3 ∧ ¬(imageWord image (16 + 8 * i + 3) = 1 ∨ imageWord image (16 + 8 * i + 3) = 2)) ∨ False) ↔
        SummaryWordFails image i q := by
    rw [SummaryWordFails, or_false, not_or]
    refine or_congr (and_congr_right ?_) (and_congr_right ?_)
    · rintro rfl; rfl
    · rintro rfl; rfl
  simp only [hiff]

/-- The first summary that fails holds the first word of the summaries that fails. -/
theorem firstSummaryFault_least (image : List Word) (n : Nat) :
    NamesLeast ((List.range n).findSome? (summaryFault image)) (fun o => ∃ i, i < n ∧ SummaryWordFails image i o) := by
  induction n with
  | zero => simpa using NamesLeast.none
  | succ n ih =>
    have hstep := ih.append (n := 16 + 8 * n) (summaryFault_least image n)
      (fun q ⟨i, hi, hq⟩ => by
        have := hq.bounds
        omega) fun q hq => hq.bounds.1
    intro o
    rw [List.range_succ, List.findSome?_append, List.findSome?_singleton]
    refine (hstep o).trans ?_
    have hiff (q : Nat) : ((∃ i, i < n ∧ SummaryWordFails image i q) ∨ SummaryWordFails image n q) ↔
        ∃ i, i < n + 1 ∧ SummaryWordFails image i q := by
      constructor
      · rintro (⟨i, hi, hq⟩ | hq)
        · exact ⟨i, by omega, hq⟩
        · exact ⟨n, n.lt_succ_self, hq⟩
      · rintro ⟨i, hi, hq⟩
        rcases Nat.lt_succ_iff_lt_or_eq.1 hi with hi | rfl
        · exact .inl ⟨i, hi, hq⟩
        · exact .inr hq
    simp only [hiff]

/-- The fault of an image is the first word that fails its test. -/
theorem imageFault_least (now : Nat) (image : List Word) : NamesLeast (imageFault now image) (WordFails now image) := by
  have hhigh : ∀ q, (∃ i, i < summaryCount image ∧ SummaryWordFails image i q) → 16 ≤ q := fun q ⟨i, _, hq⟩ => by
    have := hq.bounds
    omega
  have htime := (firstSummaryFault_least image (summaryCount image)).test (n := 7) (fun q hq => Nat.lt_of_lt_of_le (by decide) (hhigh q hq))
    (relocation image ≠ 0 ∧ (relocation image < now ∨ 2 ^ 48 ≤ relocation image))
  have hflush := htime.test (n := 6) (fun q hq => hq.elim (by omega) fun hq => Nat.lt_of_lt_of_le (by decide) (hhigh q hq))
    (1 < imageWord image 6)
  have hdrain := hflush.test (n := 5)
    (fun q hq => hq.elim (by omega) fun hq => hq.elim (by omega) fun hq => Nat.lt_of_lt_of_le (by decide) (hhigh q hq))
    (1 < imageWord image 5)
  exact hdrain

end Sys2Proof.Machine
end

section
/-! PROOFS. The wait store emptied, whatever stands in it, and the RESUME that finds a fault (R41, R43, R95, R163, R164). -/

namespace Sys2Proof.Machine

open Host

variable {s t : State} {f : Frame} {k : Key}

/-! ### Every waiting entry, keys repeated or not (R43, R95) -/

/-- A list sorted into the classes of its members, each class in the order of the list. -/
theorem flatMap_filter_perm {α : Type} (g : α → Nat) {ps : List Nat} (hps : ps.Nodup) {l : List α} (h : ∀ x ∈ l, g x ∈ ps) :
    (ps.flatMap (fun p => l.filter (fun x => g x = p))).Perm l := by
  induction ps generalizing l with
  | nil =>
    have hnil : l = [] := List.eq_nil_iff_forall_not_mem.2 fun x hx => List.not_mem_nil (h x hx)
    simp [hnil]
  | cons p ps ih =>
    obtain ⟨hp, hps⟩ := List.nodup_cons.1 hps
    have hothers : ∀ q ∈ ps, l.filter (fun x => g x = q) = (l.filter (fun x => !decide (g x = p))).filter (fun x => g x = q) :=
      fun q hq => by
        rw [List.filter_filter]
        refine List.filter_congr fun x _ => ?_
        by_cases hx : g x = q
        · have hne : g x ≠ p := fun hxp => hp (hxp ▸ hx ▸ hq)
          simp [hx, hx ▸ hne]
        · simp [hx]
    have hrest := ih hps (l := l.filter (fun x => !decide (g x = p))) fun x hx => by
      obtain ⟨hm, hne⟩ := List.mem_filter.1 hx
      exact (List.mem_cons.1 (h x hm)).resolve_left (by simpa using hne)
    rw [List.flatMap_cons, flatMap_eq_of_forall_mem hothers]
    exact (hrest.append_left _).trans (List.filter_append_perm _ l)

theorem State.entriesByPool_perm_entries (s : State) : s.entriesByPool.Perm s.queues.entries := by
  have hrising : s.waitingPools.Pairwise (· < ·) := rising_foldl_insertNat _ _ List.Pairwise.nil
  exact flatMap_filter_perm WaitEntry.pool (hrising.imp fun h => Nat.ne_of_lt h) fun e he =>
    (s.mem_waitingPools e.pool).2 ⟨e, he, rfl⟩

/-- A list whose keys are those of the entries taken out of it ends empty. -/
theorem foldl_eraseP_eq_nil {es l : List WaitEntry} (h : (l.map WaitEntry.key).Perm (es.map WaitEntry.key)) :
    es.foldl (fun l e => l.eraseP (fun x => x.key = e.key)) l = [] := by
  induction es generalizing l with
  | nil => exact List.map_eq_nil_iff.1 (List.perm_nil.1 h)
  | cons e es ih =>
    have herase : (l.eraseP (fun x => x.key = e.key)).map WaitEntry.key = (l.map WaitEntry.key).erase e.key := by
      rw [List.erase_eq_eraseP, List.eraseP_map]
      congr 2
      funext x
      exact decide_eq_decide.2 eq_comm
    have hrest := h.erase e.key
    rw [List.map_cons, List.erase_cons_head, ← herase] at hrest
    exact ih hrest

/-- Where every entry leaves by its key, the store is empty. -/
theorem Unlinks.emptied_store {g : State → WaitEntry → State} (hg : Unlinks g) (ht : t = s.entriesByPool.foldl g s) :
    t.queues = { s.queues with entries := [] } := by
  obtain ⟨hq, -⟩ := hg.foldl s.entriesByPool s
  have hkeys := foldl_eraseP_eq_nil ((s.entriesByPool_perm_entries).map WaitEntry.key).symm
  rw [ht, hq, hkeys]

end Sys2Proof.Machine
end

section
/-! PROOFS. The RESUME that is refused, and the one that finds a fault (R41, R163, R164). -/

namespace Sys2Proof.Machine

open Host

variable {s t : State} {f : Frame} {k : Key}

theorem QueuesCounted.congr (h : QueuesCounted s) (hq : t.queues = s.queues) (hf : t.fwd = s.fwd) (ha : t.accounts = s.accounts) :
    QueuesCounted t := by
  obtain ⟨hkeys, hlen, hcount⟩ := h
  refine ⟨hkeys.congr (by rw [hq]) (by rw [hf]), by rwa [hq], fun p => ?_⟩
  rw [State.acct_congr ha, hcount, State.poolQueue, State.poolQueue, hq]

theorem State.entriesByPool_congr (hq : t.queues = s.queues) : t.entriesByPool = s.entriesByPool := by
  have hpool : t.poolQueue = s.poolQueue := by
    funext p
    rw [State.poolQueue, State.poolQueue, hq]
  rw [State.entriesByPool, State.entriesByPool, State.waitingPools, State.waitingPools, hq, hpool]

/-! ### The entry into FAULT_HOLD (R41) -/

theorem State.retryAll_eq (r : RetryReason) (es : List WaitEntry) (s : State) :
    es.foldl (fun t e => (t.unlink e).retry e.addrs e.key r) s = s.dismissAll (.retry r s.mgmt.params.retryHint) es := by
  induction es generalizing s with
  | nil => rfl
  | cons e es ih =>
    have hhint : ((s.unlink e).retry e.addrs e.key r).mgmt.params = s.mgmt.params := by simp
    rw [List.foldl_cons, ih, hhint]
    rfl

theorem State.enterFaultHold_eq (s : State) :
    s.enterFaultHold =
      ((s.setMode .faultHold).dismissAll (.retry .engineFault s.mgmt.params.retryHint) s.entriesByPool).setFwd
        { entries := [], late := [] } := by
  rw [State.enterFaultHold, State.retryAll_eq]
  rfl

/-- A fault found: its offset recorded and raised, the queues answered and emptied, the forwards dropped, the image invalid. -/
def State.faulted (offset : Nat) (s : State) : State :=
  let held := ((s.setRecon { s.recon with faultOffset := some offset }).raise .reconcileFault).enterFaultHold
  held.setRecon { held.recon with latch := false, latchedKey := none, image := none }

theorem State.resumeFault_eq (s : State) (offset : Nat) :
    s.resumeFault k offset =
      (s.faulted offset).answerMgmt k
        { kind := .resume, status := .badRequest, body := .fault offset ((s.imageWords[offset]?).getD 0) } := rfl

theorem State.faulted_heldBack (s : State) (offset : Nat) : HeldBack s (s.faulted offset) := by
  have hraised : HeldBack s ((s.setRecon { s.recon with faultOffset := some offset }).raise .reconcileFault) := by
    refine HeldBack.trans ?_ (State.raise_heldBack _ _)
    exact .of_kept rfl rfl
  rw [State.faulted, State.enterFaultHold_eq]
  refine hraised.trans ?_
  refine HeldBack.trans ?_ (HeldBack.of_kept (s := State.dismissAll _ _ _) rfl rfl)
  refine HeldBack.trans ?_ (State.dismissAll_heldBack _ _ _)
  exact .of_kept rfl rfl

/-- What a fault leaves, but for the Service Port (R41, R164). -/
theorem State.faulted_leaves (h : QueuesCounted s) (offset : Nat) (ht : t = s.faulted offset) :
    t.mode = .faultHold ∧
      t.recon = { s.recon with latch := false, latchedKey := none, image := none, faultOffset := some offset } ∧
      t.eventPending .reconcileFault = true ∧ t.queues = { s.queues with entries := [] } ∧
      t.fwd = { entries := [], late := [] } ∧ (∀ p, t.acct p = { s.acct p with queueLength := 0 }) ∧ t.holds = s.holds ∧
      AnswersAll s t (s.entriesByPool.map (fun e => (e, FarmBody.retry .engineFault s.mgmt.params.retryHint))) ∧
      t.time = s.time ∧ t.banks = s.banks ∧ t.link = s.link ∧ t.mgmt.params = s.mgmt.params := by
  have hrecon : ((s.setRecon { s.recon with faultOffset := some offset }).raise .reconcileFault).recon =
      { s.recon with faultOffset := some offset } := by simp
  have hpending : ((s.setRecon { s.recon with faultOffset := some offset }).raise .reconcileFault).eventPending .reconcileFault = true := by
    simp
  have hkept : ((s.setRecon { s.recon with faultOffset := some offset }).raise .reconcileFault).queues = s.queues ∧
      ((s.setRecon { s.recon with faultOffset := some offset }).raise .reconcileFault).fwd = s.fwd ∧
      ((s.setRecon { s.recon with faultOffset := some offset }).raise .reconcileFault).accounts = s.accounts ∧
      ((s.setRecon { s.recon with faultOffset := some offset }).raise .reconcileFault).holds = s.holds ∧
      ((s.setRecon { s.recon with faultOffset := some offset }).raise .reconcileFault).farm = s.farm ∧
      ((s.setRecon { s.recon with faultOffset := some offset }).raise .reconcileFault).time = s.time ∧
      ((s.setRecon { s.recon with faultOffset := some offset }).raise .reconcileFault).banks = s.banks ∧
      ((s.setRecon { s.recon with faultOffset := some offset }).raise .reconcileFault).link = s.link ∧
      ((s.setRecon { s.recon with faultOffset := some offset }).raise .reconcileFault).mgmt.params = s.mgmt.params := by simp
  rw [State.faulted] at ht
  generalize (s.setRecon { s.recon with faultOffset := some offset }).raise .reconcileFault = u at ht hrecon hpending hkept
  obtain ⟨hq, hf, ha, hholds, hfarm, htime, hbanks, hlink, hparams⟩ := hkept
  have hentries : u.entriesByPool = s.entriesByPool := State.entriesByPool_congr hq
  rw [State.enterFaultHold_eq, hentries, hparams] at ht
  obtain ⟨hqueues, haccts⟩ := (unlinks_dismiss (.retry .engineFault s.mgmt.params.retryHint)).emptied
    (s := u.setMode .faultHold) (h.congr hq hf ha) rfl
  have hanswers := State.dismissAll_answers (.retry .engineFault s.mgmt.params.retryHint) s.entriesByPool (u.setMode .faultHold)
  have hevents := State.eventPending_dismissAll (.retry .engineFault s.mgmt.params.retryHint) s.entriesByPool (u.setMode .faultHold)
    .reconcileFault
  have hdismissed : (u.setMode .faultHold).entriesByPool = s.entriesByPool := hentries
  rw [hdismissed] at hqueues haccts
  subst ht
  refine ⟨by simp, by simp [hrecon], hevents.trans hpending, ?_, rfl, fun p => ?_, by simp [hholds], hanswers.congr hfarm.symm ?_ rfl,
    by simp [htime], by simp [hbanks], by simp [hlink], by simp [hparams]⟩
  · refine hqueues.trans ?_
    rw [State.setMode_queues, hq]
  · refine (haccts p).trans ?_
    rw [State.acct_congr (s := s) (t := u.setMode .faultHold) ha]
  · rw [State.setMode_mgmt, hparams]

/-! ### The outcomes of R163 -/

theorem State.resume_of_refused (h : s.mode ≠ .reconciling) : s.resume k = s.answerBare k .resume .badState := if_pos h

theorem State.resume_of_fault {offset : Nat} (h : s.mode = .reconciling) (hf : imageFault s.time.now s.imageWords = some offset) :
    s.resume k = s.resumeFault k offset := by
  rw [State.resume, if_neg (by simp [h]), hf]

theorem State.resume_of_valid (h : s.mode = .reconciling) (hf : imageFault s.time.now s.imageWords = none) :
    s.resume k = s.resumeValid k s.imageWords := by
  rw [State.resume, if_neg (by simp [h]), hf]

/-- A RESUME that finds a fault. -/
theorem Manages.resume_faulted (h : Manages s f k .resume) {image : List Word} {offset : Nat} (hm : s.mode = .reconciling)
    (hi : s.recon.image = some image) (hf : imageFault s.time.now image = some offset) :
    exec .resume s = .next (((s.managed f).faulted offset).answerMgmt k
      { kind := .resume, status := .badRequest, body := .fault offset (BitVec.ofNat 32 (imageWord image offset)) }) := by
  have hwords : (s.managed f).imageWords = image := State.imageWords_of_some hi
  refine (h.exec_act (by simp [MgmtRequest.command])).trans (congrArg Outcome.next ?_)
  have hact := State.resume_of_fault (s := s.managed f) (k := k) (offset := offset) hm (by rw [hwords]; exact hf)
  refine hact.trans ?_
  rw [State.resumeFault_eq, hwords, imageWord, BitVec.ofNat_toNat, BitVec.setWidth_eq]

end Sys2Proof.Machine
end

section
/-! PROOFS. The relocation of an image (R36, R74, R135, R137, R138, R165). -/

namespace Sys2Proof.Machine

open Host

variable {s t u : State} {image : List Word}

/-! ### What the values of an image leave alone -/

/-- What the relocation and the pool values of an image leave alone: all but engine time, the holds, the accounts, the wait store's
marks, event flags and held notices. -/
structure ImageFrame (s t : State) : Prop where
  mode : t.mode = s.mode
  banks : t.banks = s.banks
  fwd : t.fwd = s.fwd
  link : t.link = s.link
  recon : t.recon = s.recon
  farm : t.farm = s.farm
  reserved : t.reserved = s.reserved
  pending : t.pending = s.pending
  clk : t.clk = s.clk
  noticing : Noticing s t
  held : HeldBack s t
  marks : ∀ p, p ∈ s.queues.marks → p ∈ t.queues.marks
  events : ∀ e, s.eventPending e = true → t.eventPending e = true

theorem ImageFrame.refl (s : State) : ImageFrame s s :=
  ⟨rfl, rfl, rfl, rfl, rfl, rfl, rfl, rfl, rfl, .refl s, .refl s, fun _ h => h, fun _ h => h⟩

theorem ImageFrame.trans (h : ImageFrame s u) (h' : ImageFrame u t) : ImageFrame s t :=
  ⟨h'.mode.trans h.mode, h'.banks.trans h.banks, h'.fwd.trans h.fwd, h'.link.trans h.link, h'.recon.trans h.recon,
    h'.farm.trans h.farm, h'.reserved.trans h.reserved, h'.pending.trans h.pending, h'.clk.trans h.clk, h.noticing.trans h'.noticing,
    h.held.trans h'.held, fun p hp => h'.marks p (h.marks p hp), fun e he => h'.events e (h.events e he)⟩

/-- A change of engine time, the holds, the accounts or the entries alone. -/
theorem ImageFrame.of_only
    (h : t = { s with time := t.time, holds := t.holds, accounts := t.accounts, queues := { s.queues with entries := t.queues.entries } }) :
    ImageFrame s t := by
  rw [h]
  exact ⟨rfl, rfl, rfl, rfl, rfl, rfl, rfl, rfl, rfl, .of_kept rfl rfl, .of_kept rfl rfl, fun _ h => h, fun _ h => h⟩

theorem ImageFrame.params (h : ImageFrame s t) :
    t.mgmt.params = s.mgmt.params ∧ t.mgmt.notify = s.mgmt.notify ∧ t.mgmt.stats = s.mgmt.stats := by
  obtain ⟨_, _, _, _, _, hm⟩ := h.noticing
  rw [hm]
  exact ⟨rfl, rfl, rfl⟩

/-! ### The step (R135, R165) -/

theorem imageFault_none_relocation {now : Nat} (h : imageFault now image = none) :
    relocation image = 0 ∨ (relocation image ≠ 0 ∧ now ≤ relocation image) := by
  rcases Nat.eq_zero_or_pos (relocation image) with hz | hpos
  · exact .inl hz
  · have hnz := Nat.pos_iff_ne_zero.1 hpos
    refine .inr ⟨hnz, Nat.not_lt.1 fun hlt => ?_⟩
    exact (imageFault_least now image).eq_none_iff.1 h 7 (.inr (.inr (.inl ⟨rfl, hnz, .inl hlt⟩)))

theorem State.setTimeSource_noticing (s : State) : Noticing s s.setTimeSource := by
  rw [State.setTimeSource]
  split
  · split
    · exact (s.leaveUnset_noticing _).trans (State.raise_noticing _ _)
    · exact s.leaveUnset_noticing _
  · exact .refl s

theorem State.eventPending_leaveUnset_mono (s : State) (source : TimeSource) (e : Event) (h : s.eventPending e = true) :
    (s.leaveUnset source).eventPending e = true := by
  rw [State.leaveUnset, State.eventPending_raise, Bool.or_eq_true]
  exact .inr h

theorem State.eventPending_setTimeSource_mono (s : State) (e : Event) (h : s.eventPending e = true) :
    s.setTimeSource.eventPending e = true := by
  rw [State.setTimeSource]
  split
  · split
    · rw [State.eventPending_raise, Bool.or_eq_true]
      exact .inr (s.eventPending_leaveUnset_mono _ e h)
    · exact s.eventPending_leaveUnset_mono _ e h
  · exact h

theorem State.setTimeSource_frame (s : State) : ImageFrame s s.setTimeSource :=
  ⟨by simp, by simp, by simp, by simp, by simp, by simp, by simp, by simp, by simp, s.setTimeSource_noticing, s.setTimeSource_heldBack,
    fun p hp => by simpa using hp, s.eventPending_setTimeSource_mono⟩

/-- Entries marked where a step to a time passes their wait deadlines (R93). -/
def State.steppedEntries (s : State) (new : Nat) : List WaitEntry :=
  s.queues.entries.map (fun e => { e with stepPassed := e.stepPassed || decide (s.time.now < new ∧ e.deadline ≤ new) })

/-- A forward SET_TIME in STEP mode. -/
theorem State.setTimeStep_leaves {new : Nat} (h : s.time.now ≤ new) (ht : t = s.setTimeStep new) :
    ImageFrame s t ∧
      t.time =
        { now := new,
          source := if s.time.source ≠ .unset then s.time.source else if s.link.state = .lost then .holdover else .tracking,
          epochOwed := s.boundariesOwed new,
          dayOwed := if s.time.source = .unset then s.time.dayOwed ++ [{ old := none, new := new / 86400000 }] else s.daysOwed new } ∧
      t.holds = s.holds ∧ t.accounts = s.accounts ∧ t.queues = { s.queues with entries := s.steppedEntries new } ∧
      (s.time.source = .unset → t.eventPending .timeSet = true) := by
  have hstep := State.stepTo_eq h
  have hframe : ImageFrame s (s.stepTo new) := .of_only (by rw [hstep])
  have htime : (s.stepTo new).time = { now := new, source := s.time.source, epochOwed := s.boundariesOwed new, dayOwed := s.daysOwed new } := by
    rw [hstep]
  rw [State.setTimeStep] at ht
  subst ht
  refine ⟨hframe.trans (s.stepTo new).setTimeSource_frame, ?_, by simp [hstep], by simp [hstep], ?_, fun hs => ?_⟩
  · rw [State.time_setTimeSource, htime, hframe.link]
    by_cases hs : s.time.source = .unset <;> simp [hs, State.daysOwed]
  · simp only [State.setTimeSource_kept, hstep]
    rfl
  · exact (State.eventPending_setTimeSource (by rw [htime, hs])).1

/-! ### The boundary within the RESUME (R36, R137; log 22) -/

theorem State.boundariesOwed_ne_iff (s : State) (new : Nat) :
    s.boundariesOwed new ≠ s.time.epochOwed ↔
      epochNumber s.time.now s.mgmt.params.epochPeriod ≠ epochNumber new s.mgmt.params.epochPeriod := by
  rw [State.boundariesOwed]
  split <;> simp_all

theorem State.relocationBoundary_of_same {before : State} (h : s.time.epochOwed = before.time.epochOwed) :
    State.relocationBoundary before s = s := if_pos h

theorem State.relocationBoundary_of_new {before : State} (h : s.time.epochOwed ≠ before.time.epochOwed) :
    State.relocationBoundary before s = (s.setTime { s.time with epochOwed := before.time.epochOwed }).rollEpoch := if_neg h

theorem State.relocationBoundary_only (before s : State) :
    State.relocationBoundary before s =
      { s with accounts := (State.relocationBoundary before s).accounts, time := { s.time with epochOwed := before.time.epochOwed } } := by
  by_cases h : s.time.epochOwed = before.time.epochOwed
  · rw [State.relocationBoundary_of_same h, ← h]
  · rw [State.relocationBoundary_of_new h]
    rfl

/-! ### The relocation (R165) -/

theorem State.relocate_of_zero {value : Nat} (h : value = 0) : s.relocate value = s := if_pos h

theorem State.relocate_of_nonzero {value : Nat} (h : value ≠ 0) :
    s.relocate value = (State.relocationBoundary s (s.setTimeStep value)).staleReached := if_neg h

/-- The boundary and the stale holds, upon a step. -/
theorem State.relocationBoundary_stale {v : State} (hv : v = (State.relocationBoundary s u).staleReached)
    (hnow : u.time.now = relocation image) (hnz : relocation image ≠ 0) (hframe : ImageFrame s u) (hholds : u.holds = s.holds) :
    ImageFrame s v ∧ v.time = { u.time with epochOwed := s.time.epochOwed } ∧
      v.holds = { s.holds with slots := s.holds.slots.map (fun e => (e.1, s.relocatedHold image e.2)) } ∧ v.queues = u.queues ∧
      v.mgmt = u.mgmt := by
  have honly := State.relocationBoundary_only s u
  have hstale : (State.relocationBoundary s u).staledHold = s.relocatedHold image := by
    have hbanks : (State.relocationBoundary s u).banks = s.banks := by rw [honly]; exact hframe.banks
    have hvnow : (State.relocationBoundary s u).time.now = relocation image := by rw [honly]; exact hnow
    funext h
    rw [State.staledHold, State.relocatedHold, hvnow, State.record_congr hbanks]
    simp only [hnz, ne_eq, not_false_eq_true, true_and, Hold.staled, capTime, Config.maxTime]
  rw [State.staleReached_eq, hstale, honly] at hv
  subst hv
  exact ⟨hframe.trans (.of_only rfl), rfl, by rw [State.setHolds_holds, hholds], rfl, rfl⟩

/-- What the relocation of a valid image leaves, but for the accounts. -/
theorem State.relocate_leaves (hv : imageFault s.time.now image = none) (ht : t = s.relocate (relocation image)) :
    ImageFrame s t ∧ t.time = s.relocatedTime image ∧
      t.holds = { s.holds with slots := s.holds.slots.map (fun e => (e.1, s.relocatedHold image e.2)) } ∧
      t.queues = { s.queues with entries := s.steppedEntries (relocation image) } ∧
      (relocation image ≠ 0 → s.time.source = .unset → t.eventPending .timeSet = true) := by
  rcases imageFault_none_relocation hv with hz | ⟨hnz, hle⟩
  · have hsame : t = s := ht.trans (State.relocate_of_zero hz)
    subst hsame
    refine ⟨.refl t, ?_, ?_, ?_, fun h => absurd hz h⟩
    · rw [State.relocatedTime, if_pos hz]
    · simp [State.relocatedHold, hz]
    · simp [State.steppedEntries, hz]
  · obtain ⟨hframe, htime, hholds, -, hqueues, hset⟩ := State.setTimeStep_leaves hle rfl
    obtain ⟨htframe, httime, htholds, htqueues, htmgmt⟩ := State.relocationBoundary_stale (image := image)
      (ht.trans (State.relocate_of_nonzero hnz)) (by rw [htime]) hnz hframe hholds
    refine ⟨htframe, ?_, htholds, htqueues.trans hqueues, fun _ hs => ?_⟩
    · rw [httime, htime, State.relocatedTime, if_neg hnz]
    · have hpending := hset hs
      rwa [State.eventPending, ← htmgmt] at hpending

/-- The accounts roll where a boundary is owed. -/
theorem State.acct_relocationBoundary (hl : AccountsListed s) (haccounts : u.accounts = s.accounts) (p : Nat) :
    (State.relocationBoundary s u).acct p =
      if u.time.epochOwed ≠ s.time.epochOwed then (s.acct p).rolled else s.acct p := by
  by_cases hsame : u.time.epochOwed = s.time.epochOwed
  · rw [State.relocationBoundary_of_same hsame, if_neg (Classical.not_not.2 hsame), State.acct_congr haccounts]
  · have hacct : (u.setTime { u.time with epochOwed := s.time.epochOwed }).acct p = s.acct p := State.acct_congr haccounts p
    rw [State.relocationBoundary_of_new hsame, if_pos hsame, State.acct_rollEpoch, hacct]
    simpa [AccountsListed, haccounts] using hl

/-- The accounts roll where the relocation changes the epoch number. -/
theorem State.acct_relocate (hl : AccountsListed s) (hv : imageFault s.time.now image = none) (p : Nat) :
    (s.relocate (relocation image)).acct p = s.relocatedAcct image p := by
  rcases imageFault_none_relocation hv with hz | ⟨hnz, hle⟩
  · rw [State.relocate_of_zero hz, State.relocatedAcct, if_neg (by simp [hz])]
  · obtain ⟨-, htime, -, haccounts, -⟩ := State.setTimeStep_leaves hle rfl
    have howed : (s.setTimeStep (relocation image)).time.epochOwed = s.boundariesOwed (relocation image) := by rw [htime]
    have hstale : (s.relocate (relocation image)).acct p =
        (State.relocationBoundary s (s.setTimeStep (relocation image))).acct p := by
      rw [State.relocate_of_nonzero hnz]
      exact State.acct_congr (by simp) p
    rw [hstale, State.acct_relocationBoundary hl haccounts, howed, State.relocatedAcct]
    simp only [s.boundariesOwed_ne_iff, hnz, ne_eq, not_false_eq_true, true_and]
    rfl

end Sys2Proof.Machine
end

section
/-! PROOFS. The pool values of an image (R31, R32, R100, R104, R165). -/

namespace Sys2Proof.Machine

open Host

variable {s t u : State} {image : List Word}

/-! ### Accounts that respond along the way (R31, R32) -/

/-- A flag that has been set was raised, and a ceiling that has risen, or a flag that was cleared, has asked for a pass. -/
structure Followed (s t : State) : Prop where
  raised : ∀ p, (s.acct p).overcommit = false → (t.acct p).overcommit = true → t.eventPending .poolOvercommit = true
  asked : ∀ p, s.ceiling p < t.ceiling p ∨ s.effectiveCeiling p < t.effectiveCeiling p ∨
    ((s.acct p).overcommit = true ∧ (t.acct p).overcommit = false) → p ∈ t.queues.marks

theorem Followed.trans (h : Followed s u) (h' : Followed u t) (hm : ∀ p, p ∈ u.queues.marks → p ∈ t.queues.marks)
    (he : u.eventPending .poolOvercommit = true → t.eventPending .poolOvercommit = true) : Followed s t := by
  refine ⟨fun p hs ht => ?_, fun p hp => ?_⟩
  · cases hu : (u.acct p).overcommit with
    | false => exact h'.raised p hu ht
    | true => exact he (h.raised p hs hu)
  · by_cases hlater : u.ceiling p < t.ceiling p ∨ u.effectiveCeiling p < t.effectiveCeiling p ∨
      ((u.acct p).overcommit = true ∧ (t.acct p).overcommit = false)
    · exact h'.asked p hlater
    · refine hm p (h.asked p ?_)
      obtain ⟨hc, hf, ho⟩ := not_or.1 hlater |>.imp_right not_or.1
      rcases hp with hp | hp | ⟨hp, ht⟩
      · exact .inl (by omega)
      · exact .inr (.inl (by omega))
      · exact .inr (.inr ⟨hp, Bool.eq_false_iff.2 fun hu => ho ⟨hu, ht⟩⟩)

/-- Accounts with D, the state and the flag as they were, and the same record and link, have nothing to respond to. -/
theorem Followed.of_same (hb : t.banks = s.banks) (hl : t.link = s.link)
    (ha : ∀ p, (t.acct p).d = (s.acct p).d ∧ (t.acct p).state = (s.acct p).state ∧ (t.acct p).overcommit = (s.acct p).overcommit) :
    Followed s t := by
  refine ⟨fun p hs ht => ?_, fun p hp => ?_⟩
  · rw [(ha p).2.2, hs] at ht
    cases ht
  · obtain ⟨hd, hst, ho⟩ := ha p
    rw [State.ceiling_congr hb p hd, State.effectiveCeiling_congr hb (by rw [hl]) p hd hst, ho] at hp
    rcases hp with hp | hp | ⟨hp, hp'⟩
    · omega
    · omega
    · rw [hp] at hp'
      cases hp'

/-! ### One summary (R102 to R104) -/

section

variable {m : DelegationState} (hm : m = .shared ∨ m = .sole) (p d : Nat)

theorem State.delegatePool_frame (s : State) (p d : Nat) (m : DelegationState) : ImageFrame s (s.delegatePool p d m) := by
  have hnoticing : Noticing s (s.delegatePool p d m) :=
    (Noticing.of_kept (t := s.modAcct p (fun a => a.delegated d m)) rfl rfl).trans (State.respond_noticing _ _ _)
  exact ⟨by simp, by simp, by simp, by simp, by simp, by simp, by simp, by simp, by simp, hnoticing, s.delegatePool_heldBack p d m,
    fun q hq => (State.mem_marks_respond ..).2 (.inl hq), fun e he => State.eventPending_respond_mono s he⟩

@[simp] theorem State.entries_delegatePool (s : State) (p d : Nat) (m : DelegationState) :
    (s.delegatePool p d m).queues.entries = s.queues.entries := State.entries_respond ..

include hm

theorem State.delegatePool_followed (s : State) (p d : Nat) : Followed s (s.delegatePool p d m) := by
  have hother (q : Nat) (hq : p ≠ q) : (s.delegatePool p d m).acct q = s.acct q := by rw [State.acct_delegatePool hm, if_neg hq]
  have hpool := State.acct_delegatePool hm s p d p
  rw [if_pos rfl] at hpool
  obtain ⟨hraises, hrises⟩ := State.delegatePool_responds hm s p d
  refine ⟨fun q hs ht => ?_, fun q hq => ?_⟩
  · by_cases hpq : p = q
    · subst hpq
      rw [hpool] at ht
      exact hraises hs (of_decide_eq_true ht)
    · rw [hother q hpq, hs] at ht
      cases ht
  · by_cases hpq : p = q
    · subst hpq
      rcases hq with hq | hq | ⟨hs, ht⟩
      · exact hrises (.inl hq)
      · exact hrises (.inr hq)
      · rw [hpool] at ht
        have hle := of_decide_eq_false ht
        have hmod : (s.modAcct p (fun a => a.delegated d m)).acct p =
            { s.acct p with state := m, d, reported := (s.acct p).h, gap := false, peak := (s.acct p).h - d } := by
          rw [State.acct_modAcct, if_pos rfl, Account.delegated_eq d hm]
        have heff : (s.delegatePool p d m).effectiveCeiling p = (s.modAcct p (fun a => a.delegated d m)).effectiveCeiling p :=
          State.effectiveCeiling_congr (by simp) (by simp) p (by rw [hpool, hmod]) (by rw [hpool, hmod])
        refine (State.mem_marks_respond ..).2 (.inr ⟨rfl, ?_, .inr (.inr ⟨?_, ?_⟩)⟩)
        · rw [hmod]
          rcases hm with rfl | rfl <;> simp
        · rw [hmod]
          exact hs
        · rwa [← heff, hmod]
    · have hsame := hother q hpq
      have hc : (s.delegatePool p d m).ceiling q = s.ceiling q := State.ceiling_congr (by simp) q (by rw [hsame])
      have he : (s.delegatePool p d m).effectiveCeiling q = s.effectiveCeiling q :=
        State.effectiveCeiling_congr (by simp) (by simp) q (by rw [hsame]) (by rw [hsame])
      rw [hc, he, hsame] at hq
      rcases hq with hq | hq | ⟨hs, ht⟩
      · omega
      · omega
      · rw [hs] at ht
        cases ht

end

/-! ### Every summary (R165) -/

/-- The pool of a summary. -/
def summaryPool (image : List Word) (i : Nat) : Nat := imageWord image (16 + 8 * i)

/-- The mode of a summary. -/
def summaryMode (image : List Word) (i : Nat) : DelegationState := if imageWord image (16 + 8 * i + 3) = 1 then .shared else .sole

theorem summaryMode_cases (image : List Word) (i : Nat) : summaryMode image i = .shared ∨ summaryMode image i = .sole := by
  rw [summaryMode]
  split
  · exact .inl rfl
  · exact .inr rfl

theorem summaryMode_shared_iff {i : Nat} : summaryMode image i = .shared ↔ imageWord image (16 + 8 * i + 3) = 1 := by
  rw [summaryMode]
  split <;> simp_all

/-- An account under a summary: D and the mode, settled, with its overcommit flag (R104, R165). -/
def Account.summarised (a : Account) (image : List Word) (i : Nat) (flag : Bool) : Account :=
  { a with
    d := imageWord image (16 + 8 * i + 2), state := summaryMode image i, reported := a.h, gap := false,
    peak := a.h - imageWord image (16 + 8 * i + 2), overcommit := flag }

theorem State.acct_applySummary (s : State) (image : List Word) (i p : Nat) :
    (s.applySummary image i).acct p =
      if summaryPool image i = p then
        (s.acct p).summarised image i (decide ((s.applySummary image i).effectiveCeiling p < (s.acct p).h))
      else s.acct p := by
  have h := State.acct_delegatePool (summaryMode_cases image i) s (summaryPool image i) (imageWord image (16 + 8 * i + 2)) p
  refine h.trans ?_
  by_cases hp : summaryPool image i = p
  · subst hp
    rw [if_pos rfl, if_pos rfl]
    rfl
  · rw [if_neg hp, if_neg hp]

/-- The summaries before the `n`th, one after another. -/
def State.applyFirst (image : List Word) (n : Nat) (s : State) : State := (List.range n).foldl (State.applySummary image) s

theorem State.applyFirst_succ (s : State) (n : Nat) : s.applyFirst image (n + 1) = (s.applyFirst image n).applySummary image n := by
  simp [State.applyFirst, List.range_succ]

/-- What the pool values leave alone, and how the accounts respond to them. -/
theorem State.applyFirst_frame (s : State) (n : Nat) :
    ImageFrame s (s.applyFirst image n) ∧ Followed s (s.applyFirst image n) ∧ (s.applyFirst image n).holds = s.holds ∧
      (s.applyFirst image n).time = s.time ∧ (s.applyFirst image n).queues.entries = s.queues.entries := by
  induction n with
  | zero => exact ⟨.refl s, .of_same rfl rfl fun _ => ⟨rfl, rfl, rfl⟩, rfl, rfl, rfl⟩
  | succ n ih =>
    obtain ⟨hframe, hfollowed, hholds, htime, hentries⟩ := ih
    have hstep : ImageFrame (s.applyFirst image n) ((s.applyFirst image n).applySummary image n) := State.delegatePool_frame _ _ _ _
    rw [State.applyFirst_succ]
    exact ⟨hframe.trans hstep, hfollowed.trans (State.delegatePool_followed (summaryMode_cases image n) _ _ _) hstep.marks (hstep.events _),
      (by simp [State.applySummary] : _ = (s.applyFirst image n).holds).trans hholds,
      (by simp [State.applySummary] : _ = (s.applyFirst image n).time).trans htime,
      (State.entries_delegatePool ..).trans hentries⟩

/-- Whichever summaries name a pool, its account keeps what a summary does not set. -/
theorem State.acct_applyFirst_kept (s : State) (n p : Nat) :
    ∃ i flag, (s.applyFirst image n).acct p = s.acct p ∨ (s.applyFirst image n).acct p = (s.acct p).summarised image i flag := by
  induction n with
  | zero => exact ⟨0, false, .inl rfl⟩
  | succ n ih =>
    rw [State.applyFirst_succ, State.acct_applySummary]
    by_cases hp : summaryPool image n = p
    · rw [if_pos hp]
      obtain ⟨i, flag, h | h⟩ := ih
      · rw [h]
        exact ⟨_, _, .inr rfl⟩
      · rw [h]
        exact ⟨_, _, .inr rfl⟩
    · rw [if_neg hp]
      exact ih

/-- The account of each pool under the summaries: as it was, or as the last that names it leaves it. -/
theorem State.acct_applyFirst (s : State) (n p : Nat) :
    ((∀ i, i < n → summaryPool image i ≠ p) → (s.applyFirst image n).acct p = s.acct p) ∧
      (∀ i, i < n → summaryPool image i = p → (∀ j, i < j → j < n → summaryPool image j ≠ p) →
        (s.applyFirst image n).acct p =
          (s.acct p).summarised image i (decide ((s.applyFirst image n).effectiveCeiling p < (s.acct p).h))) := by
  induction n with
  | zero => exact ⟨fun _ => rfl, fun i hi => absurd hi (Nat.not_lt_zero i)⟩
  | succ n ih =>
    obtain ⟨hnone, hlast⟩ := ih
    have hframe : ImageFrame (s.applyFirst image n) (s.applyFirst image (n + 1)) := by
      rw [State.applyFirst_succ]
      exact State.delegatePool_frame _ _ _ _
    have hstep := (s.applyFirst image n).acct_applySummary image n p
    rw [← State.applyFirst_succ] at hstep
    by_cases hp : summaryPool image n = p
    · refine ⟨fun h => absurd hp (h n n.lt_succ_self), fun i hi hip hlater => ?_⟩
      have hin : i = n := by
        refine Classical.byContradiction fun hne => ?_
        exact hlater n (by omega) n.lt_succ_self hp
      subst hin
      rw [if_pos hp] at hstep
      obtain ⟨j, flag, h | h⟩ := s.acct_applyFirst_kept (image := image) i p
      · rw [hstep, h]
      · rw [hstep, h]
        rfl
    · rw [if_neg hp] at hstep
      refine ⟨fun h => hstep.trans (hnone fun i hi => h i (by omega)), fun i hi hip hlater => ?_⟩
      have hin : i < n := by
        rcases Nat.lt_succ_iff_lt_or_eq.1 hi with hi | rfl
        · exact hi
        · exact absurd hip hp
      rw [State.effectiveCeiling_congr hframe.banks (by rw [hframe.link]) p (by rw [hstep]) (by rw [hstep]), hstep]
      exact hlast i hin hip fun j hij hj => hlater j hij (by omega)

end Sys2Proof.Machine
end

section
/-! PROOFS. The queue action and the engine state of an image (R43, R95, R166). -/

namespace Sys2Proof.Machine

open Host

variable {s t u : State} {image : List Word}

/-! ### What the actions leave alone -/

/-- What the queue action and the engine state of an image leave alone: all but the wait store's entries, the queue lengths, the
replies, the forwards and what is sent and counted with them. -/
structure ActionFrame (s t : State) : Prop where
  banks : t.banks = s.banks
  link : t.link = s.link
  time : t.time = s.time
  holds : t.holds = s.holds
  reserved : t.reserved = s.reserved
  deferred : t.deferred = s.deferred
  pending : t.pending = s.pending
  clk : t.clk = s.clk
  intake : t.farm.intake = s.farm.intake
  bridge : t.farm.bridge = s.farm.bridge
  params : t.mgmt.params = s.mgmt.params
  notify : t.mgmt.notify = s.mgmt.notify
  events : t.mgmt.events = s.mgmt.events
  svcIntake : t.svc.intake = s.svc.intake
  peer : t.svc.peer = s.svc.peer
  marks : t.queues.marks = s.queues.marks
  reports : t.reportCount = s.reportCount
  account : ∀ p, ∃ n, t.acct p = { s.acct p with queueLength := n }

theorem State.setMode_actionFrame (s : State) (m : EngineState) : ActionFrame s (s.setMode m) :=
  ⟨rfl, rfl, rfl, rfl, rfl, rfl, rfl, rfl, rfl, rfl, rfl, rfl, rfl, rfl, rfl, rfl, rfl, fun p => ⟨(s.acct p).queueLength, rfl⟩⟩

theorem State.dropImage_actionFrame (s : State) : ActionFrame s s.dropImage :=
  ⟨rfl, rfl, rfl, rfl, rfl, rfl, rfl, rfl, rfl, rfl, rfl, rfl, rfl, rfl, rfl, rfl, rfl, fun p => ⟨(s.acct p).queueLength, rfl⟩⟩

theorem ActionFrame.trans (h : ActionFrame s u) (h' : ActionFrame u t) : ActionFrame s t :=
  ⟨h'.banks.trans h.banks, h'.link.trans h.link, h'.time.trans h.time, h'.holds.trans h.holds, h'.reserved.trans h.reserved,
    h'.deferred.trans h.deferred, h'.pending.trans h.pending, h'.clk.trans h.clk, h'.intake.trans h.intake, h'.bridge.trans h.bridge,
    h'.params.trans h.params, h'.notify.trans h.notify, h'.events.trans h.events, h'.svcIntake.trans h.svcIntake, h'.peer.trans h.peer,
    h'.marks.trans h.marks, h'.reports.trans h.reports, fun p => by
      obtain ⟨n, hn⟩ := h'.account p
      obtain ⟨m, hm⟩ := h.account p
      exact ⟨n, by rw [hn, hm]⟩⟩

theorem State.withdrawAll_actionFrame (s : State) (es : List WaitEntry) : ActionFrame s (s.dismissAll .withdrawn es) := by
  have hmgmt := State.dismissAll_uncounted (b := .withdrawn) (fun _ => rfl) es s
  obtain ⟨hqueues, haccts⟩ := (unlinks_dismiss .withdrawn).foldl es s
  have hmarks := congrArg QueueManager.marks hqueues
  exact ⟨by simp, by simp, by simp, by simp, by simp, by simp, by simp, by simp, by simp, by simp, by simp, by simp, by rw [hmgmt],
    by simp, by simp, hmarks, by simp [State.reportCount], fun p => ⟨_, haccts p⟩⟩

/-- The entries that a drain finds, in their order, and what it does with each. -/
theorem State.enterDraining_actionFrame (s : State) : ActionFrame s s.enterDraining := by
  have hfold := s.enterDraining_eq
  obtain ⟨hqueues, haccts⟩ := (unlinks_handOn s.drainAnswer).foldl s.entriesByPool (s.setMode .draining)
  obtain ⟨hsvc, -, hmgmt, -⟩ := State.handOnAll_adds s.drainAnswer_uncounted rfl hfold
  rw [← hfold] at hqueues haccts
  have hmarks := congrArg QueueManager.marks hqueues
  refine ⟨by simp, by simp, by simp, by simp, by simp, by simp, by simp, by simp, by simp, by simp, by simp, by simp, by rw [hmgmt]; rfl,
    by simp, by simp, hmarks, ?_, fun p => ⟨_, haccts p⟩⟩
  have hnone : ∀ es : List WaitEntry,
      (es.map ((s.setMode .draining).handedOn (s.setMode .draining).ownEth)).filter UpEntry.isReport = [] := fun es => by
    simp [List.filter_eq_nil_iff, State.handedOn, UpEntry.isReport]
  rw [State.reportCount, State.reportCount, hsvc, List.filter_append, hnone, List.append_nil]
  rfl

/-! ### The three actions (R43, R95, R166) -/

theorem State.enterDraining_of_empty (h : s.queues.entries = []) : s.enterDraining = s.setMode .draining := by
  simp [State.enterDraining, State.entriesByPool, State.waitingPools, h]

theorem State.entries_withdrawAll (s : State) : (s.dismissAll .withdrawn s.entriesByPool).queues.entries = [] := by
  have h : s.dismissAll .withdrawn s.entriesByPool = s.entriesByPool.foldl (fun t e => t.dismiss .withdrawn e) s := rfl
  rw [(unlinks_dismiss .withdrawn).emptied_store h]

theorem State.entries_enterDraining (s : State) : s.enterDraining.queues.entries = [] := by
  have h : s.enterDraining = (s.setMode .draining).entriesByPool.foldl (fun t e => t.handOn s.drainAnswer e) (s.setMode .draining) :=
    s.enterDraining_eq
  rw [(unlinks_handOn s.drainAnswer).emptied_store h]

/-- What an image does once its values have been applied. -/
def State.actedOn (image : List Word) (s : State) : State := ((s.queueAction image).resumeState image).dropImage

theorem State.actedOn_of_flush (h : imageWord image 6 = 1) :
    s.actedOn image =
      ((s.dismissAll .withdrawn s.entriesByPool).setMode (if imageWord image 5 = 1 then .draining else .serving)).dropImage := by
  rw [State.actedOn, State.queueAction, if_pos h, State.resumeState]
  split
  · rw [State.enterDraining_of_empty s.entries_withdrawAll]
  · rfl

theorem State.actedOn_of_keep (h6 : imageWord image 6 ≠ 1) (h5 : imageWord image 5 ≠ 1) :
    s.actedOn image = (s.setMode .serving).dropImage := by
  rw [State.actedOn, State.queueAction, if_neg h6, State.resumeState, if_neg h5]

theorem State.actedOn_of_drain (h6 : imageWord image 6 ≠ 1) (h5 : imageWord image 5 = 1) :
    s.actedOn image = s.enterDraining.dropImage := by
  rw [State.actedOn, State.queueAction, if_neg h6, State.resumeState, if_pos h5]

/-- What every action leaves alone. -/
theorem State.actedOn_frame (s : State) (image : List Word) : ActionFrame s (s.actedOn image) := by
  by_cases h6 : imageWord image 6 = 1
  · rw [State.actedOn_of_flush h6]
    exact (s.withdrawAll_actionFrame _).trans ((State.setMode_actionFrame _ _).trans (State.dropImage_actionFrame _))
  · by_cases h5 : imageWord image 5 = 1
    · rw [State.actedOn_of_drain h6 h5]
      exact s.enterDraining_actionFrame.trans (State.dropImage_actionFrame _)
    · rw [State.actedOn_of_keep h6 h5]
      exact (s.setMode_actionFrame _).trans (State.dropImage_actionFrame _)

/-- The engine state that an image sets, its invalid image, and the store that a FLUSH or a drain empties. -/
theorem State.actedOn_sets (s : State) (image : List Word) :
    (s.actedOn image).mode = (if imageWord image 5 = 1 then .draining else .serving) ∧
      (s.actedOn image).recon = { s.recon with image := none } ∧
      (imageWord image 6 = 1 ∨ imageWord image 5 = 1 → (s.actedOn image).queues.entries = []) := by
  by_cases h6 : imageWord image 6 = 1
  · rw [State.actedOn_of_flush h6]
    exact ⟨rfl, by simp [State.dropImage], fun _ => s.entries_withdrawAll⟩
  · by_cases h5 : imageWord image 5 = 1
    · rw [State.actedOn_of_drain h6 h5, if_pos h5]
      obtain ⟨hmode, -⟩ := State.handOnAll_kept _ _ _ s.enterDraining_eq
      exact ⟨hmode, by simp [State.dropImage], fun _ => s.entries_enterDraining⟩
    · rw [State.actedOn_of_keep h6 h5, if_neg h5]
      exact ⟨rfl, rfl, fun h => absurd h (not_or.2 ⟨h6, h5⟩)⟩

/-! ### The entries that the actions find -/

/-- A change of the entries that keeps their pools keeps their order. -/
theorem State.entriesByPool_of_map {g : WaitEntry → WaitEntry} (hg : ∀ e, (g e).pool = e.pool)
    (h : t.queues.entries = s.queues.entries.map g) : t.entriesByPool = s.entriesByPool.map g ∧ ∀ p, t.poolQueue p = (s.poolQueue p).map g := by
  have hpool (p : Nat) : t.poolQueue p = (s.poolQueue p).map g := by
    simp only [State.poolQueue, h, List.filter_map, Function.comp_def, hg]
  have hpools : t.waitingPools = s.waitingPools := by simp only [State.waitingPools, h, List.foldl_map, hg]
  refine ⟨?_, hpool⟩
  rw [State.entriesByPool, State.entriesByPool, hpools, List.map_flatMap, funext hpool]

/-- The answers to entries go by their addresses and keys. -/
theorem AnswersAll.of_map {g : WaitEntry → WaitEntry} {b : FarmBody} {es : List WaitEntry}
    (hg : ∀ e, (g e).addrs = e.addrs ∧ (g e).key = e.key) (h : AnswersAll s t ((es.map g).map (fun e => (e, b)))) :
    AnswersAll s t (es.map (fun e => (e, b))) := by
  simpa only [AnswersAll, List.map_map, Function.comp_def, fun e => (hg e).1, fun e => (hg e).2, List.length_map] using h

end Sys2Proof.Machine
end

section
/-! PROOFS. A valid image applied up to the slots (R43, R100, R104, R165, R166). -/

namespace Sys2Proof.Machine

open Host

variable {s t : State} {f : Frame} {k : Key} {image : List Word}

/-! ### The values (R165) -/

theorem State.resumeValues_eq (s : State) (image : List Word) :
    s.resumeValues image = (s.relocate (relocation image)).applyFirst image (summaryCount image) := rfl

/-- What the values of a valid image leave, but for the accounts. -/
theorem State.resumeValues_leaves (hv : imageFault s.time.now image = none) (ht : t = s.resumeValues image) :
    ImageFrame s t ∧ t.time = s.relocatedTime image ∧
      t.holds = { s.holds with slots := s.holds.slots.map (fun e => (e.1, s.relocatedHold image e.2)) } ∧
      t.queues.entries = s.steppedEntries (relocation image) ∧
      (relocation image ≠ 0 → s.time.source = .unset → t.eventPending .timeSet = true) := by
  obtain ⟨hframe, htime, hholds, hqueues, hset⟩ := State.relocate_leaves hv rfl
  obtain ⟨hvframe, -, hvholds, hvtime, hventries⟩ :=
    (s.relocate (relocation image)).applyFirst_frame (image := image) (summaryCount image)
  rw [← State.resumeValues_eq, ← ht] at hvframe hvholds hvtime hventries
  exact ⟨hframe.trans hvframe, hvtime.trans htime, hvholds.trans hholds, hventries.trans (by rw [hqueues]),
    fun hnz hs => hvframe.events _ (hset hnz hs)⟩

theorem State.relocatedAcct_figures (s : State) (image : List Word) (p : Nat) :
    (s.relocatedAcct image p).d = (s.acct p).d ∧ (s.relocatedAcct image p).state = (s.acct p).state ∧
      (s.relocatedAcct image p).h = (s.acct p).h ∧ (s.relocatedAcct image p).overcommit = (s.acct p).overcommit ∧
      (s.relocatedAcct image p).queueLength = (s.acct p).queueLength := by
  rw [State.relocatedAcct]
  split <;> exact ⟨rfl, rfl, rfl, rfl, rfl⟩

/-- The accounts under the values of an image. -/
theorem State.acct_resumeValues (hl : AccountsListed s) (hv : imageFault s.time.now image = none) (p : Nat) :
    ((∀ i, i < summaryCount image → summaryPool image i ≠ p) → (s.resumeValues image).acct p = s.relocatedAcct image p) ∧
      (∀ i, i < summaryCount image → summaryPool image i = p →
        (∀ j, i < j → j < summaryCount image → summaryPool image j ≠ p) →
        (s.resumeValues image).acct p =
          (s.relocatedAcct image p).summarised image i (decide ((s.resumeValues image).effectiveCeiling p < (s.acct p).h))) := by
  have h := (s.relocate (relocation image)).acct_applyFirst (image := image) (summaryCount image) p
  rw [State.acct_relocate hl hv] at h
  obtain ⟨-, -, hh, -⟩ := s.relocatedAcct_figures image p
  rw [hh] at h
  exact h

/-- D and the mode of the last summary that names a pool. -/
theorem State.acct_resumeValues_mode (s : State) {i : Nat} (hi : i < summaryCount image)
    (hlast : ∀ j, i < j → j < summaryCount image → summaryPool image j ≠ summaryPool image i) :
    ((s.resumeValues image).acct (summaryPool image i)).d = imageWord image (16 + 8 * i + 2) ∧
      ((s.resumeValues image).acct (summaryPool image i)).state = summaryMode image i := by
  obtain ⟨-, h⟩ := (s.relocate (relocation image)).acct_applyFirst (image := image) (summaryCount image) (summaryPool image i)
  rw [State.resumeValues_eq, h i hi rfl hlast]
  exact ⟨rfl, rfl⟩

theorem State.resumeValues_followed (hl : AccountsListed s) (hv : imageFault s.time.now image = none) :
    Followed s (s.resumeValues image) := by
  obtain ⟨hframe, -⟩ := State.relocate_leaves hv rfl
  obtain ⟨hvframe, hfollowed, -⟩ := (s.relocate (relocation image)).applyFirst_frame (image := image) (summaryCount image)
  refine (Followed.of_same hframe.banks hframe.link fun p => ?_).trans hfollowed hvframe.marks (hvframe.events _)
  obtain ⟨hd, hs, -, ho, -⟩ := s.relocatedAcct_figures image p
  rw [State.acct_relocate hl hv]
  exact ⟨hd, hs, ho⟩

theorem Account.queueLength_summarised (a : Account) (i : Nat) (flag : Bool) :
    (a.summarised image i flag).queueLength = a.queueLength := rfl

/-- An account under a summary, with the length of its queue. -/
theorem Account.summarised_counted (a : Account) (i n : Nat) (flag : Bool) :
    { a.summarised image i flag with queueLength := n } =
      { a with
        d := imageWord image (16 + 8 * i + 2), state := if imageWord image (16 + 8 * i + 3) = 1 then .shared else .sole,
        reported := a.h, gap := false, peak := a.h - imageWord image (16 + 8 * i + 2), overcommit := flag, queueLength := n } := rfl

theorem State.queueLength_resumeValues (hl : AccountsListed s) (hv : imageFault s.time.now image = none) (p : Nat) :
    ((s.resumeValues image).acct p).queueLength = (s.acct p).queueLength := by
  obtain ⟨-, -, -, -, hq⟩ := s.relocatedAcct_figures image p
  obtain ⟨i, flag, h | h⟩ := (s.relocate (relocation image)).acct_applyFirst_kept (image := image) (summaryCount image) p
  · rw [State.resumeValues_eq, h, State.acct_relocate hl hv, hq]
  · rw [State.resumeValues_eq, h, State.acct_relocate hl hv, Account.queueLength_summarised, hq]

/-! ### The entries that the values leave (R93) -/

/-- An entry once a step to a time has or has not passed its wait deadline. -/
def State.steppedEntry (s : State) (new : Nat) (e : WaitEntry) : WaitEntry :=
  { e with stepPassed := e.stepPassed || decide (s.time.now < new ∧ e.deadline ≤ new) }

theorem State.steppedEntries_eq (s : State) (new : Nat) : s.steppedEntries new = s.queues.entries.map (s.steppedEntry new) := rfl

theorem State.resumeValues_counted (h : QueuesCounted s) (hl : AccountsListed s) (hv : imageFault s.time.now image = none) :
    QueuesCounted (s.resumeValues image) := by
  obtain ⟨hframe, -, -, hentries, -⟩ := State.resumeValues_leaves hv rfl
  obtain ⟨hkeys, hlen, hcount⟩ := h
  rw [State.steppedEntries_eq] at hentries
  obtain ⟨-, hpool⟩ := State.entriesByPool_of_map (g := s.steppedEntry (relocation image)) (fun _ => rfl) hentries
  refine ⟨?_, ?_, fun p => ?_⟩
  · rw [KeysUnique, hentries, hframe.fwd, List.map_map]
    exact hkeys
  · rwa [hentries, List.length_map]
  · rw [State.queueLength_resumeValues hl hv, hcount, hpool, List.length_map]

/-! ### The queue lengths under the actions (R81) -/

theorem State.actedOn_counted (h : QueuesCounted s) (p : Nat) :
    ((s.actedOn image).acct p).queueLength = ((s.actedOn image).poolQueue p).length := by
  have hempty : ∀ {t : State}, t.queues.entries = [] → t.poolQueue p = [] := fun h => by rw [State.poolQueue, h]; rfl
  obtain ⟨-, -, hnone⟩ := s.actedOn_sets image
  by_cases h6 : imageWord image 6 = 1
  · obtain ⟨-, haccts⟩ := (unlinks_dismiss .withdrawn).emptied h rfl
    rw [hempty (hnone (.inl h6)), State.actedOn_of_flush h6]
    exact congrArg Account.queueLength (haccts p)
  · by_cases h5 : imageWord image 5 = 1
    · obtain ⟨-, haccts⟩ := (unlinks_handOn s.drainAnswer).emptied (s := s.setMode .draining) h s.enterDraining_eq
      rw [hempty (hnone (.inr h5)), State.actedOn_of_drain h6 h5]
      exact congrArg Account.queueLength (haccts p)
    · rw [State.actedOn_of_keep h6 h5]
      exact h.2.2 p

/-! ### The image applied -/

/-- A valid image applied up to the slots. -/
def State.underImage (image : List Word) (s : State) : State := (s.resumeValues image).actedOn image

/-- The values that a valid image leaves (R100, R104, R165). -/
theorem State.underImage_values (hl : AccountsListed s) (hc : QueuesCounted s) (hv : imageFault s.time.now image = none) :
    ImageValues s (s.underImage image) image := by
  obtain ⟨hframe, htime, hholds, -, hset⟩ := State.resumeValues_leaves hv rfl
  have haction := (s.resumeValues image).actedOn_frame image
  have hcounted := fun p => State.actedOn_counted (image := image) (State.resumeValues_counted hc hl hv) p
  have hfollowed := State.resumeValues_followed hl hv
  have hacct := fun p => State.acct_resumeValues hl hv p
  have hevents : ∀ e, ((s.resumeValues image).actedOn image).eventPending e = (s.resumeValues image).eventPending e := fun e => by
    rw [State.eventPending, haction.events, State.eventPending]
  rw [State.underImage]
  generalize s.resumeValues image = v at hframe htime hholds hset haction hcounted hfollowed hacct hevents
  generalize v.actedOn image = a at haction hcounted hevents
  have hlength (p : Nat) : a.acct p = { v.acct p with queueLength := (a.poolQueue p).length } := by
    obtain ⟨n, hn⟩ := haction.account p
    have := hcounted p
    rw [hn] at this ⊢
    rw [← this]
  have hceiling (p : Nat) : a.effectiveCeiling p = v.effectiveCeiling p :=
    State.effectiveCeiling_congr haction.banks (by rw [haction.link]) p (by rw [hlength]) (by rw [hlength])
  have hafollowed : Followed s a :=
    hfollowed.trans (.of_same haction.banks haction.link fun p => by rw [hlength]; exact ⟨rfl, rfl, rfl⟩)
      (fun p hp => by rwa [haction.marks]) (fun he => by rwa [hevents])
  refine ⟨haction.time.trans htime, haction.holds.trans hholds, fun p hp => ?_, fun p i hi hip hlast => ?_, hafollowed.raised,
    hafollowed.asked, fun p hp => ?_, fun hnz hs => ?_⟩
  · rw [hlength, (hacct p).1 hp]
  · obtain ⟨-, -, hh, -⟩ := s.relocatedAcct_figures image p
    rw [hlength, (hacct p).2 i hi hip hlast, hceiling]
    rw [Account.summarised_counted, ← hh]
  · rw [haction.marks]
    exact hframe.marks p hp
  · rw [hevents]
    exact hset hnz hs

end Sys2Proof.Machine
end

section
/-! PROOFS. A valid image applied under a RESUME that has been taken: its queue action and engine state (R43, R95, R166). -/

namespace Sys2Proof.Machine

open Host

variable {s t v : State} {f : Frame} {k : Key} {image : List Word}

/-- A state that the values of an image left, the request `f` having been taken from `s`: the Service Port holds nothing new, and
every entry is as it was but for the mark that a step leaves on it. -/
structure ValuedUnder (s : State) (f : Frame) (image : List Word) (v : State) : Prop where
  svc : v.svc = s.svc.took f []
  fwd : v.fwd = s.fwd
  farm : v.farm = s.farm
  link : v.link = s.link
  banks : v.banks = s.banks
  recon : v.recon = s.recon
  reserved : v.reserved = 1
  pending : v.pending = s.pending
  clk : v.clk = s.clk
  params : v.mgmt.params = s.mgmt.params
  notify : v.mgmt.notify = s.mgmt.notify
  stats : v.mgmt.stats = s.mgmt.stats
  entries : v.queues.entries = s.queues.entries.map (s.steppedEntry (relocation image))
  held : ∃ notices, (∀ x ∈ notices, UpEntry.isNotice x = true) ∧ v.deferred = some notices

theorem State.valuedUnder (s : State) (f : Frame) (hv : imageFault s.time.now image = none) :
    ValuedUnder s f image ((s.managed f).resumeValues image) := by
  obtain ⟨hframe, -, -, hentries, -⟩ := State.resumeValues_leaves (s := s.managed f) hv rfl
  obtain ⟨hsvc, notices, hn, hd⟩ := hframe.held [] rfl
  obtain ⟨hparams, hnotify, hstats⟩ := hframe.params
  exact ⟨hsvc, hframe.fwd, hframe.farm, hframe.link, hframe.banks, hframe.recon, hframe.reserved, hframe.pending, hframe.clk, hparams,
    hnotify, hstats, hentries, notices, hn, hd⟩

/-! ### The three actions -/

section

variable (hv : ValuedUnder s f image v)

include hv

theorem ValuedUnder.entriesByPool : v.entriesByPool = s.entriesByPool.map (s.steppedEntry (relocation image)) :=
  (State.entriesByPool_of_map (g := s.steppedEntry (relocation image)) (fun _ => rfl) hv.entries).1

theorem ValuedUnder.flushed (h6 : imageWord image 6 = 1) :
    AnswersAll s (v.actedOn image) (s.entriesByPool.map (fun e => (e, FarmBody.withdrawn))) ∧ (v.actedOn image).fwd = s.fwd ∧
      (v.actedOn image).svc = s.svc.took f [] ∧ (v.actedOn image).mgmt.stats = s.mgmt.stats := by
  have hanswers := State.dismissAll_answers .withdrawn v.entriesByPool v
  have hmgmt := State.dismissAll_uncounted (b := .withdrawn) (fun _ => rfl) v.entriesByPool v
  rw [State.actedOn_of_flush h6]
  refine ⟨AnswersAll.of_map (g := s.steppedEntry (relocation image)) (fun _ => ⟨rfl, rfl⟩) ?_, ?_, ?_, ?_⟩
  · rw [← hv.entriesByPool]
    exact hanswers.congr hv.farm.symm (by rw [hv.params]) rfl
  · simp [State.dropImage, hv.fwd]
  · simp [State.dropImage, hv.svc]
  · simp [State.dropImage, hmgmt, hv.stats]

theorem ValuedUnder.kept (h6 : imageWord image 6 ≠ 1) (h5 : imageWord image 5 ≠ 1) :
    (v.actedOn image).queues.entries = s.queues.entries.map (s.steppedEntry (relocation image)) ∧ (v.actedOn image).farm = s.farm ∧
      (v.actedOn image).fwd = s.fwd ∧ (v.actedOn image).svc = s.svc.took f [] ∧ (v.actedOn image).mgmt.stats = s.mgmt.stats := by
  rw [State.actedOn_of_keep h6 h5]
  exact ⟨hv.entries, hv.farm, hv.fwd, hv.svc, hv.stats⟩

/-- How many of the entries find room. -/
theorem ValuedUnder.forwardPlaces :
    (v.setMode .draining).forwardPlaces =
      if s.link.state = .lost then 0
      else min (256 - s.fwd.entries.length) (min (992 - s.seatCount) (1023 - s.svc.upstream.length)) := by
  have hseat : (v.setMode .draining).seatCount = s.seatCount := by simp [State.seatCount, hv.svc, ServicePort.took]
  have hup : (v.setMode .draining).svc.upstream.length = s.svc.upstream.length := by simp [hv.svc, ServicePort.took]
  rw [State.forwardPlaces, hseat, hup, State.setMode_link, State.setMode_fwd, State.setMode_reserved, hv.link, hv.fwd, hv.reserved]
  split <;> omega

theorem ValuedUnder.drained (h6 : imageWord image 6 ≠ 1) (h5 : imageWord image 5 = 1) {n : Nat}
    (hn : n = if s.link.state = .lost then 0
      else min s.entriesByPool.length
        (min (256 - s.fwd.entries.length) (min (992 - s.seatCount) (1023 - s.svc.upstream.length)))) :
    AnswersAll s (v.actedOn image) ((s.entriesByPool.drop n).map (fun e => (e, s.drainAnswer))) ∧
      (v.actedOn image).fwd =
        { s.fwd with entries := s.fwd.entries ++ (s.entriesByPool.take n).map (v.actedOn image).handedForward } ∧
      (v.actedOn image).svc = s.svc.took f ((s.entriesByPool.take n).map ((v.actedOn image).handedOn (ethTo f s))) ∧
      (v.actedOn image).mgmt.stats = { s.mgmt.stats with forwards := counted s.mgmt.stats.forwards n } := by
  have hplaces : n = min v.entriesByPool.length (v.setMode .draining).forwardPlaces := by
    rw [hv.forwardPlaces, hv.entriesByPool, List.length_map, hn]
    split <;> omega
  have hframe := v.actedOn_frame image
  obtain ⟨hsvc, hfwd, hmgmt, hanswers⟩ := State.handOnAll_adds v.drainAnswer_uncounted hplaces v.enterDraining_eq
  have hbody : v.drainAnswer = s.drainAnswer := by rw [State.drainAnswer, State.drainAnswer, hv.link, hv.params]
  have hon : (v.actedOn image).handedOn = v.handedOn := State.handedOn_congr hframe.banks hframe.time
  have hforward : (v.actedOn image).handedForward = v.handedForward :=
    State.handedForward_congr hframe.banks hframe.time hframe.params
  have heth : (v.setMode .draining).ownEth = ethTo f s := by
    rw [State.ownEth, State.setMode_svc, hv.svc, State.setMode_mgmt, hv.params]
    rfl
  rw [hon, hforward, State.actedOn_of_drain h6 h5]
  rw [hv.entriesByPool, ← List.map_take, List.map_map, heth] at hsvc
  rw [hv.entriesByPool, ← List.map_take, List.map_map] at hfwd
  rw [hv.entriesByPool, ← List.map_drop, hbody] at hanswers
  have hall : AnswersAll (v.setMode .draining) v.enterDraining ((s.entriesByPool.drop n).map (fun e => (e, s.drainAnswer))) :=
    hanswers.of_map (g := s.steppedEntry (relocation image)) fun _ => ⟨rfl, rfl⟩
  refine ⟨hall.congr hv.farm.symm (by rw [State.setMode_mgmt, hv.params]) rfl, ?_, ?_, ?_⟩
  · refine hfwd.trans ?_
    rw [State.setMode_fwd, hv.fwd]
    rfl
  · refine hsvc.trans ?_
    rw [State.setMode_svc, hv.svc]
    simp [ServicePort.took]
    rfl
  · refine (congrArg Management.stats hmgmt).trans ?_
    rw [State.setMode_mgmt, hv.stats]

end

/-! ### The image applied -/

/-- The queue action and the engine state of a valid image. -/
theorem ValuedUnder.actions (hv : ValuedUnder s f image v) :
    ImageActions s (v.actedOn image) f image s.entriesByPool := by
  obtain ⟨hmode, hrecon, hempty⟩ := v.actedOn_sets image
  refine ⟨hmode, hrecon.trans (by rw [hv.recon]), fun h6 => ?_, fun h6 h5 => ?_, fun h6 h5 => ?_⟩
  · obtain ⟨hanswers, hfwd, hsvc, hstats⟩ := hv.flushed h6
    exact ⟨hempty (.inl h6), hanswers, hfwd, hsvc, hstats⟩
  · exact hv.kept h6 h5
  · obtain ⟨hanswers, hfwd, hsvc, hstats⟩ := hv.drained h6 h5 rfl
    exact ⟨_, rfl, hempty (.inr h5), hanswers, hfwd, hsvc, hstats⟩

/-- A valid image has been applied up to the slots. -/
theorem State.underImage_applied (f : Frame) (hl : AccountsListed s) (hc : QueuesCounted s)
    (hv : imageFault s.time.now image = none) : ImageApplied s ((s.managed f).underImage image) f image s.entriesByPool := by
  have hvalues := State.underImage_values (s := s.managed f) hl hc hv
  have hvalued := s.valuedUnder f hv
  have hframe := ((s.managed f).resumeValues image).actedOn_frame image
  exact ⟨hvalues, hvalued.actions, hframe.reserved.trans hvalued.reserved, hframe.banks.trans hvalued.banks,
    hframe.link.trans hvalued.link, hframe.intake.trans (by rw [hvalued.farm]), hframe.bridge.trans (by rw [hvalued.farm]),
    hframe.params.trans hvalued.params, hframe.notify.trans hvalued.notify, hframe.pending.trans hvalued.pending,
    hframe.clk.trans hvalued.clk⟩

end Sys2Proof.Machine
end

section
/-! PROOFS. The overdue holds of a RESUME: their order, and what their processing leaves (R67 to R70, R75). -/

namespace Sys2Proof.Machine

open Host

variable {s t u : State}

/-! ### The order of their processing (R75) -/

theorem pairwise_insertBy {α : Type} {key : α → Nat} {r : α → α → Prop} {a : α} {l : List α}
    (hl : l.Pairwise (fun x y => key x < key y ∨ (key x = key y ∧ r x y))) (ha : ∀ b ∈ l, r a b) :
    (insertBy key a l).Pairwise (fun x y => key x < key y ∨ (key x = key y ∧ r x y)) := by
  induction l with
  | nil => exact List.pairwise_singleton _ _
  | cons b l ih =>
    obtain ⟨hb, hrest⟩ := List.pairwise_cons.1 hl
    rw [insertBy]
    split
    · next hle =>
      have first : ∀ c ∈ b :: l, key a < key c ∨ (key a = key c ∧ r a c) := fun c hc => by
        have hbc : key b ≤ key c := by
          rcases List.mem_cons.1 hc with rfl | hc
          · exact Nat.le_refl _
          · rcases hb c hc with h | ⟨h, -⟩ <;> omega
        rcases Nat.lt_or_eq_of_le (Nat.le_trans hle hbc) with hlt | heq
        · exact .inl hlt
        · exact .inr ⟨heq, ha c hc⟩
      exact List.pairwise_cons.2 ⟨first, hl⟩
    · next hlt =>
      refine List.pairwise_cons.2 ⟨fun c hc => ?_, ih hrest fun c hc => ha c (List.mem_cons_of_mem _ hc)⟩
      rcases List.mem_cons.1 ((perm_insertBy key a l).mem_iff.1 hc) with rfl | hc
      · exact .inl (Nat.not_le.1 hlt)
      · exact hb c hc

/-- A sort keeps the order of what it does not tell apart. -/
theorem pairwise_sortBy {α : Type} {key : α → Nat} {r : α → α → Prop} {l : List α} (h : l.Pairwise r) :
    (sortBy key l).Pairwise (fun x y => key x < key y ∨ (key x = key y ∧ r x y)) := by
  induction l with
  | nil => exact List.Pairwise.nil
  | cons a l ih =>
    obtain ⟨ha, hl⟩ := List.pairwise_cons.1 h
    exact pairwise_insertBy (ih hl) fun b hb => ha b ((perm_sortBy key l).mem_iff.1 hb)

theorem State.overdue_ordered (h : SlotsListed s) : s.Overdue s.overdue := by
  refine ⟨fun e => ?_, pairwise_sortBy (h.1.filter _)⟩
  rw [State.mem_overdue, ← Table.mem_iff_get? h.1]
  exact and_congr_right fun _ => and_comm

/-! ### Notices held back while holds are removed (R184; log 16) -/

/-- Notices alone join those held back. -/
def DefersNotices (s t : State) : Prop :=
  ∀ l, s.deferred = some l → ∃ notices, (∀ x ∈ notices, UpEntry.isNotice x = true) ∧ t.deferred = some (l ++ notices)

theorem DefersNotices.of_kept (h : t.deferred = s.deferred) : DefersNotices s t := fun l hl =>
  ⟨[], by simp, by rw [h, hl, List.append_nil]⟩

theorem HeldBack.defers (h : HeldBack s t) : DefersNotices s t := fun l hl => (h l hl).2

theorem DefersNotices.trans (h : DefersNotices s u) (h' : DefersNotices u t) : DefersNotices s t := fun l hl => by
  obtain ⟨n1, hn1, hd1⟩ := h l hl
  obtain ⟨n2, hn2, hd2⟩ := h' _ hd1
  exact ⟨n1 ++ n2, fun x hx => (List.mem_append.1 hx).elim (hn1 x) (hn2 x), by rw [hd2, List.append_assoc]⟩

theorem State.setGap_defers (s : State) (p : Nat) : DefersNotices s (s.setGap p) := by
  rw [State.setGap]
  split
  · exact .of_kept rfl
  · exact (DefersNotices.of_kept (t := s.modAcct p (fun a => { a with gap := true })) rfl).trans (State.raise_heldBack _ _).defers

theorem State.reportRelease_defers (s : State) (p : Nat) (change : ChangeKind) (hold : Hold) (handle : Handle) (delta : Int) :
    DefersNotices s (s.reportRelease p change hold handle delta) := by
  rw [State.reportRelease]
  split
  · exact .of_kept rfl
  · exact s.setGap_defers p

theorem State.credit_defers (s : State) (p : Nat) (change : ChangeKind) (hold : Hold) (handle : Handle) :
    DefersNotices s (s.credit p change hold handle) := by
  have hevaluated : DefersNotices s ((s.modAcct p (fun a => a.credited hold.tokens)).reevaluate p) :=
    (DefersNotices.of_kept (t := s.modAcct p (fun a => a.credited hold.tokens)) rfl).trans (State.reevaluate_heldBack _ p).defers
  simp only [State.credit]
  generalize (s.modAcct p (fun a => a.credited hold.tokens)).reevaluate p = v at hevaluated
  have hreported : DefersNotices s (if (s.acct p).state = .shared then v.reportRelease p change hold handle (-(Int.ofNat hold.tokens))
      else v) := by
    split
    · exact hevaluated.trans (v.reportRelease_defers p change hold handle _)
    · exact hevaluated
  split
  · exact hreported.trans (State.accountAsks_heldBack _ p).defers
  · exact hreported

theorem State.removeHold_defers (s : State) (slot : Nat) (hold : Hold) (change : ChangeKind) :
    DefersNotices s (s.removeHold slot hold change) :=
  (DefersNotices.of_kept (t := s.freeSlot slot) rfl).trans
    (((s.freeSlot slot).credit_defers hold.pool change hold (s.handleAt slot)).trans
      (.of_kept (t := s.removeHold slot hold change) (by simp [State.removeHold])))

theorem State.endHold_defers (s : State) (slot : Nat) (hold : Hold) : DefersNotices s (s.endHold slot hold) := by
  rw [State.endHold]
  split
  · exact .of_kept rfl
  · exact (s.removeHold_defers slot hold .reclaim).trans (.of_kept rfl)
  · exact s.removeHold_defers slot hold .lingerEnd

/-! ### What a removal leaves of a delegation (R22, R109) -/

/-- Every account keeps D, and is SHARED as it was. -/
def SameDelegation (s t : State) : Prop := ∀ p, (t.acct p).d = (s.acct p).d ∧ ((t.acct p).state = .shared ↔ (s.acct p).state = .shared)

theorem SameDelegation.of_accounts (h : t.accounts = s.accounts) : SameDelegation s t := fun p => by
  rw [State.acct_congr h]
  exact ⟨rfl, Iff.rfl⟩

theorem SameDelegation.trans (h : SameDelegation s u) (h' : SameDelegation u t) : SameDelegation s t := fun p =>
  ⟨(h' p).1.trans (h p).1, (h' p).2.trans (h p).2⟩

theorem State.modAcct_sameDelegation (s : State) (p : Nat) {g : Account → Account}
    (hg : ∀ a, (g a).d = a.d ∧ ((g a).state = .shared ↔ a.state = .shared)) : SameDelegation s (s.modAcct p g) := fun q => by
  rw [State.acct_modAcct]
  split
  · next h => subst h; exact hg _
  · exact ⟨rfl, Iff.rfl⟩

theorem Account.credited_sameDelegation (a : Account) (tokens : Nat) :
    (a.credited tokens).d = a.d ∧ ((a.credited tokens).state = .shared ↔ a.state = .shared) := by
  refine ⟨rfl, ?_⟩
  change a.state.moved = .shared ↔ a.state = .shared
  cases a.state <;> simp [DelegationState.moved]

theorem State.reportRelease_sameDelegation (s : State) (p : Nat) (change : ChangeKind) (hold : Hold) (handle : Handle) (delta : Int) :
    SameDelegation s (s.reportRelease p change hold handle delta) := by
  simp only [State.reportRelease, State.setGap]
  (repeat' split)
  · exact State.modAcct_sameDelegation (s.pushUp _) p fun _ => ⟨rfl, Iff.rfl⟩
  · exact .of_accounts rfl
  · exact (s.modAcct_sameDelegation p (g := fun a => { a with gap := true }) fun _ => ⟨rfl, Iff.rfl⟩).trans (.of_accounts (by simp))

theorem State.credit_sameDelegation (s : State) (p : Nat) (change : ChangeKind) (hold : Hold) (handle : Handle) :
    SameDelegation s (s.credit p change hold handle) := by
  have hcredited : SameDelegation s (s.modAcct p (fun a => a.credited hold.tokens)) :=
    s.modAcct_sameDelegation p fun a => a.credited_sameDelegation hold.tokens
  have hevaluated : SameDelegation s ((s.modAcct p (fun a => a.credited hold.tokens)).reevaluate p) := hcredited.trans fun q => by
    rw [State.acct_reevaluate]
    split
    · next h => subst h; exact ⟨rfl, Iff.rfl⟩
    · exact ⟨rfl, Iff.rfl⟩
  simp only [State.credit]
  generalize (s.modAcct p (fun a => a.credited hold.tokens)).reevaluate p = v at hevaluated
  have hreported : SameDelegation s (if (s.acct p).state = .shared then v.reportRelease p change hold handle (-(Int.ofNat hold.tokens))
      else v) := by
    split
    · exact hevaluated.trans (v.reportRelease_sameDelegation p change hold handle _)
    · exact hevaluated
  split
  · exact hreported.trans (.of_accounts (by simp))
  · exact hreported

theorem State.endHold_sameDelegation (s : State) (slot : Nat) (hold : Hold) : SameDelegation s (s.endHold slot hold) := by
  have hremoved (change : ChangeKind) : SameDelegation s (s.removeHold slot hold change) :=
    (SameDelegation.of_accounts (t := s.freeSlot slot) rfl).trans
      (((s.freeSlot slot).credit_sameDelegation hold.pool change hold (s.handleAt slot)).trans
        (.of_accounts (t := s.removeHold slot hold change) (by simp [State.removeHold])))
  rw [State.endHold]
  split
  · exact .of_accounts rfl
  · exact (hremoved .reclaim).trans (.of_accounts rfl)
  · exact hremoved .lingerEnd

/-! ### All of them -/

theorem State.entries_endHold (s : State) (slot : Nat) (hold : Hold) : (s.endHold slot hold).queues.entries = s.queues.entries := by
  have hremoved (change : ChangeKind) : (s.removeHold slot hold change).queues.entries = s.queues.entries := by
    rw [State.removeHold, State.slotFreed]
    split <;> simp
  rw [State.endHold]
  split
  · rfl
  · simp [State.reclaim, hremoved]
  · exact hremoved .lingerEnd

/-- What the processing of holds leaves, whatever the accounts hold. -/
theorem State.endHolds_leaves (hs : List (Nat × Hold)) (s : State) (hn : ∀ e ∈ hs, e.2.state ≠ .active) :
    DefersNotices s (s.endHolds hs) ∧ SameDelegation s (s.endHolds hs) ∧ (s.endHolds hs).queues.entries = s.queues.entries ∧
      ∀ e ∈ (s.endHolds hs).holds.slots, e ∈ s.holds.slots ∧ ∀ x ∈ hs, x.1 ≠ e.1 := by
  induction hs generalizing s with
  | nil => exact ⟨.of_kept rfl, .of_accounts rfl, rfl, fun e he => ⟨he, by simp⟩⟩
  | cons x hs ih =>
    have hcons : s.endHolds (x :: hs) = (s.endHold x.1 x.2).endHolds hs := rfl
    obtain ⟨hd, ha, hq, hslots⟩ := ih (s.endHold x.1 x.2) fun e he => hn e (List.mem_cons_of_mem _ he)
    rw [hcons]
    refine ⟨(s.endHold_defers x.1 x.2).trans hd, (s.endHold_sameDelegation x.1 x.2).trans ha, hq.trans (s.entries_endHold x.1 x.2),
      fun e he => ?_⟩
    obtain ⟨hmem, hothers⟩ := hslots e he
    rw [State.slots_endHold s (hn x (List.mem_cons_self ..)), Table.mem_remove] at hmem
    refine ⟨hmem.1, fun y hy => ?_⟩
    rcases List.mem_cons.1 hy with rfl | hy
    · exact hmem.2.symm
    · exact hothers y hy

/-- Once the overdue holds have been processed no deadline of a hold that is not ACTIVE has been reached. -/
theorem State.endHolds_overdue (s : State) :
    ∀ e ∈ (s.endHolds s.overdue).holds.slots, e.2.state ≠ .active → s.time.now < e.2.deadline := by
  obtain ⟨-, -, -, hslots⟩ := s.endHolds_leaves s.overdue fun e he => ((s.mem_overdue e).1 he).2.2
  intro e he hstate
  obtain ⟨hmem, hothers⟩ := hslots e he
  refine Classical.byContradiction fun hle => ?_
  exact hothers e ((s.mem_overdue e).2 ⟨hmem, Nat.not_lt.1 hle, hstate⟩) rfl

end Sys2Proof.Machine
end

section
/-! PROOFS. RESUME (R163 to R168). -/

namespace Sys2Proof.Machine

open Host

variable {s t u v a : State} {f : Frame} {k : Key} {image : List Word}

/-! ### The reply (R166) -/

theorem ValuedUnder.resumeReply_eq (hv : ValuedUnder s f image v) (overdue : Nat) :
    resumeReply image v (v.queueAction image) (v.actedOn image) s.recon.latch overdue = s.resumeAnswer image overdue := by
  obtain ⟨hmode, -, hempty⟩ := v.actedOn_sets image
  have hlength : v.queues.entries.length = s.queues.entries.length := by rw [hv.entries, List.length_map]
  rw [resumeReply, State.resumeAnswer, hmode, hlength]
  by_cases h6 : imageWord image 6 = 1
  · have hacted : (v.queueAction image).queues.entries = [] := by
      rw [State.queueAction, if_pos h6]
      exact v.entries_withdrawAll
    simp [hacted, hempty (.inl h6), h6, summaryCount]
  · have hacted : v.queueAction image = v := if_neg h6
    by_cases h5 : imageWord image 5 = 1
    · simp [hacted, hlength, hempty (.inr h5), h6, h5, summaryCount]
    · have hkept : (v.actedOn image).queues.entries.length = s.queues.entries.length := by
        rw [State.actedOn_of_keep h6 h5]
        exact hlength
      simp [hacted, hlength, hkept, h6, h5, summaryCount]

/-- A reply to a RESUME, and the notices that follow it (R184; log 16). -/
theorem State.answerMgmt_behind {notices : List UpEntry} (hd : u.deferred = some notices) (hn : ∀ x ∈ notices, UpEntry.isNotice x = true)
    (hpeer : u.svc.peer = addrsOf f) (hparams : u.mgmt.params = s.mgmt.params) (q : MgmtReply) :
    ∃ joined, (∀ x ∈ joined, UpEntry.isNotice x = true) ∧
      (u.answerMgmt k q).svc.upstream = u.svc.upstream ++ [replyTo f s.mgmt.params.seatType k q] ++ joined := by
  obtain ⟨joined, hsub, hup, -⟩ := State.answerMgmt_joins k q hd
  have heth : u.ownEth = ethTo f s := by
    rw [State.ownEth, hpeer, hparams]
    rfl
  exact ⟨joined, fun x hx => hn x (hsub.subset hx), by rw [hup, heth]; rfl⟩

theorem State.answerMgmt_quiet (k : Key) (q : MgmtReply) : Quiet (u.answerMgmt k q) := by
  rw [State.answerMgmt_only]
  exact ⟨rfl, rfl⟩

/-! ### What every valid RESUME leaves of the state under its image -/

/-- What a valid RESUME leaves of the state under its image, whether the latch was set or not. -/
structure Resumed (a t : State) : Prop where
  quiet : Quiet t
  intake : t.svc.intake = a.svc.intake
  banks : t.banks = a.banks
  link : t.link = a.link
  time : t.time = a.time
  farm : t.farm = a.farm
  entries : t.queues.entries = a.queues.entries
  delegation : SameDelegation a t

/-! ### The latch clear (R75, R91, R166) -/

theorem State.resumeValid_of_clear (h : s.recon.latch = false) :
    s.resumeValid k image =
      State.askAllOrdered
        (((s.underImage image).endHolds (s.underImage image).overdue).answerMgmt k
          (resumeReply image (s.resumeValues image) ((s.resumeValues image).queueAction image) (s.underImage image) false
            (s.underImage image).overdue.length)).waitingPools
        (((s.underImage image).endHolds (s.underImage image).overdue).answerMgmt k
          (resumeReply image (s.resumeValues image) ((s.resumeValues image).queueAction image) (s.underImage image) false
            (s.underImage image).overdue.length)) :=
  if_neg (by simp [h])

/-- The end of a RESUME that finds the latch clear: the overdue holds, the reply, and a pass on every pool with a queue. -/
theorem resumed_of_clear {notices : List UpEntry} {q : MgmtReply} (hd : a.deferred = some notices)
    (hn : ∀ x ∈ notices, UpEntry.isNotice x = true) (hpeer : a.svc.peer = addrsOf f) (hparams : a.mgmt.params = s.mgmt.params)
    (ht : t = State.askAllOrdered ((a.endHolds a.overdue).answerMgmt k q).waitingPools ((a.endHolds a.overdue).answerMgmt k q)) :
    Resumed a t ∧ t.mode = a.mode ∧ t.recon = a.recon ∧ (∀ e ∈ t.holds.slots, e.2.state ≠ .active → t.time.now < e.2.deadline) ∧
      (∀ e ∈ t.queues.entries, e.pool ∈ t.queues.marks) ∧
      ∃ joined, (∀ x ∈ joined, UpEntry.isNotice x = true) ∧
        t.svc.upstream = (a.endHolds a.overdue).svc.upstream ++ [replyTo f s.mgmt.params.seatType k q] ++ joined ∧
        t.accounts = (a.endHolds a.overdue).accounts ∧ t.holds = (a.endHolds a.overdue).holds ∧ t.fwd = (a.endHolds a.overdue).fwd ∧
        t.farm = (a.endHolds a.overdue).farm ∧ t.time = (a.endHolds a.overdue).time ∧
        t.mgmt.stats = (a.endHolds a.overdue).mgmt.stats ∧ t.queues.entries = (a.endHolds a.overdue).queues.entries ∧
        ∀ p, p ∈ (a.endHolds a.overdue).queues.marks → p ∈ t.queues.marks := by
  obtain ⟨hdefers, hdelegation, hentries, -⟩ := a.endHolds_leaves a.overdue fun e he => ((a.mem_overdue e).1 he).2.2
  obtain ⟨more, hmore, hheld⟩ := hdefers notices hd
  obtain ⟨joined, hjoined, hup⟩ := State.answerMgmt_behind (u := a.endHolds a.overdue) (k := k) hheld
    (fun x hx => (List.mem_append.1 hx).elim (hn x) (hmore x)) (by simpa using hpeer) (by simpa using hparams) q
  have hquiet := (State.answerMgmt_quiet (u := a.endHolds a.overdue) k q)
  have hafter := a.endHolds_overdue
  have hpools := ((a.endHolds a.overdue).answerMgmt k q).mem_waitingPools
  have hmarks := State.mem_askAllOrdered ((a.endHolds a.overdue).answerMgmt k q).waitingPools ((a.endHolds a.overdue).answerMgmt k q)
  subst ht
  refine ⟨⟨by simpa [Quiet] using hquiet, by simp, by simp, by simp, by simp, by simp, by simpa using hentries,
    hdelegation.trans (.of_accounts (by simp))⟩, by simp, by simp, by simpa using hafter, fun e he => ?_, joined, hjoined,
    by simpa using hup, by simp, by simp, by simp, by simp, by simp, by simp, by simp, fun p hp => ?_⟩
  · rw [State.entries_askAllOrdered] at he
    exact (hmarks _).2 (.inr ((hpools _).2 ⟨e, he, rfl⟩))
  · exact (hmarks _).2 (.inl (by simpa using hp))

/-! ### The latch set (R157, R167) -/

theorem State.resumeValid_of_latched (h : s.recon.latch = true) :
    s.resumeValid k image =
      ((s.underImage image).reenter.answerMgmt k
        (resumeReply image (s.resumeValues image) ((s.resumeValues image).queueAction image) (s.underImage image) true 0)).testReconciling :=
  if_pos h

/-- The READY of a new image. -/
def State.readyOf (s : State) : UpEntry :=
  UpEntry.ready s.ownEth (s.recon.originKey.getD { node := 0, process := 0, tag := 0 })
    { length := s.builtImage.length, summaries := s.delegatedPools.length, entryTime := s.recon.entryTime.getD 0,
      buildTime := s.time.now, reentry := s.recon.reentry }

/-- The test for the move to RECONCILING, in ENTERING with no place kept back: the image is built, or the test fails (R157). -/
theorem State.testReconciling_moves (hm : u.mode = .entering) (hr : u.reserved = 0) (hi : u.recon.image = none)
    (ht : t = u.testReconciling) :
    (t.mode = .entering ∨ t.mode = .reconciling) ∧ t.recon = { u.recon with image := t.recon.image } ∧
      ∃ ready, t.svc.upstream = u.svc.upstream ++ ready ∧
        (0 < u.reportCount → t.mode = .entering ∧ t.recon.image = none ∧ ready = []) ∧
        (u.reportCount = 0 → t.mode = .reconciling ∧ t.recon.image = some u.builtImage ∧
          ready = if u.svc.upstream.length < 1024 then [u.readyOf] else []) := by
  rcases Nat.eq_zero_or_pos u.reportCount with hzero | hpos
  · have heq : t = ((u.setRecon { u.recon with image := some u.builtImage }).setMode .reconciling).offerUp u.readyOf :=
      ht.trans ((State.testReconciling_of_entering hm hzero).trans u.becomeReconciling_eq)
    have hroom : ((u.setRecon { u.recon with image := some u.builtImage }).setMode .reconciling).mgmtRoom =
        decide (u.svc.upstream.length < 1024) := by
      rw [State.mgmtRoom, State.setMode_reserved, State.setRecon_reserved, hr, State.setMode_svc, State.setRecon_svc]
      rfl
    have honly := ((u.setRecon { u.recon with image := some u.builtImage }).setMode .reconciling).offerUp_only u.readyOf
    have hup : t.svc.upstream = u.svc.upstream ++ if u.svc.upstream.length < 1024 then [u.readyOf] else [] := by
      rw [heq, State.offerUp, hroom]
      split
      · next h => rw [if_pos (of_decide_eq_true h)]; rfl
      · next h => rw [if_neg (fun hlt => h (decide_eq_true hlt)), List.append_nil]; rfl
    rw [← heq] at honly
    have hmode : t.mode = .reconciling := by rw [honly]; rfl
    have hrecon : t.recon = { u.recon with image := some u.builtImage } := by rw [honly]; rfl
    exact ⟨.inr hmode, by rw [hrecon], _, hup, fun h => absurd hzero (Nat.pos_iff_ne_zero.1 h), fun _ => ⟨hmode, by rw [hrecon], rfl⟩⟩
  · have heq : t = u := ht.trans (State.testReconciling_of_reports hpos)
    subst heq
    exact ⟨.inl hm, rfl, [], by simp, fun _ => ⟨hm, hi, rfl⟩, fun h => absurd h (Nat.pos_iff_ne_zero.1 hpos)⟩

theorem UpEntry.isReport_of_isNotice {e : UpEntry} (h : e.isNotice = true) : e.isReport = false := by
  cases e <;> simp_all [UpEntry.isNotice, UpEntry.isReport]

theorem State.reportCount_answered {joined : List UpEntry} {q : MgmtReply} {x : Half}
    (hup : t.svc.upstream = u.svc.upstream ++ [replyTo f x k q] ++ joined) (hj : ∀ e ∈ joined, UpEntry.isNotice e = true) :
    t.reportCount = u.reportCount := by
  have hnone : joined.filter UpEntry.isReport = [] := List.filter_eq_nil_iff.2 fun e he => by
    rw [UpEntry.isReport_of_isNotice (hj e he)]
    exact Bool.false_ne_true
  rw [State.reportCount, State.reportCount, hup, List.filter_append, List.filter_append, hnone, List.append_nil]
  simp [replyTo, UpEntry.isReport]

/-- The end of a RESUME that finds the latch set: the reply, its notices, and the re-entry under the latched key. -/
theorem resumed_of_latched {notices : List UpEntry} {q : MgmtReply} (hd : a.deferred = some notices)
    (hn : ∀ x ∈ notices, UpEntry.isNotice x = true) (hpeer : a.svc.peer = addrsOf f) (hparams : a.mgmt.params = s.mgmt.params)
    (hi : a.recon.image = none) (ht : t = (a.reenter.answerMgmt k q).testReconciling) :
    Resumed a t ∧ (t.mode = .entering ∨ t.mode = .reconciling) ∧
      t.recon =
        { a.recon with
          latch := false, latchedKey := none, originKey := a.recon.latchedKey, entryTime := some a.time.now,
          entryDraining := decide (a.mode = .draining), reentry := true, image := t.recon.image } ∧
      ∃ joined ready, (∀ x ∈ joined, UpEntry.isNotice x = true) ∧
        t.svc.upstream = a.svc.upstream ++ [replyTo f s.mgmt.params.seatType k q] ++ joined ++ ready ∧
        t.accounts = a.accounts ∧ t.holds = a.holds ∧ t.fwd = a.fwd ∧ t.farm = a.farm ∧ t.time = a.time ∧
        t.mgmt.stats = a.mgmt.stats ∧ t.queues = a.queues ∧
        (0 < a.reportCount → t.mode = .entering ∧ t.recon.image = none ∧ ready = []) ∧
        (a.reportCount = 0 → t.mode = .reconciling ∧
          ∃ built, t.recon.image = some built ∧
            (AccountsListed a → BuiltImage t a.time.now (decide (a.mode = .draining)) built) ∧
            ∀ latched, a.recon.latchedKey = some latched →
              ready =
                if a.svc.upstream.length + 1 + joined.length < 1024 then
                  [UpEntry.ready (ethTo f s) latched
                    { length := built.length, summaries := t.delegatedPools.length, entryTime := a.time.now,
                      buildTime := a.time.now, reentry := true }]
                else []) := by
  obtain ⟨joined, hjoined, hup⟩ := State.answerMgmt_behind (u := a.reenter) (k := k) (f := f) (s := s) hd hn hpeer hparams q
  have honly := State.answerMgmt_only (s := a.reenter) k q
  have hpeerkept : (a.reenter.answerMgmt k q).svc.peer = addrsOf f := by simpa [State.reenter] using hpeer
  have hintake : (a.reenter.answerMgmt k q).svc.intake = a.svc.intake := by simp [State.reenter]
  have hcount : (a.reenter.answerMgmt k q).reportCount = a.reportCount := State.reportCount_answered hup hjoined
  generalize a.reenter.answerMgmt k q = r at hup honly hpeerkept hintake hcount ht
  have hmode : r.mode = .entering := by rw [honly]; rfl
  have hrecon : r.recon =
      { a.recon with
        latch := false, latchedKey := none, originKey := a.recon.latchedKey, entryTime := some a.time.now,
        entryDraining := decide (a.mode = .draining), reentry := true } := by rw [honly]; rfl
  have hreserved : r.reserved = 0 := by rw [honly]
  have hdeferred : r.deferred = none := by rw [honly]
  have hkept : r.banks = a.banks ∧ r.link = a.link ∧ r.time = a.time ∧ r.farm = a.farm ∧ r.queues = a.queues ∧
      r.accounts = a.accounts ∧ r.holds = a.holds ∧ r.fwd = a.fwd ∧ r.mgmt = a.mgmt := by
    rw [honly]
    exact ⟨rfl, rfl, rfl, rfl, rfl, rfl, rfl, rfl, rfl⟩
  obtain ⟨hbanks, hlink, htime, hfarm, hqueues, haccounts, hholds, hfwd, hmgmt⟩ := hkept
  obtain ⟨htmode, htrecon, ready, hready, hreports, hbuilt⟩ := State.testReconciling_moves hmode hreserved (by rw [hrecon]; exact hi) ht
  have htkept : t.banks = a.banks ∧ t.link = a.link ∧ t.time = a.time ∧ t.farm = a.farm ∧ t.queues = a.queues ∧
      t.accounts = a.accounts ∧ t.holds = a.holds ∧ t.fwd = a.fwd ∧ t.mgmt = a.mgmt ∧ t.reserved = 0 ∧ t.deferred = none ∧
      t.svc.intake = a.svc.intake := by
    rw [ht]
    simp [hbanks, hlink, htime, hfarm, hqueues, haccounts, hholds, hfwd, hmgmt, hreserved, hdeferred, hintake]
  obtain ⟨htbanks, htlink, httime, htfarm, htqueues, htaccounts, htholds, htfwd, htmgmt, htreserved, htdeferred, htintake⟩ := htkept
  rw [hcount] at hreports hbuilt
  refine ⟨⟨⟨htreserved, htdeferred⟩, htintake, htbanks, htlink, httime, htfarm, by rw [htqueues], .of_accounts htaccounts⟩, htmode,
    htrecon.trans (by rw [hrecon]), joined, ready, hjoined, hready.trans (by rw [hup]; rfl), htaccounts, htholds, htfwd, htfarm, httime,
    by rw [htmgmt], htqueues, hreports, fun hzero => ?_⟩
  obtain ⟨hreconciling, himage, hreadyeq⟩ := hbuilt hzero
  refine ⟨hreconciling, r.builtImage, himage, fun hl => ?_, fun latched hlatched => ?_⟩
  · have hread := State.builtImage_built (s := r) (entry := a.time.now) (hl.congr haccounts) (by rw [hrecon])
    rw [hrecon] at hread
    exact hread.congr (by rw [htaccounts, haccounts]) (by rw [httime, htime]) (by rw [htmgmt, hmgmt])
  · have hlength : r.svc.upstream.length = a.svc.upstream.length + 1 + joined.length := by
      rw [hup, List.length_append, List.length_append]
      rfl
    have hpools : r.delegatedPools = t.delegatedPools := (State.delegatedPools_congr (by rw [htaccounts, haccounts])).symm
    have heth : r.ownEth = ethTo f s := by
      rw [State.ownEth, hpeerkept, hmgmt, hparams]
      rfl
    rw [hreadyeq, hlength, State.readyOf, heth, hpools, hrecon, hlatched, htime]
    rfl

end Sys2Proof.Machine
end

section
/-! PROOFS. What a valid RESUME applies, and the obligation itself (R163 to R168). -/

namespace Sys2Proof.Machine

open Host

variable {s t v a : State} {f : Frame} {k : Key} {image : List Word}

/-! ### What the image keeps exact and listed -/

theorem Account.summarised_flag (b : Account) (i : Nat) (flag : Bool) :
    (b.summarised image i flag).overcommit = flag ∧ (b.summarised image i flag).h = b.h := ⟨rfl, rfl⟩

theorem OvercommitExact.applySummary (hx : OvercommitExact s) (i : Nat) : OvercommitExact (s.applySummary image i) := by
  have hframe : ImageFrame s (s.applySummary image i) := State.delegatePool_frame _ _ _ _
  intro p
  have hacct := s.acct_applySummary image i p
  by_cases hp : summaryPool image i = p
  · rw [if_pos hp] at hacct
    obtain ⟨hflag, hh⟩ :=
      (s.acct p).summarised_flag (image := image) i (decide ((s.applySummary image i).effectiveCeiling p < (s.acct p).h))
    rw [← hacct] at hflag hh
    rw [hflag, hh]
  · rw [if_neg hp] at hacct
    rw [State.effectiveCeiling_congr hframe.banks (by rw [hframe.link]) p (by rw [hacct]) (by rw [hacct]), hacct, hx p]

theorem OvercommitExact.applyFirst (hx : OvercommitExact s) (n : Nat) : OvercommitExact (s.applyFirst image n) := by
  induction n with
  | zero => exact hx
  | succ n ih =>
    rw [State.applyFirst_succ]
    exact ih.applySummary n

theorem OvercommitExact.actedOn (hx : OvercommitExact s) (image : List Word) : OvercommitExact (s.actedOn image) := by
  have hact := s.actedOn_frame image
  refine hx.congr hact.banks hact.link fun p => ?_
  obtain ⟨n, hn⟩ := hact.account p
  rw [hn]
  exact ⟨rfl, rfl, rfl, rfl⟩

theorem OvercommitExact.underImage (hx : OvercommitExact s) (hl : AccountsListed s) (hv : imageFault s.time.now image = none) :
    OvercommitExact (s.underImage image) := by
  obtain ⟨hframe, -⟩ := State.relocate_leaves hv rfl
  have hrelocated : OvercommitExact (s.relocate (relocation image)) := hx.congr hframe.banks hframe.link fun p => by
    obtain ⟨hd, hs, hh, ho, -⟩ := s.relocatedAcct_figures image p
    rw [State.acct_relocate hl hv]
    exact ⟨hd, hs, hh, ho⟩
  have hvalued : OvercommitExact (s.resumeValues image) := by
    rw [State.resumeValues_eq]
    exact hrelocated.applyFirst _
  rw [State.underImage]
  exact hvalued.actedOn image

theorem SlotsListed.of_map (h : SlotsListed s) {g : Hold → Hold} (ht : t.holds.slots = s.holds.slots.map (fun e => (e.1, g e.2))) :
    SlotsListed t := by
  obtain ⟨hrising, hslots⟩ := h
  refine ⟨?_, fun e he => ?_⟩
  · rw [ht, Table.Rising, List.pairwise_map]
    exact hrising
  · rw [ht] at he
    obtain ⟨x, hx, rfl⟩ := List.mem_map.1 he
    exact hslots x hx

theorem AccountsListed.underImage (hl : AccountsListed s) : AccountsListed (s.underImage image) := by
  have hkeys {u : State} : Given.nothing.keys → KeysUnique u := False.elim
  have hvalued : Runs .nothing .request s .request (s.resumeValues image) := s.resumeValues_runs image id
  have hacted := hvalued.trans ((State.queueAction_runs _ image hkeys).trans (State.resumeState_runs _ image hkeys rfl))
  exact (hacted.trans (State.setRecon_runs ..)).keeps (P := fun _ u => AccountsListed u) Move.accountsListed hl

/-! ### The state under the image, and what a RESUME leaves of it -/

theorem State.relocatedTime_now (s : State) (image : List Word) :
    (s.relocatedTime image).now = if relocation image = 0 then s.time.now else relocation image := by
  rw [State.relocatedTime]
  split <;> rfl

/-- The state under the image, seen from the state that the RESUME found. -/
theorem State.underImage_seen (f : Frame) (hv : imageFault s.time.now image = none) (ha : a = (s.managed f).underImage image) :
    (∃ notices, (∀ x ∈ notices, UpEntry.isNotice x = true) ∧ a.deferred = some notices) ∧ a.svc.peer = addrsOf f ∧
      a.svc.intake = s.svc.intake.tail ∧ a.mgmt.params = s.mgmt.params ∧ a.reportCount = s.reportCount ∧
      a.mode = (if imageWord image 5 = 1 then .draining else .serving) ∧ a.recon = { s.recon with image := none } ∧
      a.banks = s.banks ∧ a.link = s.link ∧ a.time = s.relocatedTime image ∧
      (imageWord image 6 = 1 ∨ imageWord image 5 = 1 → a.queues.entries = []) ∧
      (imageWord image 6 = 1 → AnswersAll s a (s.entriesByPool.map (fun e => (e, FarmBody.withdrawn)))) := by
  have hvalued := s.valuedUnder f hv
  obtain ⟨-, htime, -⟩ := State.resumeValues_leaves (s := s.managed f) hv rfl
  have hframe := ((s.managed f).resumeValues image).actedOn_frame image
  obtain ⟨hmode, hrecon, hempty⟩ := ((s.managed f).resumeValues image).actedOn_sets image
  obtain ⟨notices, hn, hd⟩ := hvalued.held
  subst ha
  refine ⟨⟨notices, hn, hframe.deferred.trans hd⟩, hframe.peer.trans (by rw [hvalued.svc]; rfl),
    hframe.svcIntake.trans (by rw [hvalued.svc]; rfl), hframe.params.trans hvalued.params, hframe.reports.trans ?_, hmode,
    hrecon.trans (by rw [hvalued.recon]), hframe.banks.trans hvalued.banks, hframe.link.trans hvalued.link, hframe.time.trans htime,
    hempty, fun h6 => (hvalued.flushed h6).1⟩
  rw [State.reportCount, hvalued.svc]
  simp [ServicePort.took, State.reportCount]

/-- A RESUME that finds the image valid. -/
theorem Manages.resume_valid (h : Manages s f k .resume) (hm : s.mode = .reconciling) (hi : s.recon.image = some image)
    (hv : imageFault s.time.now image = none) : exec .resume s = .next ((s.managed f).resumeValid k image) := by
  have hwords : (s.managed f).imageWords = image := State.imageWords_of_some hi
  have hact := State.resume_of_valid (s := s.managed f) (k := k) hm (by rw [hwords]; exact hv)
  rw [hwords] at hact
  exact (h.exec_act (by simp [MgmtRequest.command])).trans (congrArg Outcome.next hact)

/-- D and the modes that the summaries set stand whatever the holds' removal does. -/
theorem Resumed.summaries (hr : Resumed ((s.managed f).underImage image) t) {i : Nat} (hi : i < summaryCount image)
    (hlast : ∀ j, i < j → j < summaryCount image → summaryPool image j ≠ summaryPool image i) :
    (t.acct (summaryPool image i)).d = imageWord image (16 + 8 * i + 2) ∧
      ((t.acct (summaryPool image i)).state = .shared ↔ imageWord image (16 + 8 * i + 3) = 1) := by
  obtain ⟨hd, hmode⟩ := (s.managed f).acct_resumeValues_mode hi hlast
  obtain ⟨n, hn⟩ := (((s.managed f).resumeValues image).actedOn_frame image).account (summaryPool image i)
  obtain ⟨htd, hts⟩ := hr.delegation (summaryPool image i)
  have had : (((s.managed f).underImage image).acct (summaryPool image i)).d = imageWord image (16 + 8 * i + 2) :=
    (congrArg Account.d hn).trans hd
  have has : (((s.managed f).underImage image).acct (summaryPool image i)).state = summaryMode image i :=
    (congrArg Account.state hn).trans hmode
  exact ⟨htd.trans had, hts.trans (by rw [has]; exact summaryMode_shared_iff)⟩

/-- Settles O59: the fault is the least failing word; a fault empties the queues; a valid image is applied, and the latch decides
between the overdue holds and a re-entry. -/
theorem resumeFaultsOrApplies : Obligations.ResumeFaultsOrApplies := by
  unfold Obligations.ResumeFaultsOrApplies
  refine ⟨fun now image => ⟨imageFault_least now image, (imageFault_least now image).eq_none_iff⟩, fun f k s h => ⟨fun hm => ?_,
    fun image offset hm hi hf hcount => ?_, fun image hm hi hv => ?_⟩⟩
  · exact h.exec_answered (by simp [MgmtRequest.command]) (State.resume_of_refused (s := s.managed f) hm)
  · obtain ⟨hmode, hrecon, hevent, hqueues, hfwd, haccts, hholds, hanswers, htime, hbanks, hlink, hparams⟩ :=
      State.faulted_leaves (s := s.managed f) hcount offset rfl
    obtain ⟨hans, honly⟩ := h.answered ((s.managed f).faulted_heldBack offset) hparams
      { kind := .resume, status := .badRequest, body := .fault offset (BitVec.ofNat 32 (imageWord image offset)) }
    refine ⟨_, h.resume_faulted hm hi hf, hans, ?_⟩
    rw [honly]
    refine ⟨hmode, hrecon, hevent, hqueues, hfwd, haccts, hholds, fun pools hpools => ?_, htime, hbanks, hlink⟩
    rw [hpools.entries]
    exact hanswers.congr rfl rfl rfl
  · obtain ⟨⟨notices, hn, hd⟩, hpeer, hintake, hparams, hreports, hmode, hrecon, hbanks, hlink, htime, hempty, hflushed⟩ :=
      State.underImage_seen f hv rfl
    have hreply : ∀ n, resumeReply image ((s.managed f).resumeValues image) (((s.managed f).resumeValues image).queueAction image)
        ((s.managed f).underImage image) s.recon.latch n = s.resumeAnswer image n := (s.valuedUnder f hv).resumeReply_eq
    have hnow : ((s.managed f).underImage image).time.now = if relocation image = 0 then s.time.now else relocation image := by
      rw [htime, State.relocatedTime_now]
    have hexec := h.resume_valid hm hi hv
    cases hlatch : s.recon.latch with
    | false =>
      rw [hlatch] at hreply
      rw [State.resumeValid_of_clear (s := s.managed f) hlatch, hreply] at hexec
      obtain ⟨hresumed, htmode, htrecon, hafter, hasked, joined, hjoined, hup, hkept⟩ := resumed_of_clear (k := k)
        (q := s.resumeAnswer image ((s.managed f).underImage image).overdue.length) hd hn hpeer hparams rfl
      refine ⟨_, hexec, hresumed.quiet, hresumed.intake.trans hintake, hresumed.banks.trans hbanks, hresumed.link.trans hlink,
        by rw [hresumed.time, hnow], fun i hi hlast => hresumed.summaries hi hlast, fun he => hresumed.entries.trans (hempty he),
        fun pools h6 hpools => ?_, fun _ => ⟨htmode.trans hmode, by rw [htrecon, hrecon], hafter, hasked⟩,
        fun h => absurd h Bool.false_ne_true, fun hl hslots hcount hx pools hpools => ?_⟩
      · rw [hpools.entries]
        exact (hflushed h6).congr rfl rfl hresumed.farm
      · have happlied := State.underImage_applied f hl hcount hv
        have hlisted : SlotsListed ((s.managed f).underImage image) := by
          obtain ⟨⟨-, hholds, -⟩, -⟩ := happlied
          exact hslots.of_map (by rw [hholds])
        have hexact : OvercommitExact ((s.managed f).underImage image) := OvercommitExact.underImage (s := s.managed f) hx hl hv
        rw [hpools.entries]
        exact ⟨_, happlied, fun _ => ⟨_, _, joined, State.overdue_ordered hlisted,
          State.endHolds_ended _ hexact fun e he => ((State.mem_overdue _ e).1 he).2.2, hjoined, hup, hkept⟩,
          fun h => absurd h Bool.false_ne_true⟩
    | true =>
      rw [hlatch] at hreply
      rw [State.resumeValid_of_latched (s := s.managed f) hlatch, hreply] at hexec
      obtain ⟨hresumed, htmode, htrecon, joined, ready, hjoined, hup, haccounts, hholds, hfwd, hfarm, httime, hstats, hqueues, hwaits,
        hbuilds⟩ := resumed_of_latched (k := k) (q := s.resumeAnswer image 0) hd hn hpeer hparams (by rw [hrecon]) rfl
      have hdraining : decide (((s.managed f).underImage image).mode = .draining) = decide (imageWord image 5 = 1) := by
        rw [hmode]
        by_cases h5 : imageWord image 5 = 1
        · rw [if_pos h5, decide_eq_true h5, decide_eq_true rfl]
        · rw [if_neg h5, decide_eq_false h5]
          rfl
      refine ⟨_, hexec, hresumed.quiet, hresumed.intake.trans hintake, hresumed.banks.trans hbanks, hresumed.link.trans hlink,
        by rw [hresumed.time, hnow], fun i hi hlast => hresumed.summaries hi hlast, fun he => hresumed.entries.trans (hempty he),
        fun pools h6 hpools => ?_, fun h => absurd h.symm Bool.false_ne_true, fun _ => ⟨htmode, ?_⟩,
        fun hl hslots hcount hx pools hpools => ?_⟩
      · rw [hpools.entries]
        exact (hflushed h6).congr rfl rfl hresumed.farm
      · rw [htrecon, hrecon, httime, hdraining]
        exact ⟨rfl, rfl, rfl, rfl, rfl, rfl⟩
      · have hlisted : AccountsListed ((s.managed f).underImage image) := AccountsListed.underImage (s := s.managed f) hl
        rw [hpools.entries]
        refine ⟨_, State.underImage_applied f hl hcount hv, fun h => absurd h.symm Bool.false_ne_true,
          fun _ => ⟨joined, ready, hjoined, hup, haccounts, hholds, hfwd, hfarm, httime, hstats, hqueues, ?_, fun hzero => ?_⟩⟩
        · rwa [hreports] at hwaits
        · rw [hreports, hrecon, hdraining] at hbuilds
          obtain ⟨hreconciling, built, himage, hread, hready⟩ := hbuilds hzero
          rw [httime]
          exact ⟨hreconciling, built, himage, hread hlisted, hready⟩

end Sys2Proof.Machine
end
